-- ==== Sys2Proof/Word.lean ====
section
/-! DEFINITION. The word types of the X9 and their plainest arithmetic. -/
namespace Sys2Proof

abbrev Byte := BitVec 8
abbrev U16 := BitVec 16
/-- A dictionary value in its 32-bit window form (*The object dictionary*, table of types). -/
abbrev U32 := BitVec 32
/-- A time-base value, in counts of 250 ps (*Islands, handshakes and the time base*). -/
abbrev U64 := BitVec 64

/-- A natural number as a 32-bit word, modulo 2³². -/
abbrev u32 (n : Nat) : U32 := BitVec.ofNat 32 n

/-- An integer as a 32-bit word, modulo 2³². -/
abbrev i32 (z : Int) : U32 := BitVec.ofInt 32 z

/-- A Boolean as a bit of a word. -/
def bit01 (b : Bool) : Nat := if b then 1 else 0

end Sys2Proof
end

