-- ==== Sys2Proof/Syntax.lean ====
section
/-! DEFINITION. The commands of the X9: one constructor of `Instr` per row of the opcode table, with the operands that
the outside world, or the part of the X9 that acts, supplies. Missing bytes of a byte operand read as 0. -/
namespace Sys2Proof

/-- The paths of *The X9 in one pass*. -/
inductive Path where
  | p0 | p1 | p2 | p3 | p4 | p5 | p6
deriving DecidableEq, Repr

def Path.num : Path → Nat
  | .p0 => 0 | .p1 => 1 | .p2 => 2 | .p3 => 3 | .p4 => 4 | .p5 => 5 | .p6 => 6

/-- A command record (*The command record*); its reserved bytes are not held (R5). -/
structure CmdRecord where
  hostSeq : U16
  opcode : Byte
  flags : Byte
  index : U16
  sub : Byte
  length : Byte
  expEpoch : U16
  data : List Byte
deriving DecidableEq, Repr

/-- Where a line trigger comes from (the trigger-source table): a line of the trigger bus, or frame sync. -/
inductive TrigFrom where
  | bus (line : Fin 16)
  | frameSync
deriving DecidableEq, Repr

/-- A request of a crossing that is not acknowledged (R169): a write of a path, a command record of a path (with its member of origin on P5),
or a transfer that answers to no path. -/
inductive CrossReq where
  | write (p : Path) (idx : BitVec 16) (sub : Byte) (v : BitVec 32)
  | record (p : Path) (src : Nat) (r : CmdRecord)
  | other
deriving DecidableEq, Repr

/-- The masters of the memories (owner-code table); the HMAC unit reads the key slot of SECURE. -/
inductive Master where
  | path (p : Path)
  | line (h : Fin 4)
  | stream (k : Fin 8)
  | hmac
deriving DecidableEq, Repr

/-- The commands: one constructor per row of the opcode table, those with operands first (compiled Lean numbers at most 245 of
them), those without last. -/
inductive Instr where
  /-- R115: A write to a dictionary entry that has no row of its own, from any path and in any form, is checked in the
  order of R115 and then applied or refused. -/
  | dictionaryWrite (p : Path) (idx : BitVec 16) (sub : Byte) (v : BitVec 32) (enables : BitVec 4)
  /-- R69: A write of LEVEL_KEY grants expert level to the writing path for the right key, clears the grant for 0, or is
  refused with KEY_WRONG and clears the grant. -/
  | levelKeyWrite (p : Path) (v : BitVec 32)
  /-- R87: A write of the path's own number to CLAIM takes a free unit, or is refused with CLAIMED or RANGE. -/
  | claimTake (p : Path) (u : Fin 56) (v : BitVec 8)
  /-- R87: A write of 0xFF to CLAIM by the holding path releases the unit. -/
  | claimRelease (p : Path) (u : Fin 56)
  /-- R90: An expert path writes 0xFF to the CLAIM of a unit that another path holds, which releases the unit and produces
  CLAIM_BROKEN. -/
  | claimBroken (p : Path) (u : Fin 56)
  /-- R108: Writing 0x6461_6F6C in PREPARE sets every entry outside R109 to its default in each island and produces
  DEFAULTS_RESTORED. -/
  | restoreDefaults (p : Path) (v : BitVec 32)
  /-- R903: An owning island pushes a changed value, together with its unit's epoch, to the mirror in HOST. -/
  | mirrorUpdate (idx : BitVec 16) (sub : Byte)
  /-- R162: Within 10 µs of an accepted change, the group's STATE_DIGEST and DIGEST_SEQ are updated together. -/
  | stateDigestUpdate (g : Fin 16)
  /-- R923: A MODE_REQ write of 0 is range-checked and becomes the pending request, superseding any earlier pending
  request. -/
  | modeReqPrepare (p : Path)
  /-- R923: A MODE_REQ write of 1 becomes the pending mode request. -/
  | modeReqCalibrate (p : Path)
  /-- R923: A MODE_REQ write of 2, or an NMT Start, becomes the pending mode request. -/
  | modeReqScan (p : Path)
  /-- R58: A MODE_REQ write of 3, or an NMT Stop, is taken up at once, supersedes any pending request, and reaches SEQ
  over the halt line. -/
  | modeReqPark (p : Path)
  /-- R135: A NOP command record completes with the current device sequence. -/
  | nop (p : Path) (r : CmdRecord)
  /-- R130: A READ command record samples up to 10 consecutive windowed entries in one step in the owning island,
  conditionally if flagged. -/
  | read (p : Path) (r : CmdRecord)
  /-- R131: A WRITE command record is checked in full and then applies all its entries of one unit in one step, or none of
  them. -/
  | write (p : Path) (r : CmdRecord)
  /-- R84: A DOMAIN_WRITE command record writes inline or bank-referenced data to a DOMAIN object, taking effect as a
  whole. -/
  | domainWrite (p : Path) (r : CmdRecord)
  /-- R134: A DOMAIN_READ command record copies a DOMAIN object into a referenced bank range that the path owns. -/
  | domainRead (p : Path) (r : CmdRecord)
  /-- R155: A JOURNAL_READ command record returns the oldest held journal entry newer than S, or JOURNAL_LOST. -/
  | journalRead (p : Path) (r : CmdRecord)
  /-- R127: A command record with an unlisted opcode consumes its host sequence and completes with BAD_OPCODE. -/
  | commandBadOpcode (p : Path) (r : CmdRecord)
  /-- R176: A FENCE_REQ write of 1 requests that island i be fenced. -/
  | fenceRequest (p : Path) (isl : Fin 15)
  /-- R185: A FENCE_REQ write of 0 moves a fenced island to LOCKING and starts its PLL. -/
  | readmitRequest (p : Path) (isl : Fin 15)
  /-- R179: Within 100 ns the fence takes effect: outputs go to their fenced states, the fence logic increments and pushes
  the epochs, and the fence event is sent. -/
  | fenceTakesEffect (isl : Fin 15)
  /-- R177: An island's PLL loses lock, which is an automatic fence by P6. -/
  | islandPllLost (isl : Fin 15)
  /-- R169: A request that is not acknowledged within 10 µs is answered absent, and the receiver is fenced with cause
  HANDSHAKE. -/
  | handshakeTimeout (sender receiver : Fin 15) (req : CrossReq)
  /-- R185: An island PLL in LOCKING locks, and the island enters SYNCING; after a device reset, this is the lock of R834.
  -/
  | islandPllLock (isl : Fin 15)
  /-- R185: With no lock within 1 ms, the island returns to FENCED with READMIT_FAILED. -/
  | readmitLockTimeout (isl : Fin 15)
  /-- R186: After 16 time-base samples, a consistent attempt enters WAITING; a third inconsistent attempt returns to
  FENCED with READMIT_FAILED. -/
  | syncAttemptEnd (isl : Fin 15) (samples : List (U64 × U64))
  /-- R917: At the readmission point of its type, the island enters RUNNING, its epochs increment and ISLAND_READMITTED is
  recorded. -/
  | readmissionPoint (isl : Fin 15)
  /-- R232: The interpolated feed position L arrives at HEADh, and a position line fires when L reaches the next compare
  point in the direction of travel. -/
  | rulingPositionArrival (h : Fin 4) (frac : Fin 256)
  /-- R223: A HEAD_EN write of 1 moves the head from OFF to IDLE, or to ARMED in SCAN. -/
  | headEnable (p : Path) (h : Fin 4)
  /-- R223: A HEAD_EN write of 0 moves the head to OFF, truncating the current line and discarding a pending line. -/
  | headDisable (p : Path) (h : Fin 4)
  /-- R221: A HOST_TRIG write of 1 starts a line on the next step clock, or is refused. -/
  | hostTrig (p : Path) (h : Fin 4)
  /-- R223: A trigger from the bus, frame sync or host reaches an armed head and starts a line, makes it PENDING, or is
  dropped. -/
  | lineTrigger (h : Fin 4) (src : TrigFrom)
  /-- R223: The line occupancy ends; the head returns to ARMED, starts its pending line, or enters DONE. -/
  | lineEnd (h : Fin 4)
  /-- R212: Nib's count reaches EXP_START_c, and the window of colour c opens. -/
  | exposureWindowOpen (h : Fin 4) (c : Fin 3)
  /-- R214: The window closes at EXP_START_c + EXP_LEN_c, or at E in photon mode, or is cut at the next line start. -/
  | exposureWindowClose (h : Fin 4) (c : Fin 3)
  /-- R207: Within 1 µs of a write that changes it, LINE_DUR is recomputed. -/
  | lineDurUpdate (h : Fin 4)
  /-- R255: A conversion ends and yields a sample with its code, range tag, CLIP flag and N, which goes to LINE. -/
  | adcSample (n : Fin 12) (clk : BitVec 32) (levels : List (BitVec 32 × Int)) (direct err werr : Int)
  /-- R280: A word arrives on an active lane and becomes a pixel of the open colour line, or is discarded. -/
  | lanePixelWord (h : Fin 4) (l : Fin 8) (word : BitVec 14)
  /-- R281: A start-of-line sync sequence opens its colour of the line, and the lanes deskew. -/
  | laneStartOfLine (h : Fin 4) (words : List (BitVec 14)) (skews : List Int)
  /-- R280: An end-of-line sync sequence closes the colour line. -/
  | laneEndOfLine (h : Fin 4) (words : List (BitVec 14))
  /-- R283: An idle sync sequence aligns or realigns the lane's bit phase and word boundary. -/
  | laneIdleSequence (h : Fin 4) (l : Fin 8) (words : List (BitVec 14))
  /-- R285: A sync sequence with an unlisted code word increments SYNC_ERRORS, and words are discarded until the next
  start of line. -/
  | laneUnlistedCode (h : Fin 4) (l : Fin 8) (words : List (BitVec 14))
  /-- R284: A lane loses alignment, supplies zeros for the rest of the line and produces LANE_SYNC_LOST. -/
  | laneAlignmentLost (h : Fin 4) (l : Fin 8)
  /-- R296: LINE completes a line's processing and emits its record, with its flags, towards its route. -/
  | lineRecordEmit (h : Fin 4)
  /-- R332: Overlap pixels from a DROP side of a local partner arrive in the seam store. -/
  | seamDataArrival (h : Fin 4)
  /-- R334: SEAM_WAIT elapses without partner data, and the record is emitted unblended, flagged SEAM_OWN. -/
  | seamWaitExpired (h : Fin 4)
  /-- R303: A CAL_CMD write of 1 zeroes the accumulators and arms the head for a dark capture. -/
  | calDark (p : Path) (h : Fin 4)
  /-- R303: A CAL_CMD write of 2 zeroes the white accumulators and arms the head for a white capture. -/
  | calWhite (p : Path) (h : Fin 4)
  /-- R303: A CAL_CMD write of 3 in WHITE_DONE starts COMPUTING. -/
  | calCompute (p : Path) (h : Fin 4)
  /-- R306: CAL_LINES lines have been captured, and the run enters DARK_DONE or WHITE_DONE. -/
  | calCaptureDone (h : Fin 4)
  /-- R308: COMPUTING ends with the tables written, in DONE, or in FAILED when DEFECT_MAX is exceeded. -/
  | calComputeDone (h : Fin 4)
  /-- R317: An illuminant temperature from Heath arrives in LINE and applies from the next line start. -/
  | temperatureArrivalLine (e : Fin 64)
  /-- R318: No new value of TEMP_SRC has arrived within TEMP_MAX_AGE, and records become TEMP_STALE. -/
  | tempAgeExpired (h : Fin 4)
  /-- R328: HDh_COVER_N changes level, which starts the debounce. -/
  | coverInputChange (h : Fin 4) (high : Bool)
  /-- R328: The input has held its level for COVER_DEBOUNCE ms, and the cover is declared open or closed. -/
  | coverDebounceExpired (h : Fin 4)
  /-- R372: An AXIS_EN write of 1 with AXIS_MODE not 0 moves the axis from OFF to STANDSTILL. -/
  | axisEnable (p : Path) (a : Fin 6)
  /-- R372: An AXIS_EN write of 0 stops pulses at once and moves the axis to OFF. -/
  | axisDisable (p : Path) (a : Fin 6)
  /-- R370: MOVE_CMD 1 requests a move to TARGET, subject to the checks of mode, state and POS_UNCERTAIN. -/
  | moveAbs (p : Path) (a : Fin 6)
  /-- R370: MOVE_CMD 2 requests a move by TARGET from POS. -/
  | moveRel (p : Path) (a : Fin 6)
  /-- R370: MOVE_CMD 3 requests a run towards increasing position at V_MAX. -/
  | moveVelPos (p : Path) (a : Fin 6)
  /-- R370: MOVE_CMD 4 requests a run towards decreasing position at V_MAX. -/
  | moveVelNeg (p : Path) (a : Fin 6)
  /-- R370: MOVE_CMD 5 requests a ramped stop within DEC_MAX and JERK. -/
  | moveStop (p : Path) (a : Fin 6)
  /-- R382: MOVE_CMD 6 stops the axis immediately. -/
  | moveHalt (p : Path) (a : Fin 6)
  /-- R389: MOVE_CMD 7 starts the homing method. -/
  | moveHome (p : Path) (a : Fin 6)
  /-- R378: An expert RETARGET write sets TARGET and starts or replans a move towards it. -/
  | retarget (p : Path) (a : Fin 6) (v : BitVec 32)
  /-- R367: A POS_SET write at rest sets POS, and on an encoder axis also ENC_POS. -/
  | posSet (p : Path) (a : Fin 6) (v : BitVec 32)
  /-- R374: A FAULT_CLR write of 1 returns a faulted axis to STANDSTILL once the cause is gone. -/
  | axisFaultClr (p : Path) (a : Fin 6)
  /-- R361: An ENC_EN write makes the axis an encoder or open-loop axis, clearing or setting POS_UNCERTAIN. -/
  | encEnWrite (p : Path) (a : Fin 6) (on : Bool)
  /-- R371: At each 10 µs planning boundary, Quill takes up commands and limit changes, replans the profiles, applies
  limits and computes the DC duty. -/
  | planningCycle (sense : List (Nat × Nat))
  /-- R369: A move reaches its target at rest, and the axis returns to STANDSTILL. -/
  | targetReached (a : Fin 6)
  /-- R372: In STOPPING the speed reaches 0, and the axis enters STANDSTILL. -/
  | stopComplete (a : Fin 6)
  /-- R362: A filtered encoder edge changes ENC_POS, or an illegal transition raises ENC_FAULT. -/
  | encoderTransition (ax : Fin 6) (a b : Bool)
  /-- R365: A rising AXa_ENC_I edge stores ENC_POS in INDEX_POS, and it may define the homing reference. -/
  | encoderIndex (a : Fin 6)
  /-- R389: An AXa_HOME_N edge advances the homing method. -/
  | homeSwitchEdge (a : Fin 6) (low : Bool)
  /-- R383: After HOLD_DELAY at rest, the coil references fall to I_HOLD. -/
  | holdDelayExpired (a : Fin 6)
  /-- R400: A sensed coil current stays below 1/8 of its reference for 1 ms, and the axis faults. -/
  | coilOpen (a : Fin 6) (coil : Fin 2) (samples : List (BitVec 12))
  /-- R400: The sensed current exceeds I_LIMIT on 4 successive samples, or 256 cut bridge periods occur, and the axis
  faults. -/
  | overcurrent (a : Fin 6) (coil : Fin 2) (samples : List (BitVec 12))
  /-- R401: |DEV| exceeds DEV_WIN for DEV_TIME, and the axis faults. -/
  | stall (a : Fin 6)
  /-- R421: The stream free space arrives in MOTION, and the paced feed updates F, λ and its pacing state. -/
  | freeSpaceArrival (k : Fin 8)
  /-- R434: A predicted line duration arrives in LIGHT, and s is applied from the next string period. -/
  | lineDurationArrival (h : Fin 4)
  /-- R464: A STRING_EN write of 1 starts soft start, resumes from FADING, or is refused. -/
  | stringOn (p : Path) (k : Fin 8)
  /-- R463: A STRING_EN write of 0 fades the string to 0 over OFF_FADE. -/
  | stringOffFade (p : Path) (k : Fin 8)
  /-- R463: A STRING_EN write of 2 turns the gate and LSs_DIM off within one LIGHT cycle. -/
  | stringOffNow (p : Path) (k : Fin 8)
  /-- R466: A FAULT_CLR write of 1 returns a faulted string to OFF once its cause is gone, releasing GROUP_HELD strings.
  -/
  | stringFaultClr (p : Path) (k : Fin 8)
  /-- R455: At each dimming period start, LIGHT loads its buffer, steps Flourish and applies the scale, the derating and
  the bypass pattern. -/
  | dimmingPeriodStart (k : Fin 8) (vsns : BitVec 16) (requests : List (BitVec 32))
  /-- R462: SS_TIME elapses with no short, and the string enters ON, fading in over ON_FADE. -/
  | softStartDone (k : Fin 8)
  /-- R475: A short is detected in soft start, and the string faults. -/
  | stringShortSs (k : Fin 8) (vsns : BitVec 16) (cs : List (BitVec 12))
  /-- R475: Limit trips occur on 16 consecutive switching cycles in ON or FADING, and the string faults. -/
  | stringOvercurrent (k : Fin 8) (cs : List (BitVec 12))
  /-- R475: LSs_VSNS exceeds OVP_V on a plain string, and the string faults. -/
  | stringOpen (k : Fin 8) (vsns : BitVec 16)
  /-- R479: LSs_VSNS exceeds OVP_V on a matrix string, and the string faults and starts the locate step. -/
  | lampOpen (k : Fin 8) (vsns : BitVec 16)
  /-- R479: The locate step ends, and the open lamps are marked in LAMP_FAULT. -/
  | lampLocateDone (k : Fin 8) (vsns : List (BitVec 16))
  /-- R477: On a plain string, LSs_VSNS stays 0.6 LAMP_V below the baseline for 64 cycles, and LAMP_SHORT is declared. -/
  | lampShort (k : Fin 8) (vsns : List (BitVec 16))
  /-- R478: At each CHECK_INTERVAL, the next lamp of a matrix string is bypassed briefly and tested for a short. -/
  | lampCheck (k : Fin 8) (before after : BitVec 16)
  /-- R476: A 1 ms baseline learning interval of a plain string ends. -/
  | baselineLearnEnd (k : Fin 8) (vsns : BitVec 16)
  /-- R486: A string temperature arrives in LIGHT and updates the derating factor, or declares STRING_TSHUT. -/
  | stringTemperatureArrival (e : Fin 64)
  /-- R490: No new temperature for 2 s, or a HEATH fence, starts a stale episode. -/
  | stringTempStale (k : Fin 8)
  /-- R509: A HEATH_EN write of 1 validates the scan list and starts pass 0, or is refused with SCAN_INVALID. -/
  | heathEnable (p : Path)
  /-- R534: A HEATH_EN write of 0 enters STOPPING, and a pending urgent request is discarded. -/
  | heathDisable (p : Path)
  /-- R497: The break, discharge and SETTLE of a routing have elapsed, and the entry's conversion starts. -/
  | heathRoutingDone (k : Fin 3)
  /-- R503: A converter's conversion ends, and the next routing or the STOPPING end follows. -/
  | heathConversionEnd (k : Fin 3) (code code2 quad : Int) (e1 e2 : BitVec 32) (source : BitVec 16)
  /-- R522: Within 20 µs a result is linearised, VALUE is updated, the couplings are sent and the record is emitted. -/
  | heathResultDelivery (k : Fin 3)
  /-- R523: A write of URGENT requests one extra conversion of entry e after the running one on its converter. -/
  | urgent (p : Path) (v : BitVec 8)
  /-- R527: A PLAUS_CLR write clears the PLAUS_HALT of the selected pairs, or is refused with PLAUS_ACTIVE. -/
  | plausClr (p : Path) (v : BitVec 8)
  /-- R506: A rising zero crossing on MAINS_REF updates the mains period, or detects its loss. -/
  | mainsZeroCrossing (period : BitVec 32)
  /-- R543: A RUN write of 1 zeroes the count and moves the channel to RUNNING, or to ARMED in start slave mode. -/
  | timerStart (p : Path) (c : Fin 32)
  /-- R566: A RUN write of 0 stops the channel, holds the count and discards pending captures. -/
  | timerStop (p : Path) (c : Fin 32)
  /-- R540: The count reaches P − 1 and rolls over, loading the period shadow and driving cascades, outputs and one-shot.
  -/
  | timerRollover (c : Fin 32)
  /-- R545: The count changes to the value of compare A or B, and the output, the trigger bus or frame sync acts. -/
  | timerMatch (c : Fin 32) (isB : Bool)
  /-- R546: A compare write reaches the live comparator in the cycle in which its handshake completes. -/
  | compareWrite (p : Path) (c : Fin 32) (useB high : Bool) (v : BitVec 32)
  /-- R541: A PERIOD write goes to the shadow, to be loaded at the next rollover, slave reset or start. -/
  | periodWrite (p : Path) (c : Fin 32) (high : Bool) (v : BitVec 32)
  /-- R557: An accepted slave edge resets, starts or gates the channel 2 cycles later. -/
  | slaveEdge (c : Fin 32) (level : Bool) (held : BitVec 16)
  /-- R562: A qualifying capture edge stores the count and the time, and updates width, period and CAP_SEQ in one step. -/
  | captureEdge (c : Fin 32) (rising : Bool) (ago : BitVec 16)
  /-- R578: An OWNER write marks the bank in transition and starts a drain, or is refused or has no effect. -/
  | bankOwnerWrite (p : Path) (b : Fin 24) (v : BitVec 8)
  /-- R575: A POWER_REQ write of 0 drains an ON bank, or turns a FALLOW bank off. -/
  | bankPowerOff (p : Path) (b : Fin 24)
  /-- R575: A POWER_REQ write of 1 drains an ON bank into retention. -/
  | bankFallow (p : Path) (b : Fin 24)
  /-- R575: A POWER_REQ write of 2 powers an OFF bank towards BLOT, or resumes a FALLOW bank. -/
  | bankPowerOn (p : Path) (b : Fin 24)
  /-- R575: The bank is powered, and the Blotter starts. -/
  | bankPowerUpDone (b : Fin 24)
  /-- R575: Within 2 µs a FALLOW bank returns to ON with its content and owner kept. -/
  | bankRetentionExit (b : Fin 24)
  /-- R580: The previous owner's accepted writes are written, and the bank moves to BLOT, FALLOW or OFF. -/
  | bankDrainDone (b : Fin 24)
  /-- R581: Every row is zeroed, and the bank becomes ON with its owner granted. -/
  | bankBlotDone (b : Fin 24)
  /-- R573: A master reads a bank; a foreign read returns zero and is counted, and ECC is checked. -/
  | bankAccessRead (m : Master) (addr : BitVec 26) (n : BitVec 13) (ce ue : List (BitVec 18))
  /-- R573: A master writes a bank; a foreign write is dropped and counted. -/
  | bankAccessWrite (m : Master) (addr : BitVec 26) (data : List Byte) (ce ue : List (BitVec 18))
  /-- R592: A row test ends; the row is restored, retired to a spare, or left degraded. -/
  | rowTestDone (failed : Bool)
  /-- R598: A 32-byte DOMAIN write to KEY_LOAD stores the device key and produces KEY_LOADED. -/
  | keyLoad (p : Path) (data : List Byte)
  /-- R602: A WIPE write of 0x7769_7065 starts a wipe of SECURE. -/
  | wipe (p : Path) (v : BitVec 32)
  /-- R605: An LC_ADVANCE write of LIFE_CYCLE + 1 in PREPARE starts the fuse blow and wipes SECURE. -/
  | lcAdvance (p : Path) (v : BitVec 8)
  /-- R608: An enabled tamper detector sees its condition, sets its bit, wipes SECURE and produces TAMPER. -/
  | tamperDetected (conds : BitVec 4) (dip : Bool)
  /-- R607: A TAMPER_CLR write clears latched tamper bits whose condition is absent, or is refused. -/
  | tamperClr (p : Path) (v : BitVec 8)
  /-- R632: A CMD_EN write of 1 starts the ring from OFF with zeroed indexes, or resumes it from HALTED. -/
  | cmdRingEnable (p : Path)
  /-- R632: A CMD_EN write of 0 turns the ring OFF once the executing record's completion is written. -/
  | cmdRingDisable (p : Path)
  /-- R633: A CMD_TAIL write makes new records available, or is refused with RANGE. -/
  | cmdTailWrite (p : Path) (v : BitVec 16)
  /-- R633: A CPL_TAIL write frees completion slots, or is refused with RANGE. -/
  | cplTailWrite (p : Path) (v : BitVec 16)
  /-- R634: The fetched record arrives, CMD_HEAD advances, and the record enters its checks. -/
  | commandFetchComplete (bytes : List Byte)
  /-- R621: A hot reset, link down, D3hot, cleared Bus Master Enable or PE_PERST_N low stops the streams and the ring and
  clears P0's grant and claims. -/
  | pcieLinkLoss (cause : Fin 5)
  /-- R623: A poisoned write is dropped, or a request outside the BARs is answered Unsupported Request. -/
  | pcieRequestRefused (poisoned : Bool)
  /-- R627: The 2 µs interval of vectors 0 to 4 ends, and a deferred message is sent. -/
  | msixHoldoffExpired (v : Fin 5)
  /-- R646: A STREAM_EN write of 1 checks the staging bank and REC_MAX, and starts or resumes the stream. -/
  | streamEnable (p : Path) (k : Fin 8)
  /-- R655: A STREAM_EN write of 0 enters STOPPING, and records not begun are discarded. -/
  | streamDisable (p : Path) (k : Fin 8)
  /-- R643: An RD_PTR write frees buffer space, and FREE_RECORDS is sent to MOTION. -/
  | rdPtrWrite (p : Path) (k : Fin 8) (v : BitVec 32)
  /-- R654: A BUF_BASE or BUF_LOG2 write in STOPPED sets the buffer and zeroes WR_PTR and RD_PTR. -/
  | streamBufferConfig (p : Path) (k : Fin 8) (part : Fin 3) (v : BitVec 32)
  /-- R645: A record reaches a stream and goes to the buffer or the store, or is dropped. -/
  | streamRecordArrival (k : Fin 8)
  /-- R641: The last write of a record is issued; WR_PTR advances, the shadow is written, and a stopping stream stops. -/
  | streamRecordWritten (k : Fin 8)
  /-- R645: As room appears, the oldest record in the staging store moves to the buffer. -/
  | stageTransfer (k : Fin 8)
  /-- R660: IRQ_TIME elapses after the first record since the last message, and the stream vector is signalled. -/
  | streamIrqTimeout (k : Fin 8)
  /-- R672: A parallel read returns a half of the entry from the mirror or the read hold, within 7 ns. -/
  | parRead (a : BitVec 25)
  /-- R675: A lower-half parallel write posts a narrow entry, or stages the halfword of a 32-bit entry. -/
  | parWriteLowerHalf (a : BitVec 24) (d : BitVec 16)
  /-- R676: An upper-half parallel write posts the staged 32-bit value, or is refused with LENGTH. -/
  | parWriteUpperHalf (a : BitVec 24) (d : BitVec 16)
  /-- R693: A write of the FIFO window appends bytes, and after 64 bytes the record is queued. -/
  | parFifoWrite (d : BitVec 16)
  /-- R694: A read of the FIFO window returns the next bytes of the oldest unread completion. -/
  | commandFifoRead (port : Fin 2)
  /-- R682: A read of PAR_ERR returns and clears the refusal count, and releases ERR_N. -/
  | parErrRead (p : Path)
  /-- R696: A write of 1 to PAR_FIFO_RESET or QSPI_FIFO_RESET discards the record being assembled and rewinds the read
  position. -/
  | fifoResetWrite (p : Path) (port : Fin 2) (v : BitVec 8)
  /-- R678: Once the previous entry has been applied or refused, the port passes its next posted entry to HOST
  arbitration. -/
  | postedQueueDispatch (port : Fin 2)
  /-- R685: A READ frame returns consecutive entries from the mirror on IO1. -/
  | qspiRead (addr : BitVec 32) (n : Nat)
  /-- R684: A READ_QUAD frame returns consecutive entries on IO[3:0]. -/
  | qspiReadQuad (addr : BitVec 32) (n : Nat)
  /-- R685: A WRITE frame posts each entry received on IO0, each checked on its own. -/
  | qspiWrite (addr : BitVec 32) (words : List (BitVec 32)) (cut : Bool)
  /-- R683: A WRITE_QUAD frame posts each entry received on IO[3:0]. -/
  | qspiWriteQuad (addr : BitVec 32) (words : List (BitVec 32)) (cut : Bool)
  /-- R690: A READ_STATUS frame returns the status byte repeatedly and clears ERR. -/
  | qspiReadStatus (n : Nat)
  /-- R688: An unlisted instruction is refused with BAD_OPCODE, and the rest of the frame is ignored. -/
  | qspiBadInstruction (code : Byte)
  /-- R691: A read of QSPI_ERR returns and clears the P2 refusal count. -/
  | qspiErrRead (p : Path)
  /-- R716: An NMT Start enters arbitration as MODE_REQ = 2 from the controller's path. -/
  | nmtStart (x : Fin 2) (node : Fin 128)
  /-- R716: An NMT Stop enters arbitration as MODE_REQ = 3 from the controller's path. -/
  | nmtStop (x : Fin 2) (node : Fin 128)
  /-- R716: An NMT Enter Pre-operational enters arbitration as MODE_REQ = 0. -/
  | nmtEnterPreoperational (x : Fin 2) (node : Fin 128)
  /-- R719: The controller restores its communication defaults, applies its node-ID and timing, sends boot-up and resets
  its path's grant and sequence. -/
  | nmtResetCommunication (x : Fin 2) (node : Fin 128)
  /-- R719: As Reset Communication, and it also restores [2D0x] and [3D0x]. -/
  | nmtResetNode (x : Fin 2) (node : Fin 128)
  /-- R724: An expedited SDO download enters arbitration as a write from P3. -/
  | sdoExpeditedDownload (idx : BitVec 16) (sub : Byte) (size : Option (Fin 4)) (data : BitVec 32)
  /-- R724: A segmented SDO download is initiated and checked against the table size. -/
  | sdoSegmentedDownloadInit (idx : BitVec 16) (sub : Byte) (size : Option (BitVec 32))
  /-- R724: A download segment is received, and the last one applies the whole transfer. -/
  | sdoDownloadSegment (toggle : Bool) (data : List Byte) (last : Bool)
  /-- R722: An SDO upload request is answered from the mirror. -/
  | sdoUploadInitiate (idx : BitVec 16) (sub : Byte)
  /-- R722: An upload segment request returns the next segment. -/
  | sdoUploadSegment (toggle : Bool)
  /-- R725: A block download frame is received, and at its end the CRC is checked and the data applied or aborted. -/
  | sdoBlockDownload (frame : List Byte)
  /-- R725: A block upload request is served from the mirror with a CRC. -/
  | sdoBlockUpload (frame : List Byte)
  /-- R726: No request of a transfer arrives within SDO_TIMEOUT, and the X9 aborts it with 0x0504_0000. -/
  | sdoTimeout (x : Fin 2)
  /-- R722: Once the owning island has applied or refused a download, its response or abort is sent. -/
  | sdoResponse (x : Fin 2)
  /-- R724: A unicast USDO download on CAN-B enters arbitration as a write from P4. -/
  | usdoDownload (dst : Fin 128) (idx : BitVec 16) (sub : Byte) (data : List Byte)
  /-- R722: A unicast USDO upload on CAN-B is answered from the mirror. -/
  | usdoUpload (dst : Fin 128) (idx : BitVec 16) (sub : Byte)
  /-- R727: An upload of [2020.00] on P3 or P4 returns the oldest unread completion. -/
  | commandUpload (x : Fin 2)
  /-- R731: An RPDO is received and applied on receipt or held for SYNC; a wrong length gives an EMCY. -/
  | rpdoReceive (k : Fin 12) (data : List Byte)
  /-- R730: A SYNC frame sends the synchronous TPDOs and applies the synchronous RPDOs. -/
  | syncReceive (x : Fin 2)
  /-- R730: A TPDO's event timer expires, and the TPDO is sent from the mirror. -/
  | tpdoEventTimer (k : Fin 12)
  /-- R730: A TPDO's inhibit time ends, and a pending change is sent. -/
  | tpdoInhibitExpired (k : Fin 12)
  /-- R733: The producer heartbeat period elapses, and a heartbeat is sent. -/
  | heartbeatProduce (x : Fin 2)
  /-- R734: A consumed heartbeat arrives, restarting its timer and clearing HB_LOST_HALT. -/
  | heartbeatReceive (x : Fin 2) (node : Fin 128)
  /-- R734: A consumed heartbeat's time runs out, and EMCY 0x8130 and HB_LOST_WARN or HB_LOST_HALT follow. -/
  | heartbeatConsumerTimeout (isl : Fin 8)
  /-- R735: The EMCY inhibit time ends, and the next pending EMCY is sent. -/
  | emcyInhibitExpired (x : Fin 2)
  /-- R711: A bus error updates the error counters and may make the controller error passive or bus-off. -/
  | canErrorDetected (x : Fin 2) (tec rec : BitVec 9) (overrun : Bool)
  /-- R711: After 128 occurrences of 11 recessive bits, the controller recovers from bus-off. -/
  | canBusOffRecovery (x : Fin 2)
  /-- R741: A NODE_ID write is stored, and for an unconfigured controller written from another path it takes effect at
  once as a Reset Communication. -/
  | nodeIdWrite (p : Path) (x : Fin 2) (v : BitVec 8)
  /-- R737: A write of 0 to [1003.00] empties the error list. -/
  | errorFieldClear (p : Path)
  /-- R739: LSS switch state global moves CAN-A between waiting and configuration, applying a configured node-ID when it
  is unconfigured. -/
  | lssSwitchStateGlobal (config : Bool)
  /-- R738: LSS switch state selective places the addressed slave in configuration. -/
  | lssSwitchStateSelective (vendor product revision serial : BitVec 32)
  /-- R739: LSS configure node-ID writes NODE_ID of CAN-A. -/
  | lssConfigureNodeId (v : Byte)
  /-- R738: LSS configure bit timing with table selector 0 sets BITRATE. -/
  | lssConfigureBitTiming (table index : Byte)
  /-- R738: LSS inquire identity returns the identity values. -/
  | lssInquireIdentity (which : Fin 4)
  /-- R738: LSS identify remote slave answers when the identity lies in the range given. -/
  | lssIdentifyRemoteSlave (vendor product revLow revHigh serLow serHigh : BitVec 32)
  /-- R738: An LSS Fastscan frame is answered in the Fastscan protocol. -/
  | lssFastscan (idNumber : BitVec 32) (bitChecked sub next : Byte)
  /-- R752: An ENUM_REQ write of 1 on the root starts an enumeration. -/
  | enumReq (p : Path)
  /-- R758: All lanes of a port lock and deskew, and the port is UP; the root's first UP on both ports enumerates. -/
  | linkPortUp (port : Fin 2)
  /-- R773: A lane out of lock for 1 µs takes the port DOWN, and the ring wraps. -/
  | linkPortDown (port : Fin 2) (locked : Byte)
  /-- R753: An ENUM frame gives a member its tentative number and is forwarded, or returns to the root. -/
  | enumFrameReceive (v : BitVec 16)
  /-- R753: The RING_SIZE broadcast sets MEMBER and makes numbered members ACTIVE. -/
  | ringSizeBroadcast (size : Byte)
  /-- R762: A LINE_A or LINE_B burst is accepted, NAKed or discarded, and at the collector it completes a record for
  COLLECT_STREAM. -/
  | lineBurstReceive (port : Fin 2) (bytes : List Byte)
  /-- R787: A SEAM burst from another member supplies partner overlap pixels. -/
  | seamBurstReceive (port : Fin 2) (bytes : List Byte)
  /-- R782: A forwarded request is executed as P5 from P5_SOURCE, or answered from the mirror for kind 1. -/
  | fwdBurstReceive (port : Fin 2) (bytes : List Byte)
  /-- R786: A returned completion is queued for the sending path, or gives LINK_LOST if it was voided. -/
  | fwdRetBurstReceive (port : Fin 2) (bytes : List Byte)
  /-- R790: A CTRL burst announces an admission line N, which is recorded in ADMIT_LINE. -/
  | ctrlBurstReceive (port : Fin 2) (src : Fin 128) (seq : BitVec 16) (void : Bool) (m : Fin 128) (n : U32)
  /-- R749: A through burst enters the repeater FIFO, or is dropped whole and counted in SWALLOWED. -/
  | throughBurst (dir : Fin 2) (bytes : List Byte)
  /-- R762: A cumulative ACK is received by the origin. -/
  | ackReceive (dst : Byte) (seq : BitVec 16)
  /-- R764: A NAK makes the origin cut its burst and resend from the named SEQ, whole or VOID. -/
  | nakReceive (dst : Byte) (seq : BitVec 16)
  /-- R764: No ACK arrives within ACK_TIMEOUT, and the origin resends. -/
  | ackTimeout (dst : Byte)
  /-- R776: A received ALIGN frame updates HOP_DELAY, the ring time, RATE_ADJ and LINK_ALIGNED. -/
  | alignFrameReceive (port : Fin 2) (trip turn : BitVec 32) (ring arrival : U64) (fromRoot : Bool)
  /-- R774: A DOWN port has been UP for 1 ms, and the ring unwraps with LINK_RESTORED. -/
  | ringUnwrap (port : Fin 2)
  /-- R781: A 68-byte FWD_OUT write sends a forwarded request to a target member. -/
  | fwdOut (p : Path) (data : List Byte)
  /-- R785: An upload of FWD_IN returns the path's oldest unread returned completion. -/
  | fwdIn (p : Path)
  /-- R789: A MEMBER_OUT write of 1 takes the member to REPEAT at the next record boundary. -/
  | memberOutSet (p : Path)
  /-- R790: The root grants admission to an aligned joining member and sends N to it and to every ACTIVE member. -/
  | admissionGrant (m : Fin 128)
  /-- R772: Every 10 µs the collector broadcasts FREE_RECORDS of COLLECT_STREAM. -/
  | collectorFreeBroadcast (v : U32)
  /-- R808: A POWER_REQ write sets the target level, subject to the mode, dirty and busy checks. -/
  | powerReqWrite (p : Path) (v : BitVec 8)
  /-- R811: ON_DELAY of an up step ends, and EN goes high. -/
  | onDelayExpired (r : Fin 12)
  /-- R811: A rail's PG stays above GOOD_TH for 1 µs; the up step ends and the next step starts. -/
  | railGood (r : Fin 12) (pg : BitVec 16)
  /-- R814: A rail is not good at PG_TIMEOUT, and a forced descent starts. -/
  | pgTimeoutExpired (r : Fin 12) (pg : BitVec 16)
  /-- R812: DISCHARGE elapses in a down step, which ends if the rail is discharged. -/
  | dischargeExpired (r : Fin 12)
  /-- R812: A rail's PG stays below OFF_TH for 1 µs, ending a step or a watch and clearing its dirty bit. -/
  | railDischarged (r : Fin 12) (pg : BitVec 16)
  /-- R817: OFF_TIMEOUT elapses, and the rail is marked dirty with RAIL_NO_DISCHARGE. -/
  | offTimeoutExpired (r : Fin 12) (pg : BitVec 16)
  /-- R820: A good rail with EN high stops being good, and RAIL_LOST or RAIL_LOST_DOWN follows, with a collapse where due.
  -/
  | railLost (r : Fin 12) (pg : BitVec 16)
  /-- R818: A DIRTY_CLR write of 1 clears every dirty bit. -/
  | dirtyClr (p : Path)
  /-- R828: Writing 0x7273_7421 to DEVICE_RESET starts a software device reset with an orderly descent. -/
  | deviceResetWrite (p : Path) (v : BitVec 32)
  /-- R829: A boot rail stops being good, and a device reset with collapse follows. -/
  | bootRailLost (r : Fin 12) (pg : BitVec 16)
  /-- R827: VDD_AON rises through its threshold; SEQ resets and the boot rails come up. -/
  | aonPowerOn (seqBoot : BitVec 4)
  /-- R833: 1 ms after the last release condition, the straps are sampled and device reset is released. -/
  | resetRelease (parStyle linkRoot : Bool) (monitors : BitVec 5) (refClk resetN : Bool)
  /-- R835: Every 100 µs the on-die sensors are read, updating TJ and TJ_PEAK and producing TJ_HIGH or TJ_SHUTDOWN, or
  clearing TJ_SHUTDOWN. -/
  | tjSample (t : BitVec 32)
  /-- R77: A PCI Express memory read of the BAR0 window is answered from the mirror, or refused with LENGTH, NO_OBJECT or
  NO_SUBINDEX, returning 0 and recording LAST_STATUS of P0. -/
  | bar0WindowRead (dword : BitVec 24) (n : Nat) (first last : BitVec 4)
  /-- R834: The PCI Express link trains and comes up after PE_PERST_N rises or device reset is released, and P0 begins to
  answer with DL_UP set in LINK_STATUS. -/
  | pcieLinkUp (speed : Fin 4) (width : Fin 9) (busMaster : Bool) (payload read : Fin 6)
  /-- R917: After NET is readmitted, each CAN controller sees 11 recessive bits at its nominal rate and resumes sending.
  -/
  | canBusIdleResume (x : Fin 2)
  /-- R789: A member detects that its upstream neighbour's LINK is fenced, reports the absence to the root within 10 µs,
  and the root tells every member. -/
  | neighbourLinkAbsent (m : Fin 128) (linkFenced : Bool)
  /-- R57: When no request is in flight and no transition is running, the pending request is taken up and its conditions
  are checked; it is then accepted or refused. -/
  | modeRequestTakeUp
  /-- R39: Once every island concerned has completed its part, MODE takes TARGET, BUSY clears and MODE_CHANGED is
  produced. -/
  | modeTransitionDone
  /-- R918: After a halt line or a PARK request asserts, SEQ asserts the park line, every island takes its PARK action and
  PARK_CAUSE is set. -/
  | parkEntry
  /-- R173: REF_CLK fails, and the time base continues in holdover on the RC oscillator. -/
  | tbHoldover
  /-- R173: Within 1 ms of REF_CLK returning, the generator leaves holdover and slews back to rate. -/
  | holdoverExit
  /-- R512: A SCAN_PERIOD tick starts a pass on each idle converter, and a busy converter skips it. -/
  | scanPeriodTick
  /-- R590: Every BGT_INTERVAL, the next row in rotation is copied to the holding buffer, and its March test starts. -/
  | rowTestStart
  /-- R601: Within 10 µs of a wipe cause, the key slot is zeroed, and open pages close. -/
  | keySlotWiped
  /-- R601: Within 1 ms the rest of SECURE is zeroed, KEY_STATE reads 0 and KEY_WIPED is produced. -/
  | secureWipeDone
  /-- R605: Within 10 ms the fuses are blown, and LC_CHANGED is produced. -/
  | lcFusesBlown
  /-- R634: When a record is waiting and a completion slot is free, the X9 issues a 64-byte read of the record at
  CMD_HEAD. -/
  | commandFetch
  /-- R636: A failed fetch leaves CMD_HEAD unchanged, halts the ring and produces PCIE_FETCH_ERROR. -/
  | commandFetchError
  /-- R692: A PORT_RESET frame acts as a write of 1 to QSPI_FIFO_RESET. -/
  | qspiPortReset
  /-- R84: An abort from the client ends a transfer, leaving the DOMAIN unchanged. -/
  | sdoAbortReceived
  /-- R739: LSS activate bit timing starts the switch delay. -/
  | lssActivateBitTiming
  /-- R739: The switch delay ends, and BITRATE is applied. -/
  | lssSwitchDelayExpired
  /-- R738: LSS inquire node-ID returns the node-ID. -/
  | lssInquireNodeId
  /-- R738: LSS identify non-configured remote slave answers while the node-ID is unconfigured. -/
  | lssIdentifyNonConfigured
  /-- R738: LSS store configuration is answered with error 1, not supported. -/
  | lssStoreConfiguration
  /-- R755: The ENUM frame has not returned within 1 ms, and LINK_ENUM_FAILED is produced. -/
  | enumTimeout
  /-- R762: A 2 µs interval ends, and the destination sends a cumulative ACK. -/
  | ackSendTimer
  /-- R776: Every 10 µs a member sends an ALIGN frame on each cable. -/
  | alignExchangeTick
  /-- R775: No root ALIGN frame for 100 µs makes the ring PARTITIONED and the member enter REPEAT. -/
  | rootAlignAbsent
  /-- R779: No root ALIGN frame for 1 ms clears LINK_ALIGNED and produces LINK_ALIGN_LOST. -/
  | alignLostTimeout
  /-- R790: With MEMBER_OUT 0, LINK running and root ALIGN frames present, a member enters JOINING and requests admission.
  -/
  | admissionRequest
  /-- R790: A joining member not aligned within 10 ms returns to REPEAT with LINK_ADMIT_FAILED. -/
  | joiningTimeout
  /-- R772: With no collector free space for 100 µs, F becomes 0. -/
  | collectorFreeTimeout
  /-- R821: Every 10 µs in a collapse, the next enabled rail in descending order has EN driven low. -/
  | collapseStep
  /-- R825: RESET_N held low for 1 µs starts a device reset. -/
  | resetNAsserted
  /-- R825: A supply monitor trips, and a device reset with collapse follows. -/
  | supplyLow
  /-- R827: VDD_AON falls below its threshold; every EN goes low and SAFE continues on VBAT_SAFE. -/
  | aonPowerFail
  /-- R829: The boot rails are not good within 20 ms, and they are powered down for a retry. -/
  | bootRailTimeout
  /-- R829: After 100 ms the boot rails are powered up again, and BOOT_FAILS increments. -/
  | bootRetryDelay
  /-- R834: The PLLs have locked and the banks are blotted; DEVICE_RESET is reported, surviving conditions are recorded
  again, and PREPARE is shown. -/
  | startUpComplete
  /-- R606: After a power-on reset, once VDD_AON has stayed within 1.62 to 1.98 V for 1 ms, the low-voltage check of
  tamper detector bit 2 is armed. -/
  | lowVoltageCheckArmed
deriving DecidableEq, Repr

end Sys2Proof
end

