-- ==== Sys2Proof/Config.lean ====
section
/-! DEFINITION. What an implementation of the X9 fixes and the spec leaves open: constants without a body, so that no
proof can see a value of them. The assumption log says of each where the spec leaves it open. -/
namespace Sys2Proof.Config

/-- Free values, numbered by a counter that State holds: the n-th value the spec leaves open (DESIGN CHOICE, log 4). -/
opaque free : Nat → Nat
/-- The level key, fused at manufacture (*Levels and the level key*; log 13). -/
opaque levelKey : BitVec 32
/-- [1018.01] vendor and [1018.04] serial number, fused at manufacture (log 13). -/
opaque vendorId : BitVec 32
opaque serialNumber : BitVec 32
/-- [1014.00] COB_ID_EMCY as a path outside the CAN controllers reads it (DESIGN CHOICE, log 14). -/
opaque emcyIdElsewhere : BitVec 32
/-- How READMIT_FAILED encodes its reason, the PLL's lock (false) or the synchronisation (true) (R191; DESIGN CHOICE, log 66). -/
opaque readmitReason : Bool → BitVec 8
/-- The manufacturer field of the IDCODE, stated in the BSDL file (R852; log 13). -/
opaque jtagManufacturer : BitVec 11
/-- How PCIE_LINK_DOWN encodes the five causes of a link loss (DESIGN CHOICE, log 30). -/
opaque linkLossCode : Nat → BitVec 32
/-- The status codes of the mapping refusals of R729, whose abort codes alone the spec gives (DESIGN CHOICE, log 15). -/
opaque pdoStatus : Nat → BitVec 8
/-- The sign of [2E20.03] ALIGN_ERR: whether the derived ring time less its own is reported (DESIGN CHOICE, log 31). -/
opaque alignPositive : Bool
/-- [3480.01 ..] RANGE_GAIN of channel n and range r, measured at manufacture (log 13). -/
opaque rangeGain : Nat → Nat → BitVec 16
/-- [3930.ss] ISRC_ACTUAL of source q at a setting in µA, measured at manufacture, in the 32-bit form of the entry (log 13). -/
opaque isrcActual : Nat → Nat → BitVec 32
/-- The temperature that a thermocouple of a type gives for an electromotive force: IEC 60584 is named by the spec and not given
(log 16). -/
opaque thermocouple : Nat → Rat → Rat
/-- The electromotive force of a thermocouple of a type at a cold-junction temperature (IEC 60584; log 16). -/
opaque thermoEmf : Nat → Rat → Rat
/-- The natural logarithm, rounded as the X9 rounds it (log 16). -/
opaque ln : Rat → Rat

end Sys2Proof.Config
end

