-- ==== Sys2Proof/Machine/Bits.lean ====
section
/-! DEFINITION. Rounding (R896), REAL32, CRC-32 (R161), SHA-256 and HMAC-SHA-256 (R341, R342), in integer arithmetic. -/
namespace Sys2Proof.Machine

/-- The integer nearest to `n / d`, halves away from zero (R896). -/
def roundDiv (n : Int) (d : Nat) : Int :=
  if n < 0 then -(((2 * n.natAbs + d) / (2 * d) : Nat) : Int) else ((2 * n.natAbs + d) / (2 * d) : Nat)

/-- The integer nearest to a rational number, halves away from zero (R896). -/
def roundRat (q : Rat) : Int := roundDiv q.num q.den

/-- An integer held within bounds. -/
def clampZ (lo hi z : Int) : Int := max lo (min hi z)

/-- The low `n` bits from bit `lo` of a number. -/
def bits (x lo n : Nat) : Nat := x / 2 ^ lo % 2 ^ n
def bitAt (x i : Nat) : Bool := x.testBit i

/-- The value of a finite REAL32; infinities and NaNs count as 0 in every comparison the X9 makes. -/
def realRat (w : BitVec 32) : Rat :=
  let x := w.toNat
  let e := bits x 23 8
  let f := bits x 0 23
  let m : Rat := if e = 255 then 0 else if e = 0 then mkRat f (2 ^ 149)
    else if 150 ≤ e then ((8388608 + f) * 2 ^ (e - 150) : Nat) else mkRat (8388608 + f : Nat) (2 ^ (150 - e))
  if bitAt x 31 then -m else m

/-- Whether a REAL32 is a finite number. -/
def realFinite (w : BitVec 32) : Bool := bits w.toNat 23 8 ≠ 255

/-- The REAL32 nearest to a rational number, halves away from zero (R896). -/
def ratReal (q : Rat) : BitVec 32 :=
  if q.num = 0 then 0 else
  let sign := if q.num < 0 then 2147483648 else 0
  let a := q.num.natAbs
  let d := q.den
  -- the exponent e with 2^e ≤ a / d < 2^(e+1), as e + 256
  let g := 256 + Nat.log2 a - Nat.log2 d
  let e := if (if 256 ≤ g then d * 2 ^ (g - 256) ≤ a else d ≤ a * 2 ^ (256 - g)) then g else g - 1
  let e := max e 130
  -- mantissa: a / d * 2^(23 - (e - 256)), rounded
  let m := if e ≤ 279 then (2 * a * 2 ^ (279 - e) + d) / (2 * d) else (2 * a + d * 2 ^ (e - 279)) / (2 * d * 2 ^ (e - 279))
  let e' := if m = 16777216 then e + 1 else e
  let m' := if m = 16777216 then 8388608 else m
  if m' < 8388608 then BitVec.ofNat 32 (sign + m')
  else if 384 ≤ e' then BitVec.ofNat 32 (sign + 2139095040)
  else BitVec.ofNat 32 (sign + (e' - 129) * 8388608 + (m' - 8388608))

/-! ### CRC-32 -/

def crcBit (r : BitVec 32) : BitVec 32 :=
  if r.getLsbD 0 then (r >>> 1) ^^^ 0xEDB88320#32 else r >>> 1

def crcByte (r : BitVec 32) (b : Byte) : BitVec 32 :=
  let r := r ^^^ b.setWidth 32
  crcBit (crcBit (crcBit (crcBit (crcBit (crcBit (crcBit (crcBit r)))))))

def crcRun : BitVec 32 → List Byte → BitVec 32
  | r, [] => r
  | r, b :: bs => crcRun (crcByte r b) bs

/-- CRC-32 of R161. -/
def crc32 (bs : List Byte) : BitVec 32 := ~~~ (crcRun 0xFFFFFFFF#32 bs)

/-- CRC-16 of the SDO block transfer of CiA 301: polynomial 0x1021, initial value 0. -/
def crc16Byte (r : BitVec 16) (b : Byte) : BitVec 16 :=
  (List.range 8).foldl (fun r _ => if r.getLsbD 15 then (r <<< 1) ^^^ 0x1021#16 else r <<< 1) (r ^^^ (b.setWidth 16 <<< 8))
def crc16 (bs : List Byte) : BitVec 16 := bs.foldl crc16Byte 0

/-! ### SHA-256

The spec names SHA-256 and HMAC-SHA-256 (R341, R342); the functions are those of FIPS 180-4, whose constants are the leading 32
bits of the fractional parts of square and cube roots of the first primes. -/

/-- The largest `r` below `2 ^ b + r0` with `r ^ k ≤ x`, bit by bit from bit `b - 1`. -/
def rootBits (k x : Nat) : Nat → Nat → Nat
  | 0, r => r
  | b + 1, r => rootBits k x b (if (r + 2 ^ b) ^ k ≤ x then r + 2 ^ b else r)

/-- The leading 32 bits of the fractional part of the `k`-th root of `p`. -/
def rootFrac (k p : Nat) : BitVec 32 := BitVec.ofNat 32 (rootBits k (p * 2 ^ (32 * k)) 38 0)

/-- The primes below 312, of which there are 64. -/
def smallPrimes : List Nat := (List.range 312).filter fun p => decide (2 ≤ p) && [2, 3, 5, 7, 11, 13, 17].all fun d => p = d || p % d ≠ 0

/-- The constants of the 64 rounds. -/
def shaRoundConst : List (BitVec 32) := smallPrimes.map (rootFrac 3)

/-- The eight working words of a SHA-256. -/
structure ShaWords where
  a : BitVec 32
  b : BitVec 32
  c : BitVec 32
  d : BitVec 32
  e : BitVec 32
  f : BitVec 32
  g : BitVec 32
  h : BitVec 32
deriving DecidableEq, Repr

/-- The words before the first block. -/
def ShaWords.start : ShaWords :=
  let r := rootFrac 2
  { a := r 2, b := r 3, c := r 5, d := r 7, e := r 11, f := r 13, g := r 17, h := r 19 }

def ShaWords.plus (x y : ShaWords) : ShaWords :=
  { a := x.a + y.a, b := x.b + y.b, c := x.c + y.c, d := x.d + y.d, e := x.e + y.e, f := x.f + y.f, g := x.g + y.g, h := x.h + y.h }

def ShaWords.words (x : ShaWords) : List (BitVec 32) := [x.a, x.b, x.c, x.d, x.e, x.f, x.g, x.h]

/-- A running SHA-256: the words, the bytes of the open block, the length in bytes. -/
structure Sha where
  w : ShaWords := ShaWords.start
  buf : List Byte := []
  len : Nat := 0
deriving DecidableEq, Repr

def beNat (bs : List Byte) : Nat := bs.foldl (fun a b => a * 256 + b.toNat) 0
def beBytes (n x : Nat) : List Byte := (List.range n).map (fun k => BitVec.ofNat 8 (x / 256 ^ (n - 1 - k)))

/-- The exclusive or of two rotations and of a third word. -/
def mix (x : BitVec 32) (i j : Nat) (y : BitVec 32) : BitVec 32 := x.rotateRight i ^^^ x.rotateRight j ^^^ y

/-- Bits of `y` where `x` has a 1 and of `z` where it has a 0. -/
def choose (x y z : BitVec 32) : BitVec 32 := z ^^^ (x &&& (y ^^^ z))

/-- The value of each bit that at least two of three words have. -/
def majority (x y z : BitVec 32) : BitVec 32 := (x &&& y) ||| (z &&& (x ||| y))

/-- One round with the sum of its constant and its schedule word. -/
def ShaWords.round (v : ShaWords) (kw : BitVec 32) : ShaWords :=
  let up := v.h + kw + choose v.e v.f v.g + mix v.e 6 11 (v.e.rotateRight 25)
  { a := up + majority v.a v.b v.c + mix v.a 2 13 (v.a.rotateRight 22), b := v.a, c := v.b, d := v.c, e := v.d + up, f := v.e, g := v.f,
    h := v.g }

/-- The rounds, with a window of sixteen schedule words that moves on by one word a round. -/
def ShaWords.rounds : ShaWords → List (BitVec 32) → List (BitVec 32) → ShaWords
  | v, [], _ => v
  | v, k :: ks, win =>
    let at' (i : Nat) : BitVec 32 := win.getD i 0
    let coming := at' 0 + at' 9 + mix (at' 1) 7 18 (at' 1 >>> 3) + mix (at' 14) 17 19 (at' 14 >>> 10)
    ShaWords.rounds (v.round (k + at' 0)) ks (win.drop 1 ++ [coming])

def chunks {α : Type} (n : Nat) : Nat → List α → List (List α)
  | 0, _ => []
  | k + 1, l => l.take n :: chunks n k (l.drop n)

/-- The words after a block of 64 bytes. -/
def ShaWords.block (v : ShaWords) (bs : List Byte) : ShaWords :=
  v.plus (v.rounds shaRoundConst ((chunks 4 16 bs).map fun b => BitVec.ofNat 32 (beNat b)))

def Sha.byte (s : Sha) (b : Byte) : Sha :=
  let full := decide (s.buf.length = 63)
  { w := if full then s.w.block (s.buf ++ [b]) else s.w, buf := if full then [] else s.buf ++ [b], len := s.len + 1 }

def Sha.add (s : Sha) (bs : List Byte) : Sha := bs.foldl Sha.byte s

/-- The digest: a 1 bit, zeros up to 56 bytes of the last block, and the length in bits. -/
def Sha.digest (s : Sha) : List Byte :=
  let zeros := (55 + 64 - s.len % 64) % 64
  (s.add (0x80 :: List.replicate zeros 0 ++ beBytes 8 (8 * s.len))).w.words.flatMap fun w => beBytes 4 w.toNat

def sha256 (bs : List Byte) : List Byte := (Sha.add {} bs).digest

/-- HMAC-SHA-256 with a key of at most 64 bytes. -/
def hmac256 (key msg : List Byte) : List Byte :=
  let pad (x : Byte) : List Byte := key.map (· ^^^ x) ++ List.replicate (64 - key.length) x
  sha256 (pad 0x5c ++ sha256 (pad 0x36 ++ msg))

end Sys2Proof.Machine
end

