-- ==== Sys2Proof/Machine/Codes.lean ====
section
/-! DEFINITION. The status codes of R116 and of the chapters' own status tables, and the events of R873 with their severities. -/
namespace Sys2Proof.Machine

/-- The status of an access or a command record (R116, and the status tables of the chapters). -/
inductive Status where
  /-- 0x00 OK -/
  | ok
  /-- 0x01 NO_OBJECT -/
  | noObject
  /-- 0x02 NO_SUBINDEX -/
  | noSubindex
  /-- 0x03 READ_ONLY -/
  | readOnly
  /-- 0x04 NOT_PREPARE -/
  | notPrepare
  /-- 0x05 LEVEL_DENIED -/
  | levelDenied
  /-- 0x06 CLAIMED -/
  | claimed
  /-- 0x07 EPOCH_STALE -/
  | epochStale
  /-- 0x08 RANGE -/
  | range
  /-- 0x09 TOO_HIGH -/
  | tooHigh
  /-- 0x0A TOO_LOW -/
  | tooLow
  /-- 0x0B LENGTH -/
  | length
  /-- 0x0C TOO_LONG -/
  | tooLong
  /-- 0x0D NOT_WINDOWED -/
  | notWindowed
  /-- 0x0E UNIT_ABSENT -/
  | unitAbsent
  /-- 0x0F BUSY -/
  | busy
  /-- 0x10 MOVING -/
  | moving
  /-- 0x11 NOT_IN_MODE -/
  | notInMode
  /-- 0x12 MODE_REFUSED -/
  | modeRefused
  /-- 0x13 CAL_INVALID -/
  | calInvalid
  /-- 0x14 MODE_SUPERSEDED -/
  | modeSuperseded
  /-- 0x15 SEQ_GAP -/
  | seqGap
  /-- 0x16 LEN_TOO_LONG -/
  | lenTooLong
  /-- 0x17 STREAM_TOO_SMALL -/
  | streamTooSmall
  /-- 0x18 NOT_A_UNIT -/
  | notAUnit
  /-- 0x19 KEY_WRONG -/
  | keyWrong
  /-- 0x1A BAD_OPCODE -/
  | badOpcode
  /-- 0x40 JOURNAL_LOST -/
  | journalLost
  /-- 0x41 TRIG_SOURCE -/
  | trigSource
  /-- 0x42 CAL_NO_BANK -/
  | calNoBank
  /-- 0x43 CAL_ORDER -/
  | calOrder
  /-- 0x44 AXIS_FAULT -/
  | axisFault
  /-- 0x45 POS_UNKNOWN -/
  | posUnknown
  /-- 0x46 PACED -/
  | paced
  /-- 0x47 STRING_FAULT -/
  | stringFault
  /-- 0x48 HEATH_RUNNING -/
  | heathRunning
  /-- 0x49 SCAN_INVALID -/
  | scanInvalid
  /-- 0x4A PLAUS_ACTIVE -/
  | plausActive
  /-- 0x4B HEATH_OFF -/
  | heathOff
  /-- 0x4C TIMER_RUNNING -/
  | timerRunning
  /-- 0x4D BANK_POWER -/
  | bankPower
  /-- 0x4E LC_STATE -/
  | lcState
  /-- 0x4F KEY_PRESENT -/
  | keyPresent
  /-- 0x50 TAMPER_PRESENT -/
  | tamperPresent
  /-- 0x51 STREAM_ACTIVE -/
  | streamActive
  /-- 0x52 WRONG_PATH -/
  | wrongPath
  /-- 0x53 STAGE_NO_BANK -/
  | stageNoBank
  /-- 0x54 RING_ACTIVE -/
  | ringActive
  /-- 0x55 NOT_ROOT -/
  | notRoot
  /-- 0x56 MEMBER_ABSENT -/
  | memberAbsent
  /-- 0x57 FWD_SOURCE -/
  | fwdSource
  /-- 0x58 LINK_LOST -/
  | linkLost
  /-- 0x59 POWER_DIRTY -/
  | powerDirty
  /-- 0x5A SEQ_BUSY -/
  | seqBusy
  /-- A mapping that names an entry that cannot be mapped (R729), by its abort code alone. -/
  | mapObject
  /-- A mapping longer than its PDO (R729). -/
  | mapLength
  /-- A mapping or COB-ID changed while the PDO is in use (R729). -/
  | mapInUse
deriving DecidableEq, Repr

/-- The status code (R116). -/
def Status.code : Status → Nat
  | .ok => 0x00
  | .noObject => 0x01
  | .noSubindex => 0x02
  | .readOnly => 0x03
  | .notPrepare => 0x04
  | .levelDenied => 0x05
  | .claimed => 0x06
  | .epochStale => 0x07
  | .range => 0x08
  | .tooHigh => 0x09
  | .tooLow => 0x0A
  | .length => 0x0B
  | .tooLong => 0x0C
  | .notWindowed => 0x0D
  | .unitAbsent => 0x0E
  | .busy => 0x0F
  | .moving => 0x10
  | .notInMode => 0x11
  | .modeRefused => 0x12
  | .calInvalid => 0x13
  | .modeSuperseded => 0x14
  | .seqGap => 0x15
  | .lenTooLong => 0x16
  | .streamTooSmall => 0x17
  | .notAUnit => 0x18
  | .keyWrong => 0x19
  | .badOpcode => 0x1A
  | .journalLost => 0x40
  | .trigSource => 0x41
  | .calNoBank => 0x42
  | .calOrder => 0x43
  | .axisFault => 0x44
  | .posUnknown => 0x45
  | .paced => 0x46
  | .stringFault => 0x47
  | .heathRunning => 0x48
  | .scanInvalid => 0x49
  | .plausActive => 0x4A
  | .heathOff => 0x4B
  | .timerRunning => 0x4C
  | .bankPower => 0x4D
  | .lcState => 0x4E
  | .keyPresent => 0x4F
  | .tamperPresent => 0x50
  | .streamActive => 0x51
  | .wrongPath => 0x52
  | .stageNoBank => 0x53
  | .ringActive => 0x54
  | .notRoot => 0x55
  | .memberAbsent => 0x56
  | .fwdSource => 0x57
  | .linkLost => 0x58
  | .powerDirty => 0x59
  | .seqBusy => 0x5A
  | .mapObject => (Config.pdoStatus 0).toNat
  | .mapLength => (Config.pdoStatus 1).toNat
  | .mapInUse => (Config.pdoStatus 2).toNat

/-- The CANopen abort code of a refusal (R116); 0 for OK. -/
def Status.abort : Status → Nat
  | .ok => 0
  | .noObject => 0x06020000
  | .noSubindex => 0x06090011
  | .readOnly => 0x06010002
  | .notPrepare => 0x08000022
  | .levelDenied => 0x08000020
  | .claimed => 0x08000020
  | .epochStale => 0x08000022
  | .range => 0x06090030
  | .tooHigh => 0x06090031
  | .tooLow => 0x06090032
  | .length => 0x06070010
  | .tooLong => 0x06070012
  | .notWindowed => 0x06010000
  | .unitAbsent => 0x08000022
  | .busy => 0x08000022
  | .moving => 0x08000022
  | .notInMode => 0x08000022
  | .modeRefused => 0x08000022
  | .calInvalid => 0x08000022
  | .modeSuperseded => 0x08000022
  | .seqGap => 0x08000000
  | .lenTooLong => 0x06070012
  | .streamTooSmall => 0x08000022
  | .notAUnit => 0x08000000
  | .keyWrong => 0x08000020
  | .badOpcode => 0x05040001
  | .journalLost => 0x08000000
  | .trigSource => 0x08000022
  | .calNoBank => 0x08000022
  | .calOrder => 0x08000022
  | .axisFault => 0x08000022
  | .posUnknown => 0x08000022
  | .paced => 0x08000022
  | .stringFault => 0x08000022
  | .heathRunning => 0x08000022
  | .scanInvalid => 0x08000022
  | .plausActive => 0x08000022
  | .heathOff => 0x08000022
  | .timerRunning => 0x08000022
  | .bankPower => 0x08000022
  | .lcState => 0x08000022
  | .keyPresent => 0x08000022
  | .tamperPresent => 0x08000022
  | .streamActive => 0x08000022
  | .wrongPath => 0x08000020
  | .stageNoBank => 0x08000022
  | .ringActive => 0x08000022
  | .notRoot => 0x08000022
  | .memberAbsent => 0x08000022
  | .fwdSource => 0x08000020
  | .linkLost => 0x08000000
  | .powerDirty => 0x08000022
  | .seqBusy => 0x08000022
  | .mapObject => 0x06040041
  | .mapLength => 0x06040042
  | .mapInUse => 0x08000022

/-- The four severities of an event, lowest first (R626). -/
inductive Severity where
  | info | warn | fault | halt
deriving DecidableEq, Repr

/-- The severity codes of R626. -/
def Severity.code : Severity → Nat
  | .info => 0
  | .warn => 1
  | .fault => 2
  | .halt => 3

/-- Every event of the consolidated table (R873). -/
inductive Event where
  | modeChanged | parkRequested | claimChanged | claimBroken | levelChanged | defaultsRestored | seqReset
  | islandFenced | islandPllLost | handshakeTimeout | islandReadmitted | readmitFailed | tbHoldover | reportsLost
  | linesSkipped | seqDone | railPgTimeout | railLost | railLostDown | railNoDischarge | deviceReset
  | bootRetry | tjHigh | tjShutdown | trigDropped | rulingOverspeed | scanDone | shortLine
  | rulingUncertain | rangeClip | watchMismatch | laneSyncLost | laneSyncError | laneSkew | calDone
  | calFailed | coverOpen | coverClosed | tempStale | regNoSpace | seamMismatch | seamPartnerLate
  | leadEdge | calBankLost | tagKeyAbsent | lineOverrun | stall | encFault | coilOpen
  | overcurrent | posUncertain | homed | homeFailed | limitStop | pacePause | paceResume
  | paceJoinFail | photonFail | paceAbort | paceMargin | paceCapped | stringShortSs | stringOpen
  | lampShort | lampOpen | stringOvercurrent | stringTshut | stringDerating | groupOff | stringTempStale
  | photonClip | plausWarn | plausHalt | sensorOpen | mainsLost | scanOverrun | heathDropped
  | heathOverrange | slaveLost | bankGranted | bankForeignRead | bankForeignWrite | eccCorrected | eccUncorrectable
  | rowRepaired | spareExhausted | tamper | keyWiped | keyLoaded | lcChanged | streamOverflow
  | streamRecTooLong | streamStopped | pcieLinkDown | pcieFetchError | stageLost | qspiWriteDropped | canBusOff
  | canErrorPassive | canRxOverrun | hbLostWarn | hbLostHalt | nmtOverruled | rpdoRefused | linkEnumerated
  | linkEnumFailed | linkTooMany | linkBreak | linkRestored | linkLostHalf | linkUndelivered | linkReplayOff
  | linkAligned | linkAlignLost | memberRepeat | memberAdmitted | linkAdmitFailed | eventCleared
deriving DecidableEq, Repr

/-- The event code. -/
def Event.code : Event → Nat
  | .modeChanged => 0x2001
  | .parkRequested => 0x2002
  | .claimChanged => 0x2003
  | .claimBroken => 0x2004
  | .levelChanged => 0x2005
  | .defaultsRestored => 0x2006
  | .seqReset => 0x2007
  | .islandFenced => 0x2101
  | .islandPllLost => 0x2102
  | .handshakeTimeout => 0x2103
  | .islandReadmitted => 0x2104
  | .readmitFailed => 0x2105
  | .tbHoldover => 0x2106
  | .reportsLost => 0x2107
  | .linesSkipped => 0x2108
  | .seqDone => 0x2201
  | .railPgTimeout => 0x2202
  | .railLost => 0x2203
  | .railLostDown => 0x2204
  | .railNoDischarge => 0x2205
  | .deviceReset => 0x2206
  | .bootRetry => 0x2207
  | .tjHigh => 0x2208
  | .tjShutdown => 0x2209
  | .trigDropped => 0x2401
  | .rulingOverspeed => 0x2402
  | .scanDone => 0x2403
  | .shortLine => 0x2404
  | .rulingUncertain => 0x2405
  | .rangeClip => 0x2410
  | .watchMismatch => 0x2411
  | .laneSyncLost => 0x2412
  | .laneSyncError => 0x2413
  | .laneSkew => 0x2414
  | .calDone => 0x2501
  | .calFailed => 0x2502
  | .coverOpen => 0x2503
  | .coverClosed => 0x2504
  | .tempStale => 0x2505
  | .regNoSpace => 0x2506
  | .seamMismatch => 0x2507
  | .seamPartnerLate => 0x2508
  | .leadEdge => 0x2509
  | .calBankLost => 0x250A
  | .tagKeyAbsent => 0x250B
  | .lineOverrun => 0x250C
  | .stall => 0x2601
  | .encFault => 0x2602
  | .coilOpen => 0x2603
  | .overcurrent => 0x2604
  | .posUncertain => 0x2605
  | .homed => 0x2606
  | .homeFailed => 0x2607
  | .limitStop => 0x2608
  | .pacePause => 0x2701
  | .paceResume => 0x2702
  | .paceJoinFail => 0x2703
  | .photonFail => 0x2704
  | .paceAbort => 0x2705
  | .paceMargin => 0x2706
  | .paceCapped => 0x2707
  | .stringShortSs => 0x2801
  | .stringOpen => 0x2802
  | .lampShort => 0x2803
  | .lampOpen => 0x2804
  | .stringOvercurrent => 0x2805
  | .stringTshut => 0x2806
  | .stringDerating => 0x2807
  | .groupOff => 0x2808
  | .stringTempStale => 0x2809
  | .photonClip => 0x280A
  | .plausWarn => 0x2901
  | .plausHalt => 0x2902
  | .sensorOpen => 0x2903
  | .mainsLost => 0x2904
  | .scanOverrun => 0x2905
  | .heathDropped => 0x2906
  | .heathOverrange => 0x2907
  | .slaveLost => 0x2A01
  | .bankGranted => 0x2B01
  | .bankForeignRead => 0x2B02
  | .bankForeignWrite => 0x2B03
  | .eccCorrected => 0x2B04
  | .eccUncorrectable => 0x2B05
  | .rowRepaired => 0x2B06
  | .spareExhausted => 0x2B07
  | .tamper => 0x2B08
  | .keyWiped => 0x2B09
  | .keyLoaded => 0x2B0A
  | .lcChanged => 0x2B0B
  | .streamOverflow => 0x2C01
  | .streamRecTooLong => 0x2C02
  | .streamStopped => 0x2C03
  | .pcieLinkDown => 0x2C04
  | .pcieFetchError => 0x2C05
  | .stageLost => 0x2C06
  | .qspiWriteDropped => 0x2C07
  | .canBusOff => 0x2D01
  | .canErrorPassive => 0x2D02
  | .canRxOverrun => 0x2D03
  | .hbLostWarn => 0x2D04
  | .hbLostHalt => 0x2D05
  | .nmtOverruled => 0x2D06
  | .rpdoRefused => 0x2D07
  | .linkEnumerated => 0x2E01
  | .linkEnumFailed => 0x2E02
  | .linkTooMany => 0x2E03
  | .linkBreak => 0x2E04
  | .linkRestored => 0x2E05
  | .linkLostHalf => 0x2E06
  | .linkUndelivered => 0x2E07
  | .linkReplayOff => 0x2E08
  | .linkAligned => 0x2E09
  | .linkAlignLost => 0x2E0A
  | .memberRepeat => 0x2E0B
  | .memberAdmitted => 0x2E0C
  | .linkAdmitFailed => 0x2E0D
  | .eventCleared => 0x2F01

/-- The severity of an event (R873): no entry can change it. -/
def Event.severity : Event → Severity
  | .modeChanged => .info
  | .parkRequested => .info
  | .claimChanged => .info
  | .claimBroken => .warn
  | .levelChanged => .info
  | .defaultsRestored => .info
  | .seqReset => .info
  | .islandFenced => .info
  | .islandPllLost => .fault
  | .handshakeTimeout => .fault
  | .islandReadmitted => .info
  | .readmitFailed => .warn
  | .tbHoldover => .warn
  | .reportsLost => .warn
  | .linesSkipped => .warn
  | .seqDone => .info
  | .railPgTimeout => .fault
  | .railLost => .halt
  | .railLostDown => .warn
  | .railNoDischarge => .warn
  | .deviceReset => .info
  | .bootRetry => .warn
  | .tjHigh => .warn
  | .tjShutdown => .halt
  | .trigDropped => .warn
  | .rulingOverspeed => .warn
  | .scanDone => .info
  | .shortLine => .warn
  | .rulingUncertain => .warn
  | .rangeClip => .info
  | .watchMismatch => .warn
  | .laneSyncLost => .warn
  | .laneSyncError => .warn
  | .laneSkew => .warn
  | .calDone => .info
  | .calFailed => .warn
  | .coverOpen => .halt
  | .coverClosed => .info
  | .tempStale => .warn
  | .regNoSpace => .warn
  | .seamMismatch => .warn
  | .seamPartnerLate => .info
  | .leadEdge => .info
  | .calBankLost => .warn
  | .tagKeyAbsent => .warn
  | .lineOverrun => .warn
  | .stall => .fault
  | .encFault => .fault
  | .coilOpen => .fault
  | .overcurrent => .fault
  | .posUncertain => .warn
  | .homed => .info
  | .homeFailed => .warn
  | .limitStop => .warn
  | .pacePause => .info
  | .paceResume => .info
  | .paceJoinFail => .warn
  | .photonFail => .warn
  | .paceAbort => .warn
  | .paceMargin => .warn
  | .paceCapped => .info
  | .stringShortSs => .fault
  | .stringOpen => .fault
  | .lampShort => .fault
  | .lampOpen => .fault
  | .stringOvercurrent => .fault
  | .stringTshut => .fault
  | .stringDerating => .warn
  | .groupOff => .warn
  | .stringTempStale => .warn
  | .photonClip => .warn
  | .plausWarn => .warn
  | .plausHalt => .halt
  | .sensorOpen => .warn
  | .mainsLost => .warn
  | .scanOverrun => .warn
  | .heathDropped => .warn
  | .heathOverrange => .warn
  | .slaveLost => .warn
  | .bankGranted => .info
  | .bankForeignRead => .warn
  | .bankForeignWrite => .warn
  | .eccCorrected => .info
  | .eccUncorrectable => .warn
  | .rowRepaired => .info
  | .spareExhausted => .warn
  | .tamper => .halt
  | .keyWiped => .warn
  | .keyLoaded => .info
  | .lcChanged => .info
  | .streamOverflow => .warn
  | .streamRecTooLong => .warn
  | .streamStopped => .info
  | .pcieLinkDown => .warn
  | .pcieFetchError => .warn
  | .stageLost => .warn
  | .qspiWriteDropped => .warn
  | .canBusOff => .warn
  | .canErrorPassive => .info
  | .canRxOverrun => .warn
  | .hbLostWarn => .warn
  | .hbLostHalt => .halt
  | .nmtOverruled => .info
  | .rpdoRefused => .warn
  | .linkEnumerated => .info
  | .linkEnumFailed => .warn
  | .linkTooMany => .warn
  | .linkBreak => .warn
  | .linkRestored => .info
  | .linkLostHalf => .warn
  | .linkUndelivered => .warn
  | .linkReplayOff => .warn
  | .linkAligned => .info
  | .linkAlignLost => .warn
  | .memberRepeat => .info
  | .memberAdmitted => .info
  | .linkAdmitFailed => .warn
  | .eventCleared => .info

end Sys2Proof.Machine
end

