-- ==== Sys2Proof/Machine/Objects.lean ====
section
/-! DEFINITION. The Objects tables of the spec: one name per entry that a chapter's table defines (R7, R9), its place in the
index map (R66 to R68, R76), type, access code and default. The rows follow the order of the chapters. -/
namespace Sys2Proof.Machine

/-- The types of *The object dictionary*. -/
inductive Ty where
  | bool | u8 | u16 | u32 | i8 | i16 | i32 | real32 | str | dom
deriving DecidableEq, Repr

/-- The access codes of *The object dictionary*. -/
inductive Access where
  | ro | rw | rwp | wo | const_
deriving DecidableEq, Repr

/-- Every entry of every Objects table. `highestSub` stands for the CONST entry that R63 puts at sub-index 00. -/
inductive Name where
  | highestSub
  | modeReq | modeNow | parkCause | calAge | calMaxAge | calUsed | levelKey | levelGranted
  | claim | epoch | lastStatus | restoreDefaults | deviceSeq | resetCount | lastHostSeq | journalHead
  | journalOldest | journalFloor | journalCount | stateDigest | digestSeq | command | islandState | timeLo
  | timeHi | tbStatus | fenceReq | headEn | pixels | segCount | lineSep | lineDur
  | scanLines | lineNumber | trigDropped | headState | segLen | segRep | trigSrc | trigBusLine
  | hostTrig | expStart | expLen | nibOut | rulingAxis | rulingSrc | pitch | origin
  | rulingDir | fineDelay | pattern | polarity | offsetDac | rangeMode | rangeFixed | rangeLimits
  | rangeStart | pedMeas | clipCount | rangeNow | pairEn | watchCh | watchTol | watchLimit
  | watchFails | videoSrc | laneStd | lanes | wordBits | laneRate | laneState | syncErrors
  | rangeGain | pairSkew | calBank | calCmd | calLines | calState | whiteTarget | darkMax
  | defectDev | defectMax | defects | tCal | calCrc | corrMode | defectEn | lineTempSrc
  | tempMaxAge | tempNow | regOrder | regExtBank | regExtCount | avg | edgeThresh | edgePol
  | skewLines | skew | leadLine | seamLRole | seamLPix | seamLPartner | seamRRole | seamRPix
  | seamRPartner | seamLOffset | seamROffset | seamWait | lineRoute | pageLines | tagEn | page
  | coverEn | coverDebounce | coverState | calId | fLimit | darkTable | gainTable | tempCoef
  | defectMap | axisMode | axisEn | microstep | moveCmd | axisTarget | vMax | accMax
  | decMax | jerk | axisState | axisStatus | pos | posSet | speed | axisFaultClr
  | axisFaultCause | axisSkipCount | encEn | encScale | encInvert | encFilter | encPos | indexPos
  | dev | devWin | devTime | encErrors | iRun | iHold | iBoost | holdDelay
  | senseEn | iLimit | iSenseA | iSenseB | homeMethod | homeDir | homeV | homeVSlow
  | homePos | homeBackoff | calLo | calHi | limitEn | softLo | softHi | homeRange
  | bridgePeriod | duty | retarget | stepWidth | dirSetup | kp | ki | kv
  | bridgeMinOn | deadTime | paceEn | paceHead | paceStreams | lowWm | highWm | vScan
  | backlash | paceSettle | backoffV | joinTol | paceState | freeMin | vCap | stopLines
  | backoffDist | pauseCount | endTarget | photonMode | photonStrings | photonMin | photonMax | photonTol
  | photonScale | tNom | stringEn | illumGroup | topology | fsw | iSet | ssTime
  | stringState | onFade | offFade | fadeShape | lsFaultCause | csLimit | lsSkipCount | lsFaultClr
  | dimFade | dimMode | lsPwmPeriod | dim | pwmPhase | photonClips | voutNom | ovpV
  | lampV | thermPolicy | lsTempSrc | tKnee | tShut | tHyst | derate | voutMeas
  | matrixEn | lampMask | bypPattern | lampFault | checkInterval | checkScan | groupRelax | heathEn
  | scanPeriod | heathRoute | urgent | heathState | badEntry | passCount | heathDropped | heathDischarge
  | ringHead | heathValue | mainsFreq | mainsNominal | isrcUa | bxLevel | bxSettle | sinFreq
  | sinAmpl | plausEntries | plausTol | plausLimit | plausAction | plausState | plausClr | isrcActual
  | scanList | resultRing | userCurves | ntcCoef | polySets | tmrRun | clkSrc | prescN
  | prescF | periodLo | periodHi | countLo | countHi | oneShot | tmrState | rollovers
  | cmpALo | cmpAHi | cmpBLo | cmpBHi | outPin | outMode | tbLine | tbEvent
  | capSrc | capEdge | capFilter | capPresc | capRiseLo | capRiseHi | capFallLo | capFallHi
  | capWidth | capPeriod | capSeq | capTime | slaveMode | slaveSrc | slaveEdgeSel | slaveWatch
  | bgtEn | bgtInterval | bgtPasses | lifeCycle | keyState | keyId | wipe | tamperEn
  | tamperState | tamperClr | owner | bankPowerReq | bankState | bankReserved04 | foreignCount | ceCount
  | ueCount | lastUeAddr | sparesUsed | lcAdvance | keyLoad | cmdBase | cmdLog2 | cplBase
  | cplShadow | cmdEn | cmdTail | cmdHead | cplHead | cplTail | ringState | linkStatus
  | irqEventMin | streamEn | bufBase | bufLog2 | wrPtr | rdPtr | stageBank | streamState
  | wrShadow | irqRecords | irqTime | freeRecords | recMax | streamRecords | streamDropped | streamDiscarded
  | parStyle | parErr | parPending | parCpl | parFifoReset | qspiErr | qspiPending | qspiCpl
  | qspiFifoReset | deviceType | errorRegister | cobIdSync | deviceName | hwVersion | cobIdEmcy | emcyInhibit
  | producerHb | identity | nodeId | nodeIdNow | bitrate | dataRate | nmtAccept | nmtState
  | emcyMin | hbAction | sdoTimeout | busState | errCounters | busOffCount | timingNom | timingData
  | timingSrc | member | ringSize | memberOut | memberState | enumReq | collector | collectStream
  | collectRecMax | admitLead | ringRefHead | p5Source | isRoot | undelivered | lostHalves | admitLine
  | repeatCause | linkRingState | portState | laneLock | crcErrors | swallowed | replays | hopDelay
  | voids | ringOffset | alignErr | rateAdj | ackTimeout | fwdOut | fwdIn | seqPowerReq
  | seqState | seqStep | railMask | partialCount | lossPolicy | dirtyMask | dirtyClr | bootRails
  | railsUp | onDelay | pgTimeout | railDischarge | offTimeout | goodTh | offTh | railStatus
  | resetCause | deviceReset | straps | bootFails | tj | tjWarn | tjPeak | unclearedCount
  | eventCount | uncleared | errorCount | errorField | consumerHbZero | consumerHb | rpdoCobId | rpdoType | rpdoMapCount
  | rpdoMap | tpdoCobId | tpdoType | tpdoInhibit | tpdoEventTimer | tpdoMapCount | tpdoMap
deriving DecidableEq, Repr

/-- One row of an Objects table: instance `j` of the entry lies at index `base + stride * j`, and its `i`-th sub-index
is `subLo + subStep * i`. -/
structure Row where
  base : Nat
  stride : Nat
  count : Nat
  subLo : Nat
  subStep : Nat
  subCount : Nat
  ty : Ty
  access : Access
  dflt : Nat
deriving DecidableEq, Repr

/-- The row of each name, as the Objects tables give it. -/
def rowOf : Name → Row
  | .highestSub => ⟨0, 0, 0, 0, 1, 0, .u8, .const_, 0⟩
  -- chapter 02
  | .modeReq => ⟨0x2000, 0x1, 1, 0x1, 1, 1, .u8, .rw, 0x0⟩
  | .modeNow => ⟨0x2000, 0x1, 1, 0x2, 1, 1, .u8, .ro, 0x0⟩
  | .parkCause => ⟨0x2000, 0x1, 1, 0x3, 1, 1, .u16, .ro, 0x0⟩
  | .calAge => ⟨0x2000, 0x1, 1, 0x4, 1, 1, .u32, .ro, 0xFFFFFFFF⟩
  | .calMaxAge => ⟨0x2000, 0x1, 1, 0x5, 1, 1, .u32, .rwp, 0x0⟩
  | .calUsed => ⟨0x2000, 0x1, 1, 0x6, 1, 1, .bool, .ro, 0x0⟩
  -- chapter 03
  | .levelKey => ⟨0x2000, 0x1, 1, 0x10, 1, 1, .u32, .wo, 0x0⟩
  | .levelGranted => ⟨0x2000, 0x1, 1, 0x11, 1, 1, .u8, .ro, 0x40⟩
  | .claim => ⟨0x2001, 0x1, 1, 0x1, 1, 56, .u8, .rw, 0xFF⟩
  | .epoch => ⟨0x2002, 0x1, 1, 0x1, 1, 56, .u16, .ro, 0x0⟩
  | .lastStatus => ⟨0x2003, 0x1, 1, 0x1, 1, 7, .u32, .ro, 0x0⟩
  | .restoreDefaults => ⟨0x2005, 0x1, 1, 0x1, 1, 1, .u32, .wo, 0x0⟩
  -- chapter 04
  | .deviceSeq => ⟨0x2010, 0x1, 1, 0x1, 1, 1, .u32, .ro, 0x0⟩
  | .resetCount => ⟨0x2010, 0x1, 1, 0x2, 1, 1, .u32, .ro, 0x1⟩
  | .lastHostSeq => ⟨0x2011, 0x1, 1, 0x1, 1, 6, .u16, .ro, 0xFFFF⟩
  | .journalHead => ⟨0x2012, 0x1, 1, 0x1, 1, 1, .u32, .ro, 0x0⟩
  | .journalOldest => ⟨0x2012, 0x1, 1, 0x2, 1, 1, .u32, .ro, 0x0⟩
  | .journalFloor => ⟨0x2012, 0x1, 1, 0x3, 1, 1, .u32, .ro, 0x0⟩
  | .journalCount => ⟨0x2012, 0x1, 1, 0x4, 1, 1, .u16, .ro, 0x0⟩
  | .stateDigest => ⟨0x2013, 0x1, 1, 0x1, 1, 16, .u32, .ro, 0x0⟩
  | .digestSeq => ⟨0x2014, 0x1, 1, 0x1, 1, 16, .u32, .ro, 0x0⟩
  | .command => ⟨0x2020, 0x1, 1, 0x0, 1, 1, .dom, .rw, 0x0⟩
  -- chapter 05
  | .islandState => ⟨0x2100, 0x1, 1, 0x1, 1, 15, .u8, .ro, 0x0⟩
  | .timeLo => ⟨0x2110, 0x1, 1, 0x1, 1, 1, .u32, .ro, 0x0⟩
  | .timeHi => ⟨0x2110, 0x1, 1, 0x2, 1, 1, .u32, .ro, 0x0⟩
  | .tbStatus => ⟨0x2110, 0x1, 1, 0x3, 1, 1, .u8, .ro, 0x1⟩
  | .fenceReq => ⟨0x3100, 0x1, 1, 0x1, 1, 15, .u8, .rw, 0x0⟩
  -- chapter 06
  | .headEn => ⟨0x2400, 0x20, 4, 0x1, 1, 1, .bool, .rw, 0x0⟩
  | .pixels => ⟨0x2400, 0x20, 4, 0x2, 1, 1, .u16, .rwp, 0x400⟩
  | .segCount => ⟨0x2400, 0x20, 4, 0x3, 1, 1, .u8, .rwp, 0x1⟩
  | .lineSep => ⟨0x2400, 0x20, 4, 0x4, 1, 1, .u16, .rwp, 0x0⟩
  | .lineDur => ⟨0x2400, 0x20, 4, 0x5, 1, 1, .u32, .ro, 0xFA0⟩
  | .scanLines => ⟨0x2400, 0x20, 4, 0x6, 1, 1, .u32, .rwp, 0x0⟩
  | .lineNumber => ⟨0x2400, 0x20, 4, 0x7, 1, 1, .u32, .ro, 0x0⟩
  | .trigDropped => ⟨0x2400, 0x20, 4, 0x8, 1, 1, .u32, .ro, 0x0⟩
  | .headState => ⟨0x2400, 0x20, 4, 0x9, 1, 1, .u8, .ro, 0x0⟩
  | .segLen => ⟨0x2400, 0x20, 4, 0x10, 1, 16, .u16, .rwp, 0x1⟩
  | .segRep => ⟨0x2400, 0x20, 4, 0x20, 1, 16, .u16, .rwp, 0x1⟩
  | .trigSrc => ⟨0x2401, 0x20, 4, 0x1, 1, 1, .u8, .rwp, 0x0⟩
  | .trigBusLine => ⟨0x2401, 0x20, 4, 0x2, 1, 1, .u8, .rwp, 0x0⟩
  | .hostTrig => ⟨0x2401, 0x20, 4, 0x3, 1, 1, .bool, .wo, 0x0⟩
  | .expStart => ⟨0x2401, 0x20, 4, 0x4, 1, 3, .u32, .rw, 0x0⟩
  | .expLen => ⟨0x2401, 0x20, 4, 0x7, 1, 3, .u32, .rw, 0x0⟩
  | .nibOut => ⟨0x2401, 0x20, 4, 0xA, 1, 3, .u8, .rwp, 0x0⟩
  | .rulingAxis => ⟨0x2402, 0x20, 4, 0x1, 1, 1, .u8, .rwp, 0x0⟩
  | .rulingSrc => ⟨0x2402, 0x20, 4, 0x2, 1, 1, .u8, .rwp, 0x0⟩
  | .pitch => ⟨0x2402, 0x20, 4, 0x3, 1, 1, .u32, .rwp, 0x10000⟩
  | .origin => ⟨0x2402, 0x20, 4, 0x4, 1, 1, .i32, .rwp, 0x0⟩
  | .rulingDir => ⟨0x2402, 0x20, 4, 0x5, 1, 1, .u8, .rwp, 0x0⟩
  | .fineDelay => ⟨0x3400, 0x20, 4, 0x1, 1, 24, .u8, .rwp, 0x0⟩
  | .pattern => ⟨0x5400, 0x20, 4, 0x1, 1, 1, .dom, .rwp, 0x4000⟩
  -- chapter 07
  | .polarity => ⟨0x2480, 0x1, 12, 0x1, 1, 1, .u8, .rwp, 0x0⟩
  | .offsetDac => ⟨0x2480, 0x1, 12, 0x2, 1, 1, .u16, .rwp, 0x40⟩
  | .rangeMode => ⟨0x2480, 0x1, 12, 0x3, 1, 1, .u8, .rwp, 0x0⟩
  | .rangeFixed => ⟨0x2480, 0x1, 12, 0x4, 1, 1, .u8, .rwp, 0x7⟩
  | .rangeLimits => ⟨0x2480, 0x1, 12, 0x5, 1, 1, .u8, .rwp, 0x70⟩
  | .rangeStart => ⟨0x2480, 0x1, 12, 0x6, 1, 1, .u8, .rwp, 0xFF⟩
  | .pedMeas => ⟨0x2480, 0x1, 12, 0x7, 1, 1, .u16, .ro, 0x400⟩
  | .clipCount => ⟨0x2480, 0x1, 12, 0x8, 1, 1, .u32, .ro, 0x0⟩
  | .rangeNow => ⟨0x2480, 0x1, 12, 0x9, 1, 1, .u8, .ro, 0x7⟩
  | .pairEn => ⟨0x248C, 0x1, 1, 0x1, 1, 6, .bool, .rwp, 0x0⟩
  | .watchCh => ⟨0x248D, 0x1, 1, 0x1, 1, 1, .u8, .rw, 0xFE⟩
  | .watchTol => ⟨0x248D, 0x1, 1, 0x2, 1, 1, .u32, .rw, 0x1000⟩
  | .watchLimit => ⟨0x248D, 0x1, 1, 0x3, 1, 1, .u16, .rw, 0x10⟩
  | .watchFails => ⟨0x248D, 0x1, 1, 0x4, 1, 1, .u32, .ro, 0x0⟩
  | .videoSrc => ⟨0x24D0, 0x1, 4, 0x1, 1, 1, .u8, .rwp, 0x0⟩
  | .laneStd => ⟨0x24D0, 0x1, 4, 0x2, 1, 1, .u8, .rwp, 0x0⟩
  | .lanes => ⟨0x24D0, 0x1, 4, 0x3, 1, 1, .u8, .rwp, 0x8⟩
  | .wordBits => ⟨0x24D0, 0x1, 4, 0x4, 1, 1, .u8, .rwp, 0xC⟩
  | .laneRate => ⟨0x24D0, 0x1, 4, 0x5, 1, 1, .u16, .rwp, 0x3E8⟩
  | .laneState => ⟨0x24D0, 0x1, 4, 0x6, 1, 1, .u16, .ro, 0x0⟩
  | .syncErrors => ⟨0x24D0, 0x1, 4, 0x7, 1, 1, .u32, .ro, 0x0⟩
  | .rangeGain => ⟨0x3480, 0x1, 12, 0x1, 1, 8, .u16, .ro, 0x0⟩
  | .pairSkew => ⟨0x348C, 0x1, 1, 0x1, 1, 6, .u8, .rwp, 0x0⟩
  -- chapter 08
  | .calBank => ⟨0x2500, 0x10, 4, 0x1, 1, 1, .u8, .rwp, 0xFF⟩
  | .calCmd => ⟨0x2500, 0x10, 4, 0x2, 1, 1, .u8, .wo, 0x0⟩
  | .calLines => ⟨0x2500, 0x10, 4, 0x3, 1, 1, .u16, .rwp, 0x40⟩
  | .calState => ⟨0x2500, 0x10, 4, 0x4, 1, 1, .u8, .ro, 0x0⟩
  | .whiteTarget => ⟨0x2500, 0x10, 4, 0x5, 1, 3, .u16, .rwp, 0xEA60⟩
  | .darkMax => ⟨0x2500, 0x10, 4, 0x8, 1, 1, .u16, .rwp, 0x1000⟩
  | .defectDev => ⟨0x2500, 0x10, 4, 0x9, 1, 1, .u8, .rwp, 0x40⟩
  | .defectMax => ⟨0x2500, 0x10, 4, 0xA, 1, 1, .u16, .rwp, 0x40⟩
  | .defects => ⟨0x2500, 0x10, 4, 0xB, 1, 3, .u16, .ro, 0x0⟩
  | .tCal => ⟨0x2500, 0x10, 4, 0xE, 1, 1, .real32, .ro, 0x0⟩
  | .calCrc => ⟨0x2500, 0x10, 4, 0xF, 1, 1, .u32, .ro, 0x0⟩
  | .corrMode => ⟨0x2501, 0x10, 4, 0x1, 1, 1, .u8, .rwp, 0x2⟩
  | .defectEn => ⟨0x2501, 0x10, 4, 0x2, 1, 1, .bool, .rwp, 0x1⟩
  | .lineTempSrc => ⟨0x2501, 0x10, 4, 0x3, 1, 1, .u8, .rwp, 0xFF⟩
  | .tempMaxAge => ⟨0x2501, 0x10, 4, 0x4, 1, 1, .u16, .rwp, 0x3E8⟩
  | .tempNow => ⟨0x2501, 0x10, 4, 0x5, 1, 1, .real32, .ro, 0x0⟩
  | .regOrder => ⟨0x2502, 0x10, 4, 0x1, 1, 1, .u8, .rwp, 0x0⟩
  | .regExtBank => ⟨0x2502, 0x10, 4, 0x2, 1, 1, .u8, .rwp, 0x0⟩
  | .regExtCount => ⟨0x2502, 0x10, 4, 0x3, 1, 1, .u8, .rwp, 0x0⟩
  | .avg => ⟨0x2502, 0x10, 4, 0x4, 1, 1, .u8, .rwp, 0x1⟩
  | .edgeThresh => ⟨0x2502, 0x10, 4, 0x5, 1, 1, .u16, .rwp, 0x0⟩
  | .edgePol => ⟨0x2502, 0x10, 4, 0x6, 1, 1, .bool, .rwp, 0x0⟩
  | .skewLines => ⟨0x2502, 0x10, 4, 0x7, 1, 1, .u16, .rwp, 0x100⟩
  | .skew => ⟨0x2502, 0x10, 4, 0x8, 1, 1, .real32, .ro, 0x0⟩
  | .leadLine => ⟨0x2502, 0x10, 4, 0x9, 1, 1, .u32, .ro, 0xFFFFFFFF⟩
  | .seamLRole => ⟨0x2503, 0x10, 4, 0x1, 1, 1, .u8, .rwp, 0x0⟩
  | .seamLPix => ⟨0x2503, 0x10, 4, 0x2, 1, 1, .u16, .rwp, 0x1⟩
  | .seamLPartner => ⟨0x2503, 0x10, 4, 0x3, 1, 1, .u16, .rwp, 0xFFFF⟩
  | .seamRRole => ⟨0x2503, 0x10, 4, 0x4, 1, 1, .u8, .rwp, 0x0⟩
  | .seamRPix => ⟨0x2503, 0x10, 4, 0x5, 1, 1, .u16, .rwp, 0x1⟩
  | .seamRPartner => ⟨0x2503, 0x10, 4, 0x6, 1, 1, .u16, .rwp, 0xFFFF⟩
  | .seamLOffset => ⟨0x2503, 0x10, 4, 0x7, 1, 1, .u8, .rwp, 0x0⟩
  | .seamROffset => ⟨0x2503, 0x10, 4, 0x8, 1, 1, .u8, .rwp, 0x0⟩
  | .seamWait => ⟨0x2503, 0x10, 4, 0x9, 1, 1, .u16, .rwp, 0x64⟩
  | .lineRoute => ⟨0x2504, 0x10, 4, 0x1, 1, 1, .u8, .rwp, 0x0⟩
  | .pageLines => ⟨0x2504, 0x10, 4, 0x2, 1, 1, .u16, .rwp, 0x0⟩
  | .tagEn => ⟨0x2504, 0x10, 4, 0x3, 1, 1, .bool, .rwp, 0x0⟩
  | .page => ⟨0x2504, 0x10, 4, 0x4, 1, 1, .u32, .ro, 0x0⟩
  | .coverEn => ⟨0x2505, 0x10, 4, 0x1, 1, 1, .bool, .rwp, 0x0⟩
  | .coverDebounce => ⟨0x2505, 0x10, 4, 0x2, 1, 1, .u8, .rwp, 0x14⟩
  | .coverState => ⟨0x2505, 0x10, 4, 0x3, 1, 1, .bool, .ro, 0x0⟩
  | .calId => ⟨0x2590, 0x1, 1, 0x1, 1, 1, .u32, .ro, 0x0⟩
  | .fLimit => ⟨0x3501, 0x10, 4, 0x1, 1, 1, .u16, .rwp, 0x100⟩
  | .darkTable => ⟨0x5500, 0x10, 4, 0x1, 1, 1, .dom, .rwp, 0x30000⟩
  | .gainTable => ⟨0x5500, 0x10, 4, 0x2, 1, 1, .dom, .rwp, 0x30000⟩
  | .tempCoef => ⟨0x5500, 0x10, 4, 0x3, 1, 1, .dom, .rwp, 0x1800⟩
  | .defectMap => ⟨0x5500, 0x10, 4, 0x4, 1, 1, .dom, .rwp, 0x3000⟩
  -- chapter 09
  | .axisMode => ⟨0x2600, 0x20, 6, 0x1, 1, 1, .u8, .rwp, 0x0⟩
  | .axisEn => ⟨0x2600, 0x20, 6, 0x2, 1, 1, .bool, .rw, 0x0⟩
  | .microstep => ⟨0x2600, 0x20, 6, 0x3, 1, 1, .u16, .rwp, 0x100⟩
  | .moveCmd => ⟨0x2600, 0x20, 6, 0x4, 1, 1, .u8, .wo, 0x0⟩
  | .axisTarget => ⟨0x2600, 0x20, 6, 0x5, 1, 1, .i32, .rw, 0x0⟩
  | .vMax => ⟨0x2600, 0x20, 6, 0x6, 1, 1, .u32, .rw, 0x2710⟩
  | .accMax => ⟨0x2600, 0x20, 6, 0x7, 1, 1, .u32, .rw, 0x186A0⟩
  | .decMax => ⟨0x2600, 0x20, 6, 0x8, 1, 1, .u32, .rw, 0x186A0⟩
  | .jerk => ⟨0x2600, 0x20, 6, 0x9, 1, 1, .u32, .rw, 0x3E8⟩
  | .axisState => ⟨0x2600, 0x20, 6, 0xA, 1, 1, .u8, .ro, 0x0⟩
  | .axisStatus => ⟨0x2600, 0x20, 6, 0xB, 1, 1, .u8, .ro, 0x1⟩
  | .pos => ⟨0x2600, 0x20, 6, 0xC, 1, 1, .i32, .ro, 0x0⟩
  | .posSet => ⟨0x2600, 0x20, 6, 0xD, 1, 1, .i32, .wo, 0x0⟩
  | .speed => ⟨0x2600, 0x20, 6, 0xE, 1, 1, .i32, .ro, 0x0⟩
  | .axisFaultClr => ⟨0x2600, 0x20, 6, 0xF, 1, 1, .u8, .wo, 0x0⟩
  | .axisFaultCause => ⟨0x2600, 0x20, 6, 0x10, 1, 1, .u16, .ro, 0x0⟩
  | .axisSkipCount => ⟨0x2600, 0x20, 6, 0x11, 1, 1, .u32, .ro, 0x0⟩
  | .encEn => ⟨0x2601, 0x20, 6, 0x1, 1, 1, .bool, .rwp, 0x0⟩
  | .encScale => ⟨0x2601, 0x20, 6, 0x2, 1, 1, .u32, .rwp, 0x10000⟩
  | .encInvert => ⟨0x2601, 0x20, 6, 0x3, 1, 1, .bool, .rwp, 0x0⟩
  | .encFilter => ⟨0x2601, 0x20, 6, 0x4, 1, 1, .u8, .rwp, 0x2⟩
  | .encPos => ⟨0x2601, 0x20, 6, 0x5, 1, 1, .i32, .ro, 0x0⟩
  | .indexPos => ⟨0x2601, 0x20, 6, 0x6, 1, 1, .i32, .ro, 0x0⟩
  | .dev => ⟨0x2601, 0x20, 6, 0x7, 1, 1, .i32, .ro, 0x0⟩
  | .devWin => ⟨0x2601, 0x20, 6, 0x8, 1, 1, .u32, .rw, 0x0⟩
  | .devTime => ⟨0x2601, 0x20, 6, 0x9, 1, 1, .u16, .rw, 0x3E8⟩
  | .encErrors => ⟨0x2601, 0x20, 6, 0xA, 1, 1, .u32, .ro, 0x0⟩
  | .iRun => ⟨0x2602, 0x20, 6, 0x1, 1, 1, .u16, .rw, 0x200⟩
  | .iHold => ⟨0x2602, 0x20, 6, 0x2, 1, 1, .u16, .rw, 0x100⟩
  | .iBoost => ⟨0x2602, 0x20, 6, 0x3, 1, 1, .u16, .rw, 0x300⟩
  | .holdDelay => ⟨0x2602, 0x20, 6, 0x4, 1, 1, .u16, .rw, 0xC8⟩
  | .senseEn => ⟨0x2602, 0x20, 6, 0x5, 1, 1, .bool, .rwp, 0x0⟩
  | .iLimit => ⟨0x2602, 0x20, 6, 0x6, 1, 1, .u16, .rw, 0xFA0⟩
  | .iSenseA => ⟨0x2602, 0x20, 6, 0x7, 1, 1, .u16, .ro, 0x0⟩
  | .iSenseB => ⟨0x2602, 0x20, 6, 0x8, 1, 1, .u16, .ro, 0x0⟩
  | .homeMethod => ⟨0x2603, 0x20, 6, 0x1, 1, 1, .u8, .rwp, 0x0⟩
  | .homeDir => ⟨0x2603, 0x20, 6, 0x2, 1, 1, .u8, .rwp, 0x1⟩
  | .homeV => ⟨0x2603, 0x20, 6, 0x3, 1, 1, .u32, .rw, 0x1388⟩
  | .homeVSlow => ⟨0x2603, 0x20, 6, 0x4, 1, 1, .u32, .rw, 0x1F4⟩
  | .homePos => ⟨0x2603, 0x20, 6, 0x5, 1, 1, .i32, .rw, 0x0⟩
  | .homeBackoff => ⟨0x2603, 0x20, 6, 0x6, 1, 1, .u32, .rw, 0x3E8⟩
  | .calLo => ⟨0x2603, 0x20, 6, 0x7, 1, 1, .i32, .rwp, 0x0⟩
  | .calHi => ⟨0x2603, 0x20, 6, 0x8, 1, 1, .i32, .rwp, 0x0⟩
  | .limitEn => ⟨0x2603, 0x20, 6, 0x9, 1, 1, .bool, .rwp, 0x0⟩
  | .softLo => ⟨0x2603, 0x20, 6, 0xA, 1, 1, .i32, .rwp, 0x80000000⟩
  | .softHi => ⟨0x2603, 0x20, 6, 0xB, 1, 1, .i32, .rwp, 0x7FFFFFFF⟩
  | .homeRange => ⟨0x2603, 0x20, 6, 0xC, 1, 1, .u32, .rw, 0x0⟩
  | .bridgePeriod => ⟨0x2604, 0x20, 6, 0x1, 1, 1, .u16, .rwp, 0x2710⟩
  | .duty => ⟨0x2604, 0x20, 6, 0x2, 1, 1, .i16, .ro, 0x0⟩
  | .retarget => ⟨0x3600, 0x20, 6, 0x1, 1, 1, .i32, .rw, 0x0⟩
  | .stepWidth => ⟨0x3600, 0x20, 6, 0x2, 1, 1, .u16, .rwp, 0x14⟩
  | .dirSetup => ⟨0x3600, 0x20, 6, 0x3, 1, 1, .u16, .rwp, 0x28⟩
  | .kp => ⟨0x3600, 0x20, 6, 0x4, 1, 1, .real32, .rw, 0x0⟩
  | .ki => ⟨0x3600, 0x20, 6, 0x5, 1, 1, .real32, .rw, 0x0⟩
  | .kv => ⟨0x3600, 0x20, 6, 0x6, 1, 1, .real32, .rw, 0x0⟩
  | .bridgeMinOn => ⟨0x3600, 0x20, 6, 0x7, 1, 1, .u16, .rwp, 0x14⟩
  | .deadTime => ⟨0x3600, 0x20, 6, 0x8, 1, 1, .u16, .rwp, 0x28⟩
  -- chapter 10
  | .paceEn => ⟨0x2700, 0x1, 1, 0x1, 1, 1, .bool, .rwp, 0x0⟩
  | .paceHead => ⟨0x2700, 0x1, 1, 0x2, 1, 1, .u8, .rwp, 0x0⟩
  | .paceStreams => ⟨0x2700, 0x1, 1, 0x3, 1, 1, .u8, .rwp, 0x1⟩
  | .lowWm => ⟨0x2700, 0x1, 1, 0x4, 1, 1, .u16, .rwp, 0x8⟩
  | .highWm => ⟨0x2700, 0x1, 1, 0x5, 1, 1, .u16, .rwp, 0x20⟩
  | .vScan => ⟨0x2700, 0x1, 1, 0x6, 1, 1, .u32, .rwp, 0x2710⟩
  | .backlash => ⟨0x2700, 0x1, 1, 0x7, 1, 1, .u32, .rwp, 0x0⟩
  | .paceSettle => ⟨0x2700, 0x1, 1, 0x8, 1, 1, .u32, .rwp, 0x0⟩
  | .backoffV => ⟨0x2700, 0x1, 1, 0x9, 1, 1, .u32, .rwp, 0x3E8⟩
  | .joinTol => ⟨0x2700, 0x1, 1, 0xA, 1, 1, .u8, .rwp, 0x8⟩
  | .paceState => ⟨0x2700, 0x1, 1, 0xB, 1, 1, .u8, .ro, 0x0⟩
  | .freeMin => ⟨0x2700, 0x1, 1, 0xC, 1, 1, .u32, .ro, 0x0⟩
  | .vCap => ⟨0x2700, 0x1, 1, 0xD, 1, 1, .u32, .ro, 0x0⟩
  | .stopLines => ⟨0x2700, 0x1, 1, 0xE, 1, 1, .u32, .ro, 0x0⟩
  | .backoffDist => ⟨0x2700, 0x1, 1, 0xF, 1, 1, .u32, .ro, 0x0⟩
  | .pauseCount => ⟨0x2700, 0x1, 1, 0x10, 1, 1, .u32, .ro, 0x0⟩
  | .endTarget => ⟨0x2700, 0x1, 1, 0x11, 1, 1, .i32, .ro, 0x0⟩
  | .photonMode => ⟨0x2710, 0x1, 1, 0x1, 1, 1, .u8, .rwp, 0x0⟩
  | .photonStrings => ⟨0x2710, 0x1, 1, 0x2, 1, 1, .u8, .rwp, 0x0⟩
  | .photonMin => ⟨0x2710, 0x1, 1, 0x3, 1, 1, .u32, .rwp, 0x400⟩
  | .photonMax => ⟨0x2710, 0x1, 1, 0x4, 1, 1, .u32, .rwp, 0x10000⟩
  | .photonTol => ⟨0x2710, 0x1, 1, 0x5, 1, 1, .u16, .rwp, 0x28F⟩
  | .photonScale => ⟨0x2710, 0x1, 1, 0x6, 1, 1, .u32, .ro, 0x10000⟩
  | .tNom => ⟨0x2710, 0x1, 1, 0x7, 1, 1, .u32, .ro, 0x0⟩
  -- chapter 11
  | .stringEn => ⟨0x2800, 0x10, 8, 0x1, 1, 1, .u8, .rw, 0x0⟩
  | .illumGroup => ⟨0x2800, 0x10, 8, 0x2, 1, 1, .u8, .rwp, 0xFF⟩
  | .topology => ⟨0x2800, 0x10, 8, 0x3, 1, 1, .u8, .rwp, 0x0⟩
  | .fsw => ⟨0x2800, 0x10, 8, 0x4, 1, 1, .u16, .rwp, 0x1F4⟩
  | .iSet => ⟨0x2800, 0x10, 8, 0x5, 1, 1, .u16, .rw, 0x0⟩
  | .ssTime => ⟨0x2800, 0x10, 8, 0x6, 1, 1, .u16, .rwp, 0xC8⟩
  | .stringState => ⟨0x2800, 0x10, 8, 0x7, 1, 1, .u8, .ro, 0x0⟩
  | .onFade => ⟨0x2800, 0x10, 8, 0x8, 1, 1, .u16, .rw, 0x0⟩
  | .offFade => ⟨0x2800, 0x10, 8, 0x9, 1, 1, .u16, .rw, 0x0⟩
  | .fadeShape => ⟨0x2800, 0x10, 8, 0xA, 1, 1, .u8, .rw, 0x0⟩
  | .lsFaultCause => ⟨0x2800, 0x10, 8, 0xB, 1, 1, .u16, .ro, 0x0⟩
  | .csLimit => ⟨0x2800, 0x10, 8, 0xC, 1, 1, .u16, .rwp, 0xBB8⟩
  | .lsSkipCount => ⟨0x2800, 0x10, 8, 0xD, 1, 1, .u32, .ro, 0x0⟩
  | .lsFaultClr => ⟨0x2800, 0x10, 8, 0xE, 1, 1, .u8, .wo, 0x0⟩
  | .dimFade => ⟨0x2800, 0x10, 8, 0xF, 1, 1, .u16, .rw, 0x0⟩
  | .dimMode => ⟨0x2801, 0x10, 8, 0x1, 1, 1, .u8, .rwp, 0x0⟩
  | .lsPwmPeriod => ⟨0x2801, 0x10, 8, 0x2, 1, 1, .u16, .rw, 0xC80⟩
  | .dim => ⟨0x2801, 0x10, 8, 0x3, 1, 1, .u16, .rw, 0xFFFF⟩
  | .pwmPhase => ⟨0x2801, 0x10, 8, 0x4, 1, 1, .u16, .rwp, 0x0⟩
  | .photonClips => ⟨0x2801, 0x10, 8, 0x5, 1, 1, .u32, .ro, 0x0⟩
  | .voutNom => ⟨0x2802, 0x10, 8, 0x1, 1, 1, .u16, .rwp, 0x0⟩
  | .ovpV => ⟨0x2802, 0x10, 8, 0x2, 1, 1, .u16, .rwp, 0xEA60⟩
  | .lampV => ⟨0x2802, 0x10, 8, 0x3, 1, 1, .u16, .rwp, 0xBB8⟩
  | .thermPolicy => ⟨0x2802, 0x10, 8, 0x4, 1, 1, .u8, .rwp, 0x0⟩
  | .lsTempSrc => ⟨0x2802, 0x10, 8, 0x5, 1, 1, .u8, .rwp, 0xFF⟩
  | .tKnee => ⟨0x2802, 0x10, 8, 0x6, 1, 1, .real32, .rwp, 0x428C0000⟩
  | .tShut => ⟨0x2802, 0x10, 8, 0x7, 1, 1, .real32, .rwp, 0x42B40000⟩
  | .tHyst => ⟨0x2802, 0x10, 8, 0x8, 1, 1, .real32, .rwp, 0x41200000⟩
  | .derate => ⟨0x2802, 0x10, 8, 0x9, 1, 1, .u16, .ro, 0x1000⟩
  | .voutMeas => ⟨0x2802, 0x10, 8, 0xA, 1, 1, .u16, .ro, 0x0⟩
  | .matrixEn => ⟨0x2803, 0x10, 2, 0x1, 1, 1, .bool, .rwp, 0x0⟩
  | .lampMask => ⟨0x2803, 0x10, 2, 0x2, 1, 2, .u32, .rwp, 0xFFFFFFFF⟩
  | .bypPattern => ⟨0x2803, 0x10, 2, 0x4, 1, 2, .u32, .rw, 0x0⟩
  | .lampFault => ⟨0x2803, 0x10, 2, 0x6, 1, 2, .u32, .ro, 0x0⟩
  | .checkInterval => ⟨0x2803, 0x10, 2, 0x8, 1, 1, .u16, .rwp, 0xA⟩
  | .checkScan => ⟨0x2803, 0x10, 2, 0x9, 1, 1, .bool, .rwp, 0x0⟩
  | .groupRelax => ⟨0x3800, 0x10, 8, 0x1, 1, 1, .bool, .rw, 0x0⟩
  -- chapter 12
  | .heathEn => ⟨0x2900, 0x1, 1, 0x1, 1, 1, .bool, .rw, 0x0⟩
  | .scanPeriod => ⟨0x2900, 0x1, 1, 0x2, 1, 1, .u32, .rw, 0x0⟩
  | .heathRoute => ⟨0x2900, 0x1, 1, 0x3, 1, 1, .u8, .rw, 0xFF⟩
  | .urgent => ⟨0x2900, 0x1, 1, 0x4, 1, 1, .u8, .wo, 0x0⟩
  | .heathState => ⟨0x2900, 0x1, 1, 0x5, 1, 1, .u8, .ro, 0x0⟩
  | .badEntry => ⟨0x2900, 0x1, 1, 0x6, 1, 1, .u8, .ro, 0xFF⟩
  | .passCount => ⟨0x2900, 0x1, 1, 0x7, 1, 1, .u32, .ro, 0x0⟩
  | .heathDropped => ⟨0x2900, 0x1, 1, 0x8, 1, 1, .u32, .ro, 0x0⟩
  | .heathDischarge => ⟨0x2900, 0x1, 1, 0x9, 1, 1, .u16, .rw, 0xA⟩
  | .ringHead => ⟨0x2900, 0x1, 1, 0xA, 1, 1, .u16, .ro, 0x0⟩
  | .heathValue => ⟨0x2910, 0x1, 1, 0x1, 1, 64, .real32, .ro, 0x0⟩
  | .mainsFreq => ⟨0x2920, 0x1, 1, 0x1, 1, 1, .real32, .ro, 0x0⟩
  | .mainsNominal => ⟨0x2920, 0x1, 1, 0x2, 1, 1, .u8, .rw, 0x32⟩
  | .isrcUa => ⟨0x2930, 0x1, 1, 0x1, 1, 4, .u16, .rw, 0x64⟩
  | .bxLevel => ⟨0x2930, 0x1, 1, 0x5, 1, 2, .u8, .rw, 0x0⟩
  | .bxSettle => ⟨0x2930, 0x1, 1, 0x7, 1, 1, .u16, .rw, 0x1F4⟩
  | .sinFreq => ⟨0x2930, 0x1, 1, 0x8, 1, 2, .u16, .rw, 0x1388⟩
  | .sinAmpl => ⟨0x2930, 0x1, 1, 0xA, 1, 2, .u16, .rw, 0x3E8⟩
  | .plausEntries => ⟨0x2950, 0x1, 1, 0x1, 4, 4, .u16, .rw, 0xFFFF⟩
  | .plausTol => ⟨0x2950, 0x1, 1, 0x2, 4, 4, .real32, .rw, 0x3F800000⟩
  | .plausLimit => ⟨0x2950, 0x1, 1, 0x3, 4, 4, .u8, .rw, 0x3⟩
  | .plausAction => ⟨0x2950, 0x1, 1, 0x4, 4, 4, .u8, .rw, 0x0⟩
  | .plausState => ⟨0x2950, 0x1, 1, 0x11, 1, 1, .u8, .ro, 0x0⟩
  | .plausClr => ⟨0x2950, 0x1, 1, 0x12, 1, 1, .u8, .wo, 0x0⟩
  | .isrcActual => ⟨0x3930, 0x1, 1, 0x1, 1, 4, .real32, .ro, 0x0⟩
  | .scanList => ⟨0x5900, 0x1, 1, 0x1, 1, 1, .dom, .rw, 0x800⟩
  | .resultRing => ⟨0x5900, 0x1, 1, 0x2, 1, 1, .dom, .ro, 0x10000⟩
  | .userCurves => ⟨0x5901, 0x1, 1, 0x1, 1, 1, .dom, .rw, 0x800⟩
  | .ntcCoef => ⟨0x5901, 0x1, 1, 0x2, 1, 1, .dom, .rw, 0x30⟩
  | .polySets => ⟨0x5902, 0x1, 1, 0x1, 1, 1, .dom, .rw, 0x400⟩
  -- chapter 13
  | .tmrRun => ⟨0x2A00, 0x4, 32, 0x1, 1, 1, .bool, .rw, 0x0⟩
  | .clkSrc => ⟨0x2A00, 0x4, 32, 0x2, 1, 1, .u8, .rw, 0x0⟩
  | .prescN => ⟨0x2A00, 0x4, 32, 0x3, 1, 1, .u16, .rw, 0x1⟩
  | .prescF => ⟨0x2A00, 0x4, 32, 0x4, 1, 1, .u16, .rw, 0x0⟩
  | .periodLo => ⟨0x2A00, 0x4, 32, 0x5, 1, 1, .u32, .rw, 0x0⟩
  | .periodHi => ⟨0x2A00, 0x4, 32, 0x6, 1, 1, .u16, .rw, 0x0⟩
  | .countLo => ⟨0x2A00, 0x4, 32, 0x7, 1, 1, .u32, .ro, 0x0⟩
  | .countHi => ⟨0x2A00, 0x4, 32, 0x8, 1, 1, .u16, .ro, 0x0⟩
  | .oneShot => ⟨0x2A00, 0x4, 32, 0x9, 1, 1, .bool, .rw, 0x0⟩
  | .tmrState => ⟨0x2A00, 0x4, 32, 0xA, 1, 1, .u8, .ro, 0x0⟩
  | .rollovers => ⟨0x2A00, 0x4, 32, 0xB, 1, 1, .u32, .ro, 0x0⟩
  | .cmpALo => ⟨0x2A01, 0x4, 32, 0x1, 1, 1, .u32, .rw, 0x0⟩
  | .cmpAHi => ⟨0x2A01, 0x4, 32, 0x2, 1, 1, .u16, .rw, 0x0⟩
  | .cmpBLo => ⟨0x2A01, 0x4, 32, 0x3, 1, 1, .u32, .rw, 0x0⟩
  | .cmpBHi => ⟨0x2A01, 0x4, 32, 0x4, 1, 1, .u16, .rw, 0x0⟩
  | .outPin => ⟨0x2A01, 0x4, 32, 0x5, 1, 1, .u8, .rw, 0xFF⟩
  | .outMode => ⟨0x2A01, 0x4, 32, 0x6, 1, 1, .u8, .rw, 0x0⟩
  | .tbLine => ⟨0x2A01, 0x4, 32, 0x7, 1, 1, .u8, .rw, 0xFF⟩
  | .tbEvent => ⟨0x2A01, 0x4, 32, 0x8, 1, 1, .u8, .rw, 0x0⟩
  | .capSrc => ⟨0x2A02, 0x4, 32, 0x1, 1, 1, .u8, .rw, 0x0⟩
  | .capEdge => ⟨0x2A02, 0x4, 32, 0x2, 1, 1, .u8, .rw, 0x0⟩
  | .capFilter => ⟨0x2A02, 0x4, 32, 0x3, 1, 1, .u8, .rw, 0x0⟩
  | .capPresc => ⟨0x2A02, 0x4, 32, 0x4, 1, 1, .u8, .rw, 0x1⟩
  | .capRiseLo => ⟨0x2A02, 0x4, 32, 0x5, 1, 1, .u32, .ro, 0x0⟩
  | .capRiseHi => ⟨0x2A02, 0x4, 32, 0x6, 1, 1, .u16, .ro, 0x0⟩
  | .capFallLo => ⟨0x2A02, 0x4, 32, 0x7, 1, 1, .u32, .ro, 0x0⟩
  | .capFallHi => ⟨0x2A02, 0x4, 32, 0x8, 1, 1, .u16, .ro, 0x0⟩
  | .capWidth => ⟨0x2A02, 0x4, 32, 0x9, 1, 1, .u32, .ro, 0x0⟩
  | .capPeriod => ⟨0x2A02, 0x4, 32, 0xA, 1, 1, .u32, .ro, 0x0⟩
  | .capSeq => ⟨0x2A02, 0x4, 32, 0xB, 1, 1, .u32, .ro, 0x0⟩
  | .capTime => ⟨0x2A02, 0x4, 32, 0xC, 1, 2, .u32, .ro, 0x0⟩
  | .slaveMode => ⟨0x2A03, 0x4, 32, 0x1, 1, 1, .u8, .rw, 0x0⟩
  | .slaveSrc => ⟨0x2A03, 0x4, 32, 0x2, 1, 1, .u8, .rw, 0x0⟩
  | .slaveEdgeSel => ⟨0x2A03, 0x4, 32, 0x3, 1, 1, .u8, .rw, 0x0⟩
  | .slaveWatch => ⟨0x2A03, 0x4, 32, 0x4, 1, 1, .u16, .rw, 0x0⟩
  -- chapter 14
  | .bgtEn => ⟨0x2B00, 0x1, 1, 0x1, 1, 1, .bool, .rw, 0x1⟩
  | .bgtInterval => ⟨0x2B00, 0x1, 1, 0x2, 1, 1, .u16, .rw, 0x3E8⟩
  | .bgtPasses => ⟨0x2B00, 0x1, 1, 0x3, 1, 1, .u32, .ro, 0x0⟩
  | .lifeCycle => ⟨0x2B02, 0x1, 1, 0x1, 1, 1, .u8, .ro, 0x0⟩
  | .keyState => ⟨0x2B02, 0x1, 1, 0x2, 1, 1, .u8, .ro, 0x0⟩
  | .keyId => ⟨0x2B02, 0x1, 1, 0x3, 1, 1, .u32, .ro, 0x0⟩
  | .wipe => ⟨0x2B02, 0x1, 1, 0x4, 1, 1, .u32, .wo, 0x0⟩
  | .tamperEn => ⟨0x2B03, 0x1, 1, 0x1, 1, 1, .u8, .rw, 0xF⟩
  | .tamperState => ⟨0x2B03, 0x1, 1, 0x2, 1, 1, .u8, .ro, 0x0⟩
  | .tamperClr => ⟨0x2B03, 0x1, 1, 0x3, 1, 1, .u8, .wo, 0x0⟩
  | .owner => ⟨0x2B10, 0x1, 24, 0x1, 1, 1, .u8, .rw, 0xFF⟩
  | .bankPowerReq => ⟨0x2B10, 0x1, 24, 0x2, 1, 1, .u8, .rw, 0x2⟩
  | .bankState => ⟨0x2B10, 0x1, 24, 0x3, 1, 1, .u8, .ro, 0x2⟩
  | .bankReserved04 => ⟨0x2B10, 0x1, 24, 0x4, 1, 1, .u32, .ro, 0x0⟩
  | .foreignCount => ⟨0x2B10, 0x1, 24, 0x5, 1, 1, .u32, .ro, 0x0⟩
  | .ceCount => ⟨0x2B10, 0x1, 24, 0x6, 1, 1, .u32, .ro, 0x0⟩
  | .ueCount => ⟨0x2B10, 0x1, 24, 0x7, 1, 1, .u32, .ro, 0x0⟩
  | .lastUeAddr => ⟨0x2B10, 0x1, 24, 0x8, 1, 1, .u32, .ro, 0x0⟩
  | .sparesUsed => ⟨0x2B10, 0x1, 24, 0x9, 1, 1, .u8, .ro, 0x0⟩
  | .lcAdvance => ⟨0x3B02, 0x1, 1, 0x1, 1, 1, .u8, .wo, 0x0⟩
  | .keyLoad => ⟨0x5B02, 0x1, 1, 0x1, 1, 1, .dom, .wo, 0x0⟩
  -- chapter 15
  | .cmdBase => ⟨0x2C00, 0x1, 1, 0x1, 1, 2, .u32, .rw, 0x0⟩
  | .cmdLog2 => ⟨0x2C00, 0x1, 1, 0x3, 1, 1, .u8, .rw, 0x8⟩
  | .cplBase => ⟨0x2C00, 0x1, 1, 0x4, 1, 2, .u32, .rw, 0x0⟩
  | .cplShadow => ⟨0x2C00, 0x1, 1, 0x6, 1, 2, .u32, .rw, 0x0⟩
  | .cmdEn => ⟨0x2C00, 0x1, 1, 0x8, 1, 1, .bool, .rw, 0x0⟩
  | .cmdTail => ⟨0x2C00, 0x1, 1, 0x9, 1, 1, .u16, .rw, 0x0⟩
  | .cmdHead => ⟨0x2C00, 0x1, 1, 0xA, 1, 1, .u16, .ro, 0x0⟩
  | .cplHead => ⟨0x2C00, 0x1, 1, 0xB, 1, 1, .u16, .ro, 0x0⟩
  | .cplTail => ⟨0x2C00, 0x1, 1, 0xC, 1, 1, .u16, .rw, 0x0⟩
  | .ringState => ⟨0x2C00, 0x1, 1, 0xD, 1, 1, .u8, .ro, 0x0⟩
  | .linkStatus => ⟨0x2C01, 0x1, 1, 0x1, 1, 1, .u16, .ro, 0x0⟩
  | .irqEventMin => ⟨0x2C01, 0x1, 1, 0x2, 1, 1, .u8, .rw, 0x1⟩
  | .streamEn => ⟨0x2C10, 0x1, 8, 0x1, 1, 1, .bool, .rw, 0x0⟩
  | .bufBase => ⟨0x2C10, 0x1, 8, 0x2, 1, 2, .u32, .rw, 0x0⟩
  | .bufLog2 => ⟨0x2C10, 0x1, 8, 0x4, 1, 1, .u8, .rw, 0x14⟩
  | .wrPtr => ⟨0x2C10, 0x1, 8, 0x5, 1, 1, .u32, .ro, 0x0⟩
  | .rdPtr => ⟨0x2C10, 0x1, 8, 0x6, 1, 1, .u32, .rw, 0x0⟩
  | .stageBank => ⟨0x2C10, 0x1, 8, 0x7, 1, 1, .u8, .rw, 0xFF⟩
  | .streamState => ⟨0x2C10, 0x1, 8, 0x8, 1, 1, .u8, .ro, 0x0⟩
  | .wrShadow => ⟨0x2C10, 0x1, 8, 0x9, 1, 2, .u32, .rw, 0x0⟩
  | .irqRecords => ⟨0x2C10, 0x1, 8, 0xB, 1, 1, .u16, .rw, 0x1⟩
  | .irqTime => ⟨0x2C10, 0x1, 8, 0xC, 1, 1, .u16, .rw, 0x0⟩
  | .freeRecords => ⟨0x2C10, 0x1, 8, 0xD, 1, 1, .u32, .ro, 0x0⟩
  | .recMax => ⟨0x2C10, 0x1, 8, 0xE, 1, 1, .u32, .ro, 0x40⟩
  | .streamRecords => ⟨0x2C10, 0x1, 8, 0xF, 1, 1, .u32, .ro, 0x0⟩
  | .streamDropped => ⟨0x2C10, 0x1, 8, 0x10, 1, 1, .u32, .ro, 0x0⟩
  | .streamDiscarded => ⟨0x2C10, 0x1, 8, 0x11, 1, 1, .u32, .ro, 0x0⟩
  -- chapter 16
  | .parStyle => ⟨0x2C20, 0x1, 1, 0x1, 1, 1, .u8, .ro, 0x0⟩
  | .parErr => ⟨0x2C20, 0x1, 1, 0x2, 1, 1, .u16, .ro, 0x0⟩
  | .parPending => ⟨0x2C20, 0x1, 1, 0x3, 1, 1, .u8, .ro, 0x0⟩
  | .parCpl => ⟨0x2C20, 0x1, 1, 0x4, 1, 1, .u8, .ro, 0x0⟩
  | .parFifoReset => ⟨0x2C20, 0x1, 1, 0x5, 1, 1, .u8, .wo, 0x0⟩
  | .qspiErr => ⟨0x2C21, 0x1, 1, 0x1, 1, 1, .u16, .ro, 0x0⟩
  | .qspiPending => ⟨0x2C21, 0x1, 1, 0x2, 1, 1, .u8, .ro, 0x0⟩
  | .qspiCpl => ⟨0x2C21, 0x1, 1, 0x3, 1, 1, .u8, .ro, 0x0⟩
  | .qspiFifoReset => ⟨0x2C21, 0x1, 1, 0x4, 1, 1, .u8, .wo, 0x0⟩
  -- chapter 17
  | .deviceType => ⟨0x1000, 0x1, 1, 0x0, 1, 1, .u32, .const_, 0x0⟩
  | .errorRegister => ⟨0x1001, 0x1, 1, 0x0, 1, 1, .u8, .ro, 0x0⟩
  | .cobIdSync => ⟨0x1005, 0x1, 1, 0x0, 1, 1, .u32, .rw, 0x80⟩
  | .deviceName => ⟨0x1008, 0x1, 1, 0x0, 1, 1, .str, .const_, 0x8⟩
  | .hwVersion => ⟨0x1009, 0x1, 1, 0x0, 1, 1, .str, .const_, 0x2⟩
  | .cobIdEmcy => ⟨0x1014, 0x1, 1, 0x0, 1, 1, .u32, .ro, 0x0⟩
  | .emcyInhibit => ⟨0x1015, 0x1, 1, 0x0, 1, 1, .u16, .rw, 0x0⟩
  | .producerHb => ⟨0x1017, 0x1, 1, 0x0, 1, 1, .u16, .rw, 0x0⟩
  | .identity => ⟨0x1018, 0x1, 1, 0x1, 1, 4, .u32, .ro, 0x0⟩
  | .nodeId => ⟨0x2D00, 0x10, 2, 0x1, 1, 1, .u8, .rw, 0xFF⟩
  | .nodeIdNow => ⟨0x2D00, 0x10, 2, 0x2, 1, 1, .u8, .ro, 0xFF⟩
  | .bitrate => ⟨0x2D00, 0x10, 2, 0x3, 1, 1, .u8, .rw, 0x2⟩
  | .dataRate => ⟨0x2D00, 0x10, 2, 0x4, 1, 1, .u8, .rw, 0x0⟩
  | .nmtAccept => ⟨0x2D00, 0x10, 2, 0x5, 1, 1, .bool, .rw, 0x1⟩
  | .nmtState => ⟨0x2D00, 0x10, 2, 0x6, 1, 1, .u8, .ro, 0x0⟩
  | .emcyMin => ⟨0x2D00, 0x10, 2, 0x7, 1, 1, .u8, .rw, 0x1⟩
  | .hbAction => ⟨0x2D00, 0x10, 2, 0x8, 1, 1, .u8, .rw, 0x0⟩
  | .sdoTimeout => ⟨0x2D00, 0x10, 2, 0x9, 1, 1, .u16, .rw, 0x3E8⟩
  | .busState => ⟨0x2D00, 0x10, 2, 0xA, 1, 1, .u8, .ro, 0x0⟩
  | .errCounters => ⟨0x2D00, 0x10, 2, 0xB, 1, 1, .u16, .ro, 0x0⟩
  | .busOffCount => ⟨0x2D00, 0x10, 2, 0xC, 1, 1, .u32, .ro, 0x0⟩
  | .timingNom => ⟨0x3D00, 0x10, 2, 0x1, 1, 1, .u32, .rw, 0x5052203⟩
  | .timingData => ⟨0x3D00, 0x10, 2, 0x2, 1, 1, .u32, .rw, 0x8081F00⟩
  | .timingSrc => ⟨0x3D00, 0x10, 2, 0x3, 1, 1, .u8, .rw, 0x0⟩
  -- chapter 18
  | .member => ⟨0x2E00, 0x1, 1, 0x1, 1, 1, .u8, .ro, 0xFF⟩
  | .ringSize => ⟨0x2E00, 0x1, 1, 0x2, 1, 1, .u8, .ro, 0x0⟩
  | .memberOut => ⟨0x2E00, 0x1, 1, 0x3, 1, 1, .bool, .rw, 0x0⟩
  | .memberState => ⟨0x2E00, 0x1, 1, 0x4, 1, 1, .u8, .ro, 0x0⟩
  | .enumReq => ⟨0x2E00, 0x1, 1, 0x5, 1, 1, .u8, .wo, 0x0⟩
  | .collector => ⟨0x2E00, 0x1, 1, 0x6, 1, 1, .u8, .rwp, 0x0⟩
  | .collectStream => ⟨0x2E00, 0x1, 1, 0x7, 1, 1, .u8, .rwp, 0xFF⟩
  | .collectRecMax => ⟨0x2E00, 0x1, 1, 0x8, 1, 1, .u32, .rwp, 0x0⟩
  | .admitLead => ⟨0x2E00, 0x1, 1, 0x9, 1, 1, .u16, .rw, 0x40⟩
  | .ringRefHead => ⟨0x2E00, 0x1, 1, 0xA, 1, 1, .u8, .rw, 0x0⟩
  | .p5Source => ⟨0x2E00, 0x1, 1, 0xB, 1, 1, .u8, .rw, 0x0⟩
  | .isRoot => ⟨0x2E00, 0x1, 1, 0xC, 1, 1, .bool, .ro, 0x0⟩
  | .undelivered => ⟨0x2E00, 0x1, 1, 0xD, 1, 1, .u32, .ro, 0x0⟩
  | .lostHalves => ⟨0x2E00, 0x1, 1, 0xE, 1, 1, .u32, .ro, 0x0⟩
  | .admitLine => ⟨0x2E00, 0x1, 1, 0xF, 1, 1, .u32, .ro, 0x0⟩
  | .repeatCause => ⟨0x2E00, 0x1, 1, 0x10, 1, 1, .u8, .ro, 0x0⟩
  | .linkRingState => ⟨0x2E00, 0x1, 1, 0x11, 1, 1, .u8, .ro, 0x0⟩
  | .portState => ⟨0x2E10, 0x1, 2, 0x1, 1, 1, .u8, .ro, 0x0⟩
  | .laneLock => ⟨0x2E10, 0x1, 2, 0x2, 1, 1, .u8, .ro, 0x0⟩
  | .crcErrors => ⟨0x2E10, 0x1, 2, 0x3, 1, 1, .u32, .ro, 0x0⟩
  | .swallowed => ⟨0x2E10, 0x1, 2, 0x4, 1, 1, .u32, .ro, 0x0⟩
  | .replays => ⟨0x2E10, 0x1, 2, 0x5, 1, 1, .u32, .ro, 0x0⟩
  | .hopDelay => ⟨0x2E10, 0x1, 2, 0x6, 1, 1, .u32, .ro, 0x0⟩
  | .voids => ⟨0x2E10, 0x1, 2, 0x7, 1, 1, .u32, .ro, 0x0⟩
  | .ringOffset => ⟨0x2E20, 0x1, 1, 0x1, 1, 2, .u32, .ro, 0x0⟩
  | .alignErr => ⟨0x2E20, 0x1, 1, 0x3, 1, 1, .i32, .ro, 0x0⟩
  | .rateAdj => ⟨0x2E20, 0x1, 1, 0x4, 1, 1, .i32, .ro, 0x0⟩
  | .ackTimeout => ⟨0x3E00, 0x1, 1, 0x1, 1, 1, .u16, .rw, 0x14⟩
  | .fwdOut => ⟨0x5E00, 0x1, 1, 0x1, 1, 1, .dom, .wo, 0x0⟩
  | .fwdIn => ⟨0x5E00, 0x1, 1, 0x2, 1, 1, .dom, .ro, 0x0⟩
  -- chapter 19
  | .seqPowerReq => ⟨0x2200, 0x1, 1, 0x1, 1, 1, .u8, .rw, 0x0⟩
  | .seqState => ⟨0x2200, 0x1, 1, 0x2, 1, 1, .u8, .ro, 0x0⟩
  | .seqStep => ⟨0x2200, 0x1, 1, 0x3, 1, 1, .u8, .ro, 0xFF⟩
  | .railMask => ⟨0x2200, 0x1, 1, 0x4, 1, 1, .u16, .rw, 0x0⟩
  | .partialCount => ⟨0x2200, 0x1, 1, 0x5, 1, 1, .u8, .rw, 0x0⟩
  | .lossPolicy => ⟨0x2200, 0x1, 1, 0x6, 1, 1, .u8, .rw, 0x1⟩
  | .dirtyMask => ⟨0x2200, 0x1, 1, 0x7, 1, 1, .u16, .ro, 0x0⟩
  | .dirtyClr => ⟨0x2200, 0x1, 1, 0x8, 1, 1, .u8, .wo, 0x0⟩
  | .bootRails => ⟨0x2200, 0x1, 1, 0x9, 1, 1, .u8, .ro, 0x0⟩
  | .railsUp => ⟨0x2200, 0x1, 1, 0xA, 1, 1, .u16, .ro, 0x0⟩
  | .onDelay => ⟨0x2210, 0x1, 12, 0x1, 1, 1, .u16, .rw, 0x3E8⟩
  | .pgTimeout => ⟨0x2210, 0x1, 12, 0x2, 1, 1, .u16, .rw, 0x14⟩
  | .railDischarge => ⟨0x2210, 0x1, 12, 0x3, 1, 1, .u16, .rw, 0xA⟩
  | .offTimeout => ⟨0x2210, 0x1, 12, 0x4, 1, 1, .u16, .rw, 0x64⟩
  | .goodTh => ⟨0x2210, 0x1, 12, 0x5, 1, 1, .u16, .rw, 0x258⟩
  | .offTh => ⟨0x2210, 0x1, 12, 0x6, 1, 1, .u16, .rw, 0x64⟩
  | .railStatus => ⟨0x2210, 0x1, 12, 0x7, 1, 1, .u8, .ro, 0x0⟩
  | .resetCause => ⟨0x2220, 0x1, 1, 0x1, 1, 1, .u8, .ro, 0x0⟩
  | .deviceReset => ⟨0x2220, 0x1, 1, 0x2, 1, 1, .u32, .wo, 0x0⟩
  | .straps => ⟨0x2220, 0x1, 1, 0x3, 1, 1, .u8, .ro, 0x0⟩
  | .bootFails => ⟨0x2220, 0x1, 1, 0x4, 1, 1, .u32, .ro, 0x0⟩
  | .tj => ⟨0x2230, 0x1, 1, 0x1, 1, 1, .real32, .ro, 0x0⟩
  | .tjWarn => ⟨0x2230, 0x1, 1, 0x2, 1, 1, .real32, .rw, 0x42E60000⟩
  | .tjPeak => ⟨0x2230, 0x1, 1, 0x3, 1, 1, .real32, .ro, 0x0⟩
  -- chapter 21
  | .unclearedCount => ⟨0x2F00, 0x1, 1, 0x1, 1, 1, .u16, .ro, 0x0⟩
  | .eventCount => ⟨0x2F00, 0x1, 1, 0x2, 1, 1, .u32, .ro, 0x0⟩
  | .uncleared => ⟨0x2F01, 0x1, 1, 0x1, 1, 16, .u32, .ro, 0x0⟩
  -- chapter 17
  | .errorCount => ⟨0x1003, 0x1, 1, 0x0, 1, 1, .u32, .rw, 0x0⟩
  | .errorField => ⟨0x1003, 0x1, 1, 0x1, 1, 8, .u32, .ro, 0x0⟩
  -- [1016.00] is UNSIGNED32 and RW, as its row says (R7), and no count of sub-indexes
  | .consumerHbZero => ⟨0x1016, 0x1, 1, 0x0, 1, 1, .u32, .rw, 0x0⟩
  | .consumerHb => ⟨0x1016, 0x1, 1, 0x1, 1, 8, .u32, .rw, 0x0⟩
  | .rpdoCobId => ⟨0x1400, 0x1, 12, 0x1, 1, 1, .u32, .rw, 0x0⟩
  | .rpdoType => ⟨0x1400, 0x1, 12, 0x2, 1, 1, .u8, .rw, 0xFF⟩
  | .rpdoMapCount => ⟨0x1600, 0x1, 12, 0x0, 1, 1, .u32, .rw, 0x0⟩
  | .rpdoMap => ⟨0x1600, 0x1, 12, 0x1, 1, 64, .u32, .rw, 0x0⟩
  | .tpdoCobId => ⟨0x1800, 0x1, 12, 0x1, 1, 1, .u32, .rw, 0x0⟩
  | .tpdoType => ⟨0x1800, 0x1, 12, 0x2, 1, 1, .u8, .rw, 0xFF⟩
  | .tpdoInhibit => ⟨0x1800, 0x1, 12, 0x3, 1, 1, .u16, .rw, 0x64⟩
  | .tpdoEventTimer => ⟨0x1800, 0x1, 12, 0x5, 1, 1, .u16, .rw, 0x3E8⟩
  | .tpdoMapCount => ⟨0x1A00, 0x1, 12, 0x0, 1, 1, .u32, .rw, 0x0⟩
  | .tpdoMap => ⟨0x1A00, 0x1, 12, 0x1, 1, 64, .u32, .rw, 0x0⟩

/-- Every name, in the order of the tables. -/
def names02 : List Name :=
  [.modeReq, .modeNow, .parkCause, .calAge, .calMaxAge, .calUsed]
def names03 : List Name :=
  [.levelKey, .levelGranted, .claim, .epoch, .lastStatus, .restoreDefaults]
def names04 : List Name :=
  [.deviceSeq, .resetCount, .lastHostSeq, .journalHead, .journalOldest, .journalFloor, .journalCount, .stateDigest,
   .digestSeq, .command]
def names05 : List Name :=
  [.islandState, .timeLo, .timeHi, .tbStatus, .fenceReq]
def names06 : List Name :=
  [.headEn, .pixels, .segCount, .lineSep, .lineDur, .scanLines, .lineNumber, .trigDropped, .headState, .segLen,
   .segRep, .trigSrc, .trigBusLine, .hostTrig, .expStart, .expLen, .nibOut, .rulingAxis, .rulingSrc, .pitch,
   .origin, .rulingDir, .fineDelay, .pattern]
def names07 : List Name :=
  [.polarity, .offsetDac, .rangeMode, .rangeFixed, .rangeLimits, .rangeStart, .pedMeas, .clipCount, .rangeNow,
   .pairEn, .watchCh, .watchTol, .watchLimit, .watchFails, .videoSrc, .laneStd, .lanes, .wordBits, .laneRate,
   .laneState, .syncErrors, .rangeGain, .pairSkew]
def names08 : List Name :=
  [.calBank, .calCmd, .calLines, .calState, .whiteTarget, .darkMax, .defectDev, .defectMax, .defects, .tCal,
   .calCrc, .corrMode, .defectEn, .lineTempSrc, .tempMaxAge, .tempNow, .regOrder, .regExtBank, .regExtCount, .avg,
   .edgeThresh, .edgePol, .skewLines, .skew, .leadLine, .seamLRole, .seamLPix, .seamLPartner, .seamRRole,
   .seamRPix, .seamRPartner, .seamLOffset, .seamROffset, .seamWait, .lineRoute, .pageLines, .tagEn, .page,
   .coverEn, .coverDebounce, .coverState, .calId, .fLimit, .darkTable, .gainTable, .tempCoef, .defectMap]
def names09 : List Name :=
  [.axisMode, .axisEn, .microstep, .moveCmd, .axisTarget, .vMax, .accMax, .decMax, .jerk, .axisState, .axisStatus,
   .pos, .posSet, .speed, .axisFaultClr, .axisFaultCause, .axisSkipCount, .encEn, .encScale, .encInvert,
   .encFilter, .encPos, .indexPos, .dev, .devWin, .devTime, .encErrors, .iRun, .iHold, .iBoost, .holdDelay,
   .senseEn, .iLimit, .iSenseA, .iSenseB, .homeMethod, .homeDir, .homeV, .homeVSlow, .homePos, .homeBackoff,
   .calLo, .calHi, .limitEn, .softLo, .softHi, .homeRange, .bridgePeriod, .duty, .retarget, .stepWidth, .dirSetup,
   .kp, .ki, .kv, .bridgeMinOn, .deadTime]
def names10 : List Name :=
  [.paceEn, .paceHead, .paceStreams, .lowWm, .highWm, .vScan, .backlash, .paceSettle, .backoffV, .joinTol,
   .paceState, .freeMin, .vCap, .stopLines, .backoffDist, .pauseCount, .endTarget, .photonMode, .photonStrings,
   .photonMin, .photonMax, .photonTol, .photonScale, .tNom]
def names11 : List Name :=
  [.stringEn, .illumGroup, .topology, .fsw, .iSet, .ssTime, .stringState, .onFade, .offFade, .fadeShape,
   .lsFaultCause, .csLimit, .lsSkipCount, .lsFaultClr, .dimFade, .dimMode, .lsPwmPeriod, .dim, .pwmPhase,
   .photonClips, .voutNom, .ovpV, .lampV, .thermPolicy, .lsTempSrc, .tKnee, .tShut, .tHyst, .derate, .voutMeas,
   .matrixEn, .lampMask, .bypPattern, .lampFault, .checkInterval, .checkScan, .groupRelax]
def names12 : List Name :=
  [.heathEn, .scanPeriod, .heathRoute, .urgent, .heathState, .badEntry, .passCount, .heathDropped, .heathDischarge,
   .ringHead, .heathValue, .mainsFreq, .mainsNominal, .isrcUa, .bxLevel, .bxSettle, .sinFreq, .sinAmpl,
   .plausEntries, .plausTol, .plausLimit, .plausAction, .plausState, .plausClr, .isrcActual, .scanList,
   .resultRing, .userCurves, .ntcCoef, .polySets]
def names13 : List Name :=
  [.tmrRun, .clkSrc, .prescN, .prescF, .periodLo, .periodHi, .countLo, .countHi, .oneShot, .tmrState, .rollovers,
   .cmpALo, .cmpAHi, .cmpBLo, .cmpBHi, .outPin, .outMode, .tbLine, .tbEvent, .capSrc, .capEdge, .capFilter,
   .capPresc, .capRiseLo, .capRiseHi, .capFallLo, .capFallHi, .capWidth, .capPeriod, .capSeq, .capTime, .slaveMode,
   .slaveSrc, .slaveEdgeSel, .slaveWatch]
def names14 : List Name :=
  [.bgtEn, .bgtInterval, .bgtPasses, .lifeCycle, .keyState, .keyId, .wipe, .tamperEn, .tamperState, .tamperClr,
   .owner, .bankPowerReq, .bankState, .bankReserved04, .foreignCount, .ceCount, .ueCount, .lastUeAddr, .sparesUsed,
   .lcAdvance, .keyLoad]
def names15 : List Name :=
  [.cmdBase, .cmdLog2, .cplBase, .cplShadow, .cmdEn, .cmdTail, .cmdHead, .cplHead, .cplTail, .ringState,
   .linkStatus, .irqEventMin, .streamEn, .bufBase, .bufLog2, .wrPtr, .rdPtr, .stageBank, .streamState, .wrShadow,
   .irqRecords, .irqTime, .freeRecords, .recMax, .streamRecords, .streamDropped, .streamDiscarded]
def names16 : List Name :=
  [.parStyle, .parErr, .parPending, .parCpl, .parFifoReset, .qspiErr, .qspiPending, .qspiCpl, .qspiFifoReset]
def names17 : List Name :=
  [.deviceType, .errorRegister, .cobIdSync, .deviceName, .hwVersion, .cobIdEmcy, .emcyInhibit, .producerHb,
   .identity, .nodeId, .nodeIdNow, .bitrate, .dataRate, .nmtAccept, .nmtState, .emcyMin, .hbAction, .sdoTimeout,
   .busState, .errCounters, .busOffCount, .timingNom, .timingData, .timingSrc, .errorCount, .errorField,
   .consumerHbZero, .consumerHb, .rpdoCobId, .rpdoType, .rpdoMapCount, .rpdoMap, .tpdoCobId, .tpdoType, .tpdoInhibit,
   .tpdoEventTimer, .tpdoMapCount, .tpdoMap]
def names18 : List Name :=
  [.member, .ringSize, .memberOut, .memberState, .enumReq, .collector, .collectStream, .collectRecMax, .admitLead,
   .ringRefHead, .p5Source, .isRoot, .undelivered, .lostHalves, .admitLine, .repeatCause, .linkRingState,
   .portState, .laneLock, .crcErrors, .swallowed, .replays, .hopDelay, .voids, .ringOffset, .alignErr, .rateAdj,
   .ackTimeout, .fwdOut, .fwdIn]
def names19 : List Name :=
  [.seqPowerReq, .seqState, .seqStep, .railMask, .partialCount, .lossPolicy, .dirtyMask, .dirtyClr, .bootRails,
   .railsUp, .onDelay, .pgTimeout, .railDischarge, .offTimeout, .goodTh, .offTh, .railStatus, .resetCause,
   .deviceReset, .straps, .bootFails, .tj, .tjWarn, .tjPeak]
def names21 : List Name :=
  [.unclearedCount, .eventCount, .uncleared]
def allNames : List Name :=
  names02 ++ names03 ++ names04 ++ names05 ++ names06 ++ names07 ++ names08 ++ names09 ++ names10 ++ names11 ++ names12 ++ names13 ++ names14 ++ names15 ++ names16 ++ names17 ++ names18 ++ names19 ++ names21

end Sys2Proof.Machine
end

