-- ==== Sys2Proof/Machine/State.lean ====
section
/-! DEFINITION. The state of the X9 as plain data: the dictionary, its mirror, the memories, the report system, and the
state that the chapters give each island beyond its entries. -/
namespace Sys2Proof.Machine

/-- A fault of the model. Nothing in the X9's spec stops the block: an error of the X9 is an event, a status or a
state of a unit, so this type has no constructor. -/
inductive Fault : Type
deriving DecidableEq, Repr

/-- A refusal of the model. -/
inductive Refusal where
  /-- Raised by `exec` on a command that has no meaning in the model yet. Safe: nothing is claimed of it. -/
  | notModelled (mnemonic : String)
deriving DecidableEq, Repr

/-- A sparse map in one canonical form: keys strictly rising, no value equal to the default. -/
abbrev Store (α : Type) := List (Nat × α)

/-- The operating modes (R35). -/
inductive Mode where
  | prepare | calibrate | scan | park
deriving DecidableEq, Repr

def Mode.code : Mode → Nat
  | .prepare => 0 | .calibrate => 1 | .scan => 2 | .park => 3

def Mode.ofCode (n : Nat) : Mode :=
  match n with
  | 0 => .prepare | 1 => .calibrate | 2 => .scan | _ => .park

/-- Who awaits the completion of a mode request. -/
inductive Origin where
  | plain
  | record (r : CmdRecord) (src : Nat)
  | sdo (ctrl : Nat)
  | nmt (ctrl : Nat)
  /-- A write of the posted queue of its port. -/
  | port
  /-- An entry of RPDO `k + 1`. -/
  | rpdo (k : Nat)
deriving DecidableEq, Repr

/-- A mode request (R55 to R58, R923), with the time at which it reached arbitration (R32, R56). -/
structure ModeReq where
  path : Path
  mode : Mode
  origin : Origin
  since : Nat := 0
deriving DecidableEq, Repr

/-- The mode and its requests (*PREPARE, CALIBRATE, SCAN, PARK*). `target` is BUSY with TARGET; `haltAt` is when the newest of the
asserted halt lines asserted (R32); `due` are the completions that wait for HOST to be readmitted. -/
structure Modes where
  mode : Mode := .prepare
  target : Option Mode := none
  pendingReq : Option ModeReq := none
  inFlight : Option ModeReq := none
  parkReq : List ModeReq := []
  haltLines : List Event := []
  haltAt : Nat := 0
  parkFade : Bool := false
  due : List (ModeReq × Status) := []
deriving DecidableEq, Repr

/-- The fence states (R185). -/
inductive FenceState where
  | running | fenced | locking | syncing | waiting
deriving DecidableEq, Repr

/-- The fence logic in front of one island. `cause` is CAUSE of ISLAND_STATE; `coming` is a fence accepted and not yet
in effect, with its cause and the sender of a handshake that timed out; `readmit` a readmission asked for meanwhile (R915). -/
structure Island where
  st : FenceState := .running
  cause : Nat := 0
  coming : Option (Nat × Nat) := none
  readmit : Bool := false
  attempts : Nat := 0
deriving DecidableEq, Repr

/-- A report: a journal entry before or after it is numbered (R151, R183). -/
structure JEntry where
  seq : U32 := 0
  time : U64 := 0
  kind : Nat := 1
  path : Nat := 6
  tracked : Bool := false
  event : Option Event := none
  index : Nat := 0
  sub : Nat := 0
  unit : Nat := 0
  epoch : Nat := 0
  hostSeq : Nat := 0
  value : U32 := 0
  param : U32 := 0
deriving DecidableEq, Repr

/-- The report system: the device sequence (R145), the journal, newest first (R151), how many entries it has taken since the reset (which
gives the place of each in SCRATCH), its floor (R152, R907), the path and host sequence of the command record being executed, which the
events that it causes carry (R151), the count and the list of uncleared events (R878, R889), the report queue of R183 and the error codes
of [1003] (R737). -/
structure Reports where
  seq : U32 := 0
  journal : List JEntry := []
  written : Nat := 0
  record : Option (Nat × Nat) := none
  floor : Option U32 := none
  eventCount : Nat := 0
  uncleared : List (Event × Nat) := []
  waiting : List JEntry := []
  lost : Nat := 0
  errors : List Nat := []
  /-- The journal entries written while a page of a head is open (R341), newest first. -/
  pages : Store (Option (List JEntry)) := []
deriving DecidableEq, Repr

/-- A frame of the Link (*Lanes and framing*); the exchanges whose layout the spec does not give carry their content
(UNVERIFIED, log 32). -/
inductive LinkFrame where
  | align (time : U64)
  | ack (dst origin seq : Nat)
  | nak (dst origin seq : Nat)
  | burst (bytes : List Byte)
  | enum (value : Nat)
  | ringSize (value : Nat)
  | absent (member : Nat)
  | admitRequest (member : Nat)
  | admitted (member line : Nat)
  | free (records : Nat)
  /-- The burst in transmission ends after its current block with a bad CRC (R764). -/
  | cut
deriving DecidableEq, Repr

/-- What the X9 does at its pins and buses, newest first in `State.out` (DESIGN CHOICE, log 5). -/
inductive Output where
  /-- A memory write over PCI Express. -/
  | hostWrite (addr : Nat) (data : List Byte)
  /-- A memory read over PCI Express: address and length. -/
  | hostRead (addr len : Nat)
  | msix (vector : Nat)
  /-- The answer to a memory read of BAR0 or BAR2. -/
  | pcieReply (data : List Byte)
  /-- The data of a parallel-port read. -/
  | parData (half : U16)
  /-- The bytes of a QSPI answer. -/
  | qspiData (data : List Byte)
  /-- A CAN frame of a controller: identifier and data. -/
  | can (ctrl id : Nat) (data : List Byte)
  /-- A frame on a Link port (0 EAST, 1 WEST). -/
  | link (port : Nat) (frame : LinkFrame)
  /-- A pulse on a trigger-bus line in a TIMER cycle. -/
  | triggerBus (line cycle : Nat)
  /-- The frame-sync line trigger in a TIMER cycle (R555). -/
  | frameSync (cycle : Nat)
  /-- The STEP pulses of an axis in a planning cycle: DIR, their number, the MOTION cycles from DIR's level to the first, their width
  (R354). -/
  | steps (axis : Nat) (up : Bool) (count first width : Nat)
  /-- The bridge periods of an axis that end in a planning cycle: DIR and the on-times in MOTION cycles (R404 to R407). -/
  | pwm (axis : Nat) (up : Bool) (ons : List Nat)
  /-- LSs_DIM in a dimming period: the string, PWM_PHASE and the period in LIGHT cycles, and the on-time in steps of 78.125 ps (R450, R453). -/
  | dim (string phase period on : Nat)
  /-- An excitation of Heath (1 to 8 as EXC codes) goes on with its setting in µA, BX_LEVEL or mV and its frequency, or goes off (R498 to R502). -/
  | excitation (source : Nat) (on : Bool) (setting freq : Nat)
  /-- The level of a TIO pin from a TIMER cycle on. -/
  | tio (pin : Nat) (level : Bool) (cycle : Nat)
  /-- The response to a USDO request: entry, abort code (0 for none), and data. -/
  | usdo (index sub abort : Nat) (data : List Byte)
  /-- An Unsupported Request completion (R623). -/
  | unsupported
  /-- A poisoned write logged as AER requires (R623). -/
  | poisoned
  /-- Data given to another master of a bank. -/
  | busData (data : List Byte)
deriving DecidableEq, Repr

/-- The reset phases (*Reset*, *Start-up*). -/
inductive Phase where
  /-- VDD_AON absent. -/
  | unpowered
  /-- VDD_AON up, power-on reset held or boot rails coming up, device reset held. -/
  | held
  /-- Device reset released, islands locking and banks blotting (R834). -/
  | starting
  /-- DEVICE_RESET reported, the X9 in service. -/
  | live
deriving DecidableEq, Repr

/-- One MSI-X vector of R627: its 2 µs interval runs; a cause arose within it. -/
structure Vector where
  holdoff : Bool := false
  again : Bool := false
deriving DecidableEq, Repr

/-- A sample that reaches LINE as pixel `index` of a colour row: its code, the tag of the range it was converted in, its CLIP flag and its
linear value N (R255, R282). A pixel that a lane out of alignment supplies has code and N 0 (R284). -/
structure Sample where
  colour : Nat
  index : Nat
  code : BitVec 16 := 0
  tag : BitVec 3 := 7
  clip : Bool := false
  n : BitVec 24 := 0
deriving DecidableEq, Repr

/-- A line of a head while it is captured or waits in LINE: its header fields and the samples received. `got` counts the marked samples of
each colour row, those lost to LINE's input queue among them; `scale` is s of the constant-photon feed, 0 without it; `unsettled` while its
exposure is not settled; `lanesOpen` while its lanes may still bring pixels after its occupancy (R281). -/
structure LineCap where
  number : Nat := 0
  start : Nat := 0
  flags : Nat := 0
  rulingL : Int := 0
  exp : List Nat := [0, 0, 0]
  epoch : Nat := 0
  kind : Nat := 0
  temp : U32 := 0
  pix : List Sample := []
  got : List Nat := [0, 0, 0]
  clip : Nat := 0
  watchBad : Nat := 0
  scale : Nat := 0
  unsettled : Bool := false
  watchCh : Nat := 0
  lanesOpen : Bool := false
deriving DecidableEq, Repr

/-- What HEADh holds beyond its entries: the line being captured, the pending trigger (its time and whether it is a position trigger), the
L last received from MOTION, the last line start and the interval to the one before it, the events already produced in this arming, the
lines started in it, the next position line, whether the mode it was armed in was left while it is fenced, the exposure windows open and those closed in the line, the line and the lengths they belong
to, the writes of EXP_START and EXP_LEN of the present step clock (the entry, the step clock, the value before), the levels of HDh_PH, the
PATTERN levels held between lines (none before the first line), LINE's input queue, and the cover input. -/
structure Head where
  cur : Option LineCap := none
  pendAt : Option (Nat × Bool) := none
  lastL : Int := 0
  lastStart : Option Nat := none
  interval : Option Nat := none
  predict : Nat := 4000
  once : List Event := []
  started : Nat := 0
  next : Nat := 0
  gap : Bool := false
  wrapped : Bool := false
  leaving : Bool := false
  stale : Bool := false
  windows : List Bool := [false, false, false]
  shut : List Bool := [false, false, false]
  windowLine : Option Nat := none
  latched : List (Nat × Nat) := [(0, 0), (0, 0), (0, 0)]
  expWas : List (Nat × Nat × Nat) := []
  held : Option Nat := none
  ph : Nat := 0
  fill : Nat := 0
  fillAt : Nat := 0
  skipped : Nat := 0
  skipping : Bool := false
  coverPin : Bool := false
  coverRuns : Bool := false
deriving DecidableEq, Repr

/-- What a channel's converter holds: the pedestal samples of the line, newest first, PED, whether PED is fixed for the line,
the preceding pixel's N, a range decision waiting for the next pixel, the pixels of the line, whether RANGE_CLIP has been
produced in this arming (R291), the step clock of the last accepted start (R251), and the reset and video levels held (R249). -/
structure Chan where
  peds : List Nat := []
  ped : Option Nat := none
  fixed : Bool := false
  prevN : Option Int := none
  pend : Option Nat := none
  pixSeen : Nat := 0
  clipped : Bool := false
  lastClk : Option Nat := none
  resetLevel : Int := 0
  videoLevel : Int := 0
deriving DecidableEq, Repr

/-- An interleaved pair: the clock of its last accepted start and whose turn it is. -/
structure Pair where
  lastClk : Option Nat := none
  oddTurn : Bool := false
deriving DecidableEq, Repr

/-- The watch converter: the channel it shadows and its own pedestal samples. -/
structure Watch where
  ch : Nat := 0xFE
  peds : List Nat := []
  ped : Option Nat := none
  fixed : Bool := false
deriving DecidableEq, Repr

/-- The lanes of a head: the open colour, the colours opened in the line, the word position of each lane, the lanes that
supply zero for the rest of the line, and whether words are discarded until the next start of line. -/
structure Lanes where
  colour : Option Nat := none
  opened : List Nat := []
  posn : List Nat := [0, 0, 0, 0, 0, 0, 0, 0]
  dead : List Nat := []
  discard : Bool := true
deriving DecidableEq, Repr

/-- What LINE's queue of a head holds: a captured line, or the close of a page at a time (R340). -/
inductive LineItem where
  | line (c : LineCap)
  | close (time : Nat)
deriving DecidableEq, Repr

/-- A row set of registration: the line, whether its rows may be used, and the three rows after stage 4. -/
structure RegRow where
  number : Nat
  good : Bool
  rows : List (List Nat)
deriving DecidableEq, Repr

/-- Overlap pixels of a partner (R332): its line, S, and the three colours. -/
structure SeamData where
  line : Nat
  size : Nat
  rows : List (List Nat)
deriving DecidableEq, Repr

/-- The open page of a head (R340, R341): the running digest of its records and what its prefix needs. -/
structure Page where
  sha : Sha := {}
  first : Nat := 0
  last : Nat := 0
  count : Nat := 0
  firstTime : Nat := 0
deriving DecidableEq, Repr

/-- What LINE holds for one head beyond its entries; among it the temperature for the next line start, whether TEMP_MAX_AGE has passed
without a new value (R318), whether none has arrived since a fence of HEATH (R24), and the arrival of the present LINE cycle with the
temperature and staleness before it (R346). -/
structure LineUnit where
  queue : List LineItem := []
  rows : List RegRow := []
  regOff : Bool := false
  seamOff : Bool := false
  seamGiveUp : Bool := false
  seamL : List SeamData := []
  seamR : List SeamData := []
  seamIn : List (Bool × SeamData) := []
  emitted : Option Nat := none
  lastPix : List (List Nat) := []
  edges : List (Nat × Nat) := []
  page : Option Page := none
  tempNext : U32 := 0
  aged : Bool := false
  noTemp : Bool := false
  tempWas : Option (Nat × U32 × Bool) := none
  capLeft : Nat := 0
  tSum : List U32 := []
  gapNext : Bool := false
deriving DecidableEq, Repr

/-- A motion command that waits for the next planning-cycle boundary (R371, R378). -/
inductive MoveCmd where
  | abs (target : Int)
  | rel (target : Int)
  | vel (up : Bool)
  | home
  | retarget (target : Int)
deriving DecidableEq, Repr

/-- What a move ends at: a target, a software limit, or nothing of its own. -/
inductive Goal where
  | target (p : Int)
  | limit (p : Int) (high : Bool)
  | open
deriving DecidableEq, Repr

/-- What Quill holds for an axis beyond its entries. Speed is in 5·10⁻¹¹ units/s, acceleration in 10⁻⁵ units/s², the fraction of the
position in 2.5·10⁻¹⁶ units (R416). `home` is the step of the homing method, with its start and its reference position P_e; `heldAt` is the
electrical angle, in 1/1,024 turn, of an immediate stop until the next motion (R383); `deadLeft` the MOTION cycles of DEAD_TIME still to come
(R405); `readmitted` an open-loop axis not homed since its readmission, and `told` the heads that have said so (R243). -/
structure Axis where
  pend : Option MoveCmd := none
  goal : Goal := .open
  up : Bool := true
  vel : Int := 0
  acc : Int := 0
  frac : Int := 0
  keepDec : Option Nat := none
  halted : Bool := false
  home : Nat := 0
  homeStart : Int := 0
  homeRef : Option Int := none
  holdRuns : Bool := false
  atHold : Bool := true
  boost : Bool := false
  encA : Bool := false
  encB : Bool := false
  homeLow : Bool := false
  encSpeed : Int := 0
  encLast : Option Nat := none
  integral : Int := 0
  carry : Int := 0
  pwmPhase : Nat := 0
  deadLeft : Nat := 0
  heldAt : Option Nat := none
  enOut : Bool := false
  dirOut : Bool := false
  stepOut : Bool := false
  irefA : Nat := 0
  irefB : Nat := 0
  readmitted : Bool := false
  told : List Nat := []
deriving DecidableEq, Repr

/-- The paced feed and the constant-photon feed beyond their entries: the speed level λ in force, V_EFF, P_STOP, the free
space of each stream and of the collector (under 8) as last received in MOTION (R23, R772), what an arrival of the present MOTION cycle
replaced (R30), and the scale that LIGHT applies. -/
structure Pace where
  level : Nat := 0
  vEff : Nat := 0
  pStop : Int := 0
  free : Store Nat := []
  was : List (Nat × Nat × Nat) := []
  scale : Nat := 65536
  scaleWas : Option (Nat × Nat) := none
deriving DecidableEq, Repr

/-- A fade of Flourish: from, to, periods in all, periods done, shape (R469). -/
structure Fade where
  start : Nat
  stop : Nat
  total : Nat
  step : Nat
  curve : Bool
deriving DecidableEq, Repr

/-- What LIGHT holds for a string beyond its entries: the level L and its fade; the values loaded at the last period start
(R455); the residue of the on-time in steps of 78.125 ps over 65,535 · 65,536 (R460); the baseline in 2⁻¹⁶ mV; the
outputs; the episodes; the lamp that the next check tests; the LIGHT cycle of the last GROUP_OFF of the group of this number. `made` is the
LIGHT cycle of the last fade and `fadeWas` the fade it replaced; `was` and `tempWas` keep what values of the present cycle replaced (R456);
`carry` is the on-time carried from the last switching cycle, in steps (R449); `ssAt` is when soft start began, `offAt` the LIGHT cycle of
the last off at once (R491). -/
structure LStr where
  level : Nat := 0
  fade : Option Fade := none
  made : Nat := 0
  fadeWas : Option Fade := none
  was : List (Nat × Nat × Nat) := []
  tempWas : Option (Nat × Option U32) := none
  carry : Nat := 0
  ssAt : Nat := 0
  offAt : Option Nat := none
  dim : Nat := 0
  period : Nat := 0
  iSet : Nat := 0
  scale : Nat := 65536
  ref : Nat := 0
  residue : Int := 0
  onSteps : Nat := 0
  gate : Bool := false
  dimOut : Bool := false
  byp : Nat := 0
  learn : Bool := false
  base : Int := 0
  temp : Option U32 := none
  stale : Bool := false
  derated : Bool := false
  clipped : Bool := false
  locating : Bool := false
  lamp : Nat := 0
  groupAt : Option Nat := none
  rejoin : Bool := false
deriving DecidableEq, Repr

/-- A conversion that has ended and awaits its delivery (R522): codes, the excitations measured in µV, the quadrature code,
compliance exceeded, and what was latched for it (the source's measured current, the mains period in use free, t_c in µs). -/
structure HResult where
  entry : Nat
  time : Nat
  pass : Nat
  urgent : Bool
  late : Bool
  code : Int
  code2 : Int
  quad : Int
  e1 : Nat
  e2 : Nat
  opened : Bool
  free : Bool
  isrc : U32
  tconv : U32
deriving DecidableEq, Repr

/-- A converter of Heath: 0 idle, 1 routing, 2 converting; the entry, whether urgent; the next list position; the pass and whether
it still runs; the urgent request; the time its routing started and what it took up (R532); the conversion to be discarded after
a fence; where the list resumes after one; the results on their way. -/
structure Conv where
  phase : Nat := 0
  entry : Nat := 0
  urgent : Bool := false
  next : Nat := 0
  pass : Nat := 0
  inPass : Bool := false
  want : Option Nat := none
  since : Nat := 0
  discharge : Nat := 0
  isrc : U32 := 0
  level : Nat := 0
  bxSettle : Nat := 0
  sinFreq : Nat := 0
  period : Nat := 0
  free : Bool := false
  resume : Nat := 0
  results : List HResult := []
deriving DecidableEq, Repr

/-- Heath as a whole since its enabling: the entries that have delivered, those whose sensor was reported open, the events already
produced; the disagreements in a row, the last comparison and the uncleared PLAUS_HALT of each pair; the mains periods in ns,
newest first, those outside 45 to 65 Hz in a row, and the episodes of lost mains and of dropped records. -/
structure Heath where
  seen : List Nat := []
  opened : List Nat := []
  ranged : Bool := false
  overrun : Bool := false
  counts : List Nat := [0, 0, 0, 0]
  last : List Bool := [false, false, false, false]
  halts : List Nat := []
  periods : List Nat := []
  bad : Nat := 0
  lost : Bool := false
  dropping : Bool := false
deriving DecidableEq, Repr

/-- A timer channel: the count at the last anchor with the prescaler's accumulator and the time of it, the cascade clocks since,
the live period (0 for 2⁴⁸); the count value at which A and B cannot match until the count changes (R543, R548); the TIMER cycle of
the last compare and period writes with the value before them, and of the last rollover (R541, R547); the level of the slave
source; rollovers since the last slave edge and whether SLAVE_LOST has been produced; the edges since the last capture, the
last captured rising edge and one whose falling edge is due; the output and the cycle of the last match B. The pin time of the last edge
stamped (R870); what a RUN ← 0 of their cycle takes back: the cycle of the last slave reset and the count before it, the cycle of the last
capture and the capture entries, edges and rising edge before it (R566, R567); what a slave reset takes back of a rollover: ROLLOVERS before
it and whether it drove its trigger-bus line (R558). -/
structure Timer where
  count : Nat := 0
  acc : Nat := 0
  since : Nat := 0
  clks : Nat := 0
  period : Nat := 0
  barA : Option Nat := none
  barB : Option Nat := none
  wrA : Option (Nat × Nat) := none
  wrB : Option (Nat × Nat) := none
  wrP : Option (Nat × Nat) := none
  rollAt : Option Nat := none
  level : Bool := false
  turns : Nat := 0
  lost : Bool := false
  edges : Nat := 0
  lastRise : Option Nat := none
  openRise : Option Nat := none
  pin : Bool := false
  lowAt : Option Nat := none
  lastEdge : Option Nat := none
  resetAt : Option (Nat × Nat) := none
  capAt : Option Nat := none
  capOld : List U32 := []
  edgesWas : Nat := 0
  riseWas : Option Nat := none
  rollsWas : Nat := 0
  rollPulse : Bool := false
deriving DecidableEq, Repr

/-- What STORE and HOST hold for a bank (or SCRATCH) beyond its entries: the transition mark (R578), what the drain is for (1 an
owner change, 2 FALLOW, 3 OFF), the foreign accesses already reported since the last change of state or owner (R574), and whether a
corrected error has been reported in this pass (R587). -/
structure Bank where
  mark : Bool := false
  goal : Nat := 0
  foreignR : Bool := false
  foreignW : Bool := false
  corrected : Bool := false
deriving DecidableEq, Repr

/-- The background test: the next place in the rotation, the row under test, and the rows to be tested ahead of it (R588, R590). -/
structure RowTest where
  pos : Nat := 0
  testing : Option (Nat × Nat) := none
  ahead : List (Nat × Nat) := []
deriving DecidableEq, Repr

/-- What SAFE holds beyond its entries: the causes of the wipe that runs, the life-cycle state being blown, the tamper conditions
present, and whether the low-voltage check is armed (R606). -/
structure Secure where
  causes : List Nat := []
  blow : Option Nat := none
  present : Nat := 0
  armed : Bool := false
deriving DecidableEq, Repr

/-- The command channel of a path: whether its present write or record waits for a mode request (R141, R923), and the records that
have arrived behind it, with their origin member on P5. -/
structure CmdPath where
  running : Bool := false
  held : List (CmdRecord × Nat) := []
deriving DecidableEq, Repr

/-- The command ring and its endpoint: a fetch is outstanding; the ring goes OFF once the record executing has completed (R632, R663); the
Max_Payload_Size and Max_Read_Request_Size that the host has programmed, in bytes (R619; before that 128 and 512 of the PCI Express standard:
PRESUMED, log 61). -/
structure Ring where
  fetching : Bool := false
  stopping : Bool := false
  maxPayload : Nat := 128
  maxRead : Nat := 512
deriving DecidableEq, Repr

/-- What a DMA stream holds beyond its entries: the records on their way to HOST; those placed in the buffer, the one being written
first, with the HOST cycle in which its writing began (R661); the staging store, and whether its bank was lost; the records written
since the last message; the episode of drops; the line number of the first record lost while HOST was fenced; RD_PTR before a
write, with the HOST cycle of that write (R662). -/
structure Stream where
  coming : List (List Byte) := []
  flight : List (List Byte) := []
  begun : Nat := 0
  store : List (List Byte) := []
  storeLost : Bool := false
  since : Nat := 0
  overflow : Bool := false
  lost : Option U32 := none
  rdWas : Option (Nat × Nat) := none
deriving DecidableEq, Repr

/-- An entry of a posted queue: a window write, or an assembled command record (R678). -/
inductive Posted where
  | write (index sub : Nat) (v : U32)
  | record (bytes : List Byte)
deriving DecidableEq, Repr

/-- What a register port holds beyond its entries: its posted queue; the bytes of the record being assembled; the read position in
the oldest completion; the stage (R675) and the read hold of the preceding lower-half read (R672); a refusal since it was last
acknowledged; an episode of drops (R689); the write that PAR_WAIT_N holds (R679). -/
structure Port where
  queue : List Posted := []
  asm : List Byte := []
  pos : Nat := 0
  stage : Option (Nat × Nat × Nat) := none
  hold : Option (Nat × Nat × U32) := none
  err : Bool := false
  dropped : Bool := false
  waiting : Option Posted := none
deriving DecidableEq, Repr

/-- A transfer of the SDO server: the entry, the bytes received or still to be sent, and the step of its protocol. `pop` is the list
that an upload empties by one when it ends: 1 the unread completions of the path, 2 its returned completions. -/
inductive Xfer where
  | down (index sub : Nat) (size : Option Nat) (data : List Byte) (toggle : Bool)
  | up (index sub : Nat) (data : List Byte) (toggle : Bool) (pop : Nat)
  | blockDown (index sub : Nat) (size : Option Nat) (crc : Bool) (data : List Byte) (blk seq : Nat) (ended : Bool)
  | blockUp (index sub : Nat) (data : List Byte) (crc : Bool) (blk pos phase pop : Nat)
deriving DecidableEq, Repr

/-- The response of a download, as SDO (0), SDO block (1) or USDO (2). -/
structure Reply where
  kind : Nat
  index : Nat
  sub : Nat
  abort : Nat
deriving DecidableEq, Repr

/-- What a CAN controller holds beyond its entries: the EMCYs that wait and the inhibit time; readmission before its bus idle; the
transfer in progress, the download being applied and the responses to be sent; the transfer abandoned by a fence; the timing in
use (BITRATE, DATA_RATE, TIMING_NOM, TIMING_DATA, TIMING_SRC); and the LSS state, the Fastscan position and a switch delay. -/
structure Ctrl where
  emcyQ : List (List Byte) := []
  emcyHold : Bool := false
  resume : Bool := false
  xfer : Option Xfer := none
  applying : Option Reply := none
  replies : List Reply := []
  abortDue : Option (Nat × Nat) := none
  active : List U32 := [2, 0, 0x5052203, 0x8081F00, 0]
  lssConfig : Bool := false
  scanPos : Nat := 0
  switching : Bool := false
deriving DecidableEq, Repr

/-- A PDO: the values last sent; the inhibit time, and a change within it; SYNCs counted; an RPDO's data held for SYNC; a refusal
already reported since the last change of mapping. -/
structure Pdo where
  sent : Option (List Byte) := none
  inhibit : Bool := false
  due : Bool := false
  syncs : Nat := 0
  held : Option (List Byte) := none
  refused : Bool := false
deriving DecidableEq, Repr

/-- The consumed nodes whose heartbeat is lost with HB_ACTION 1, as bus and node. -/
structure Net where
  lost : List (Nat × Nat) := []
deriving DecidableEq, Repr

/-- A burst that LINK has transmitted: destination, sequence, size, and its bytes, of which the header log keeps the first 80
once the burst has left the replay window (R763). -/
structure Sent where
  dst : Nat
  seq : Nat
  size : Nat
  bytes : List Byte
deriving DecidableEq, Repr

/-- The first half of a record at the collector, with whether it came as a VOID burst (R765). -/
structure Half where
  bytes : List Byte
  lost : Bool
deriving DecidableEq, Repr

/-- What LINK has still to insert into the ring: a burst of its own, or, by its sequence, one to send again (R749, R764). -/
structure ToSend where
  kind : Nat := 0
  dst : Nat
  head : Nat := 0
  line : Nat := 0
  payload : List Byte := []
  again : Option Nat := none
deriving DecidableEq, Repr

/-- What LINK holds beyond its entries. Sequences are kept per destination and per origin, broadcasts under 256 and
256 + origin. -/
structure Link where
  enumerating : Bool := false
  enumerated : Bool := false
  tentative : Option Nat := none
  waiting : List ToSend := []
  nextSeq : Store Nat := []
  acked : Store Nat := []
  expect : Store Nat := []
  naked : List Nat := []
  ackDue : List Nat := []
  logE : List Sent := []
  logW : List Sent := []
  busyUntil : Nat := 0
  fill : List Nat := [0, 0]
  fillAt : Nat := 0
  halves : Store (Option Half) := []
  undelivered : Bool := false
  fwdSeq : Store Nat := []
  fwdPend : List (Nat × Nat × Path × Nat) := []
  absent : List Nat := []
  fenced : List Nat := []
  joins : Store (Option Nat) := []
  grant : Option Nat := none
  firstAlign : Bool := true
  good : Nat := 0
  bad : Nat := 0
  collFree : Nat := 0
deriving DecidableEq, Repr

/-- A rail: EN high, good and discharged after the filter of R802, and its loss remaining (R822). -/
structure Rail where
  en : Bool := false
  good : Bool := false
  dis : Bool := false
  lost : Bool := false
deriving DecidableEq, Repr

/-- A step of the sequencer: up or down, EN already high in an up step, DISCHARGE elapsed in a down step. -/
structure SeqStep where
  rail : Nat
  up : Bool
  enOn : Bool := false
  elapsed : Bool := false
deriving DecidableEq, Repr

/-- The sequencer beyond its entries: the level k, the step of the managed rails and that of the boot rails, a forced descent, the
rails to be dropped and those watched in a collapse, the boot rails being powered down for a retry and a retry to be reported,
TJ_HIGH armed, a temperature read, and the islands locked since release (R834). -/
structure Seqr where
  level : Nat := 0
  step : Option SeqStep := none
  bstep : Option SeqStep := none
  forced : Bool := false
  drops : List Nat := []
  watch : List Nat := []
  bootDown : Bool := false
  retried : Bool := false
  tjArmed : Bool := true
  tjSeen : Bool := false
  locks : List Nat := []
deriving DecidableEq, Repr

/-- The version and part number that the test access port's IDCODE carries in bits 31:28 and 27:12 (R852). No command drives the port. -/
structure Tap where
  version : BitVec 4 := 0x2
  part : BitVec 16 := 0x0E59
deriving DecidableEq, Repr

/-- The IDCODE. The manufacturer field, bits 11:1, is the part's own (log 13); bit 0 is 1 by IEEE 1149.1 (PRESUMED, log 62). -/
def Tap.idcode (t : Tap) : U32 := t.version ++ t.part ++ Config.jtagManufacturer ++ (1 : BitVec 1)

/-- The state of the X9. -/
structure State where
  /-- The commands that wait, first in, first out. -/
  pending : List Instr := []
  /-- The time base (R171). -/
  time : U64 := 0
  /-- The model's own counter of free values; no field of the X9. -/
  fresh : Nat := 0
  /-- What the X9 has done at its pins and buses, newest first. -/
  out : List Output := []
  /-- Windowed entries away from their default, by key. -/
  dict : Store U32 := []
  /-- The mirror in HOST (R101 to R104), in the same form. -/
  mirror : Store U32 := []
  /-- The memories: bank b at b * 0x200000, SCRATCH, SECURE and the pattern memories behind them. An unlisted byte is 0 (DEDUCED,
  log 3). -/
  mem : List Host.Cell := []
  rep : Reports := {}
  modes : Modes := {}
  islands : Store Island := []
  phase : Phase := .starting
  vectors : Store Vector := []
  heads : Store Head := []
  chans : Store Chan := []
  pairs : Store Pair := []
  watch : Watch := {}
  lanes : Store Lanes := []
  lineUnits : Store LineUnit := []
  /-- The time of the last completed calibration (R47, R311). -/
  calTime : Option Nat := none
  axes : Store Axis := []
  pace : Pace := {}
  strings : Store LStr := []
  convs : Store Conv := []
  heath : Heath := {}
  timers : Store Timer := []
  banks : Store Bank := []
  rowTest : RowTest := {}
  secure : Secure := {}
  /-- The retired rows of each bank, and of SCRATCH as number 24, with their spares, held in SAFE (R594). -/
  retireds : Store (List (Nat × Nat)) := []
  cmds : Store CmdPath := []
  ring : Ring := {}
  /-- The digests computed since reset; `none` stands for the digest of the group's defaults (R159). -/
  digests : Store (Option U32) := []
  streams : Store Stream := []
  ports : Store Port := []
  ctrls : Store Ctrl := []
  /-- TPDO k + 1 under k, RPDO k + 1 under 12 + k. -/
  pdos : Store Pdo := []
  net : Net := {}
  link : Link := {}
  /-- Unread completions of P1 to P5 (R166), oldest first, by path. -/
  unreads : Store (List (List Byte)) := []
  /-- Returned completions of forwarded records (R785), oldest first, by path. -/
  fwdIns : Store (List (List Byte)) := []
  rails : Store Rail := []
  seqr : Seqr := {}
  /-- The test access port (R852). -/
  tap : Tap := {}
deriving DecidableEq, Repr

/-- The X9 right after reset: device reset has just been released after power-on of VDD_AON with nothing strapped, every
entry at its default and no island fenced, while the islands still lock and synchronise (R36, R66, R149, R171, R834, R913).
DESIGN CHOICE where the spec gives no value: log 9 and 10; DEDUCED as a whole: log 6. -/
def State.reset : State := { dict := [(0x222001, 1)], mirror := [(0x222001, 1)] }

end Sys2Proof.Machine
end

