-- ==== Sys2Proof/Machine/Ops.lean ====
section
/-! DEFINITION. The named operations over the state: sparse stores, the dictionary, the memories, the report system. -/
namespace Sys2Proof.Machine

/-! ### Sparse stores -/

/-- The value at a key; `d` where the store lists none. -/
def Store.get {α : Type} (d : α) : Store α → Nat → α
  | [], _ => d
  | (k', v) :: m, k => if k' = k then v else Store.get d m k

def Store.erase {α : Type} (m : Store α) (k : Nat) : Store α :=
  m.filter (fun c => c.1 ≠ k)

def Store.insert {α : Type} (k : Nat) (v : α) : Store α → Store α
  | [] => [(k, v)]
  | (k', v') :: m => if k < k' then (k, v) :: (k', v') :: m else (k', v') :: Store.insert k v m

/-- The store with `v` at `k`; the default is not listed. -/
def Store.put {α : Type} [DecidableEq α] (d : α) (m : Store α) (k : Nat) (v : α) : Store α :=
  if v = d then Store.erase m k else Store.insert k v (Store.erase m k)

/-- Keys strictly rising. -/
def Store.rising {α : Type} : Store α → Bool
  | [] => true
  | [_] => true
  | a :: b :: m => decide (a.1 < b.1) && Store.rising (b :: m)

/-- The canonical form: keys strictly rising and no value equal to the default. -/
def Store.wf {α : Type} [DecidableEq α] (d : α) (m : Store α) : Bool :=
  Store.rising m && m.all (fun c => c.2 ≠ d)

/-- The canonical form of the memories: addresses strictly rising, no byte equal to the 0 that an unlisted one reads as. -/
def Memory.wf (m : List Host.Cell) : Bool := Store.wf 0 m

/-! ### Entries -/

/-- An entry of the dictionary: its name, its instance and its place among the sub-indexes of its row. For `highestSub`
the instance is the index. -/
structure Ent where
  name : Name
  inst : Nat := 0
  item : Nat := 0
deriving DecidableEq, Repr

def indexOf (n : Name) (j : Nat) : Nat :=
  match n with
  | .highestSub => j
  | n => (rowOf n).base + (rowOf n).stride * j

def subOf (n : Name) (i : Nat) : Nat := (rowOf n).subLo + (rowOf n).subStep * i

/-- The key of an entry in the stores `dict` and `mirror`. -/
def keyOf (n : Name) (j i : Nat) : Nat := indexOf n j * 256 + subOf n i

def Ent.key (e : Ent) : Nat := keyOf e.name e.inst e.item
def Ent.index (e : Ent) : Nat := indexOf e.name e.inst
def Ent.sub (e : Ent) : Nat := subOf e.name e.item
def Ent.row (e : Ent) : Row := rowOf e.name

/-- The entry of a row at an index and sub-index, if the row has it. -/
def Row.find (r : Row) (idx sub : Nat) : Option (Nat × Nat) :=
  let d := idx - r.base
  let j := if r.count = 1 then 0 else d / r.stride
  let x := sub - r.subLo
  let i := x / r.subStep
  if r.base ≤ idx ∧ j < r.count ∧ d = (if r.count = 1 then 0 else r.stride * j)
    ∧ r.subLo ≤ sub ∧ x % r.subStep = 0 ∧ i < r.subCount then some (j, i) else none

/-- Whether a row lies at an index. -/
def Row.atIndex (r : Row) (idx : Nat) : Bool :=
  let d := idx - r.base
  let j := if r.count = 1 then 0 else d / r.stride
  decide (r.base ≤ idx ∧ j < r.count ∧ d = (if r.count = 1 then 0 else r.stride * j))

def listedIn (l : List Name) (idx sub : Nat) : Option Ent :=
  l.findSome? (fun n => ((rowOf n).find idx sub).map (fun p => { name := n, inst := p.1, item := p.2 }))

/-- The chapters whose tables have entries at an index (the index map). -/
def namesAt (idx : Nat) : List Name :=
  if idx < 0x2000 then names17
  else
    let g := idx / 0x100 % 0x10
    if idx < 0x3000 ∧ g = 0 then (if idx < 0x2001 then names02 ++ names03 else if idx < 0x2010 then names03 else names04)
    else match g with
    | 0 => []
    | 1 => names05
    | 2 => names19
    | 4 => names06 ++ names07
    | 5 => names08
    | 6 => names09
    | 7 => names10
    | 8 => names11
    | 9 => names12
    | 10 => names13
    | 11 => names14
    | 12 => names15 ++ names16
    | 13 => names17
    | 14 => names18
    | 15 => names21
    | _ => []

/-- The highest sub-index in use at an index (R63). -/
def highestSubAt (idx : Nat) : Nat :=
  (namesAt idx).foldl (fun m n => if (rowOf n).atIndex idx then max m (subOf n ((rowOf n).subCount - 1)) else m) 0

/-- The entry at an index and sub-index, or the status of R68. -/
def lookup (idx sub : Nat) : Except Status Ent :=
  match listedIn (namesAt idx) idx sub with
  | some e => .ok e
  | none =>
    if (namesAt idx).any (fun n => (rowOf n).atIndex idx) then
      if sub = 0 ∧ highestSubAt idx ≠ 0 then .ok { name := .highestSub, inst := idx } else .error .noSubindex
    else .error .noObject

/-- The default PDO mappings (*CANopen and CANopen FD*), as lists of index and sub-index; `k` counts TPDO1 to TPDO12 from 0. -/
def tpdoDefault (k : Nat) : List (Name × Nat × Nat) :=
  match k with
  | 0 | 4 => [(.modeNow, 0, 0), (.parkCause, 0, 0), (.deviceSeq, 0, 0)]
  | 1 => [(.pos, 0, 0), (.epoch, 0, 4), (.axisState, 0, 0)]
  | 2 => [(.lineNumber, 0, 0), (.epoch, 0, 0), (.headState, 0, 0)]
  | 3 => [(.heathValue, 0, 0), (.epoch, 0, 0x36), (.heathState, 0, 0)]
  | 5 => (List.range 6).flatMap (fun a => [(.pos, a, 0), (.epoch, 0, 4 + a), (.axisState, a, 0)])
  | 6 => (List.range 4).flatMap (fun h => [(.lineNumber, h, 0), (.epoch, 0, h), (.headState, h, 0)])
  | 7 => (List.range 8).map (fun e => (.heathValue, 0, e)) ++ [(.epoch, 0, 0x36), (.heathState, 0, 0)]
  | _ => []

def Ty.bits : Ty → Nat
  | .bool => 1 | .u8 => 8 | .u16 => 16 | .u32 => 32 | .i8 => 8 | .i16 => 16 | .i32 => 32 | .real32 => 32 | .str => 0 | .dom => 0

def Ty.bytes : Ty → Nat
  | .bool => 1 | t => t.bits / 8

def Ty.signed : Ty → Bool
  | .i8 | .i16 | .i32 => true | _ => false

/-- A mapping entry of CiA 301: index, sub-index and length in bits. -/
def mapWord (n : Name) (j i : Nat) : U32 :=
  u32 (indexOf n j * 65536 + subOf n i * 256 + 8 * (rowOf n).ty.bytes)

def rpdoDefault (k : Nat) : List (Name × Nat × Nat) :=
  if k = 0 ∨ k = 4 then [(.modeReq, 0, 0)] else []

/-- The default of an entry other than a digest: that of its table row, or the value that the row describes in words. -/
def rowDflt (n : Name) (j i : Nat) : U32 :=
  match n with
  | .highestSub => u32 (highestSubAt j)
  | .lineRoute => u32 j
  | .rangeGain => (Config.rangeGain j i).setWidth 32
  | .isrcActual => Config.isrcActual i 100
  | .identity => if i = 0 then Config.vendorId else if i = 1 then 0x0E59 else if i = 2 then 0x20000 else Config.serialNumber
  | .levelGranted => 0x40
  | .tpdoCobId => if j < 8 then u32 (0x180 + 0x100 * (j % 4)) else 0x80000000
  | .rpdoCobId => if j = 0 ∨ j = 4 then 0x200 else 0x80000000
  | .tpdoMapCount => u32 (tpdoDefault j).length
  | .rpdoMapCount => u32 (rpdoDefault j).length
  | .tpdoMap => match (tpdoDefault j)[i]? with | some p => mapWord p.1 p.2.1 p.2.2 | none => 0
  | .rpdoMap => match (rpdoDefault j)[i]? with | some p => mapWord p.1 p.2.1 p.2.2 | none => 0
  | n => u32 (rowOf n).dflt

/-- The entries of a digest's group that it covers: RW and RWP, less [2020.00] (R159). -/
def digestNames (g : Nat) : List Name :=
  (if g = 0 then names02 ++ names03 ++ names04 else namesAt (0x2000 + 256 * g)).filter fun n =>
    ((rowOf n).access = .rw || (rowOf n).access = .rwp) && n ≠ .command

/-- The entries of a group at 2gxx, 3gxx and 5gxx in ascending index and sub-index (R160). -/
def digestEnts (g : Nat) : List Ent :=
  let l := digestNames g
  [0x2000, 0x3000, 0x5000].flatMap fun base => (List.range 256).flatMap fun k =>
    let idx := base + 256 * g + k
    let here := l.filter fun n => (rowOf n).atIndex idx
    if here = [] then [] else (List.range 256).filterMap fun sub => listedIn here idx sub

/-- The size of the table behind a DOMAIN object: the default column of its row, or that of a table of another kind. -/
def tableSize (n : Name) : Nat := (rowOf n).dflt

/-- The bytes of a natural number, least significant first (R6). -/
def leBytes (n : Nat) (x : Nat) : List Byte := (List.range n).map (fun k => BitVec.ofNat 8 (x / 256 ^ k))

/-- The digest of a group at its defaults (sequence objects table). -/
def digestDefault (g : Nat) : U32 := crc32 ((digestEnts g).flatMap fun e =>
  leBytes 4 (if e.row.ty = .dom then crc32 (List.replicate (tableSize e.name) 0) else rowDflt e.name e.inst e.item).toNat)

/-- The default of an entry; that of a digest is the CRC of its group's defaults (R159). -/
def dfltOf (n : Name) (j i : Nat) : U32 := if n = .stateDigest then digestDefault i else rowDflt n j i

/-! ### Units and islands -/

def islLine : Nat := 4
def islStore : Nat := 5
def islHost : Nat := 6
def islNet : Nat := 7
def islLink : Nat := 8
def islMotion : Nat := 9
def islLight : Nat := 10
def islHeath : Nat := 11
def islTimer : Nat := 12
def islSeq : Nat := 13
def islSafe : Nat := 14

def unitHead (h : Nat) : Nat := 1 + h
def unitAxis (a : Nat) : Nat := 5 + a
def unitString (s : Nat) : Nat := 0x0B + s
def unitTimer (c : Nat) : Nat := 0x13 + c / 8
def unitBank (b : Nat) : Nat := 0x17 + b
def unitStream (k : Nat) : Nat := 0x2F + k
def unitHeath : Nat := 0x37
def unitSeq : Nat := 0x38

/-- The unit of an entry of a row with base `b`, by its instance and item (R85, R246, R292, R417, R537, R807 and the chapters'
index ranges). -/
def unitAt (b inst item : Nat) : Option Nat :=
  if b < 0x2000 then none
  else if b = 0x248C ∨ b = 0x348C then some (unitHead (2 * item / 3))
  else if b = 0x248D ∨ b = 0x2590 then none
  else if b = 0x2480 ∨ b = 0x3480 then some (unitHead (inst / 3))
  else match b / 0x100 % 0x10 with
  | 4 => some (unitHead inst)
  | 5 => some (unitHead inst)
  | 6 => some (unitAxis inst)
  | 8 => some (unitString inst)
  | 9 => some unitHeath
  | 10 => some (unitTimer inst)
  | 11 => if b = 0x2B10 then some (unitBank inst) else none
  | 12 => if b = 0x2C10 then some (unitStream inst) else none
  | 2 => if b = 0x2200 ∨ b = 0x2210 then some unitSeq else none
  | _ => none

/-- The unit an entry belongs to; the highest sub-index of an index belongs to the unit of its other sub-indexes, and to none where
they belong to several. -/
def Ent.unit (e : Ent) : Option Nat :=
  match e.name with
  | .highestSub =>
    if e.inst = 0x248C ∨ e.inst = 0x348C then none
    else match (namesAt e.inst).find? fun n => (rowOf n).atIndex e.inst with
      | some n => unitAt (rowOf n).base ((e.inst - (rowOf n).base) / max 1 (rowOf n).stride) 0
      | none => none
  | n => unitAt (rowOf n).base e.inst e.item

/-- The island that owns a unit (R180, R902). -/
def unitIsland (u : Nat) : Nat :=
  if u ≤ 4 then u - 1 else if u ≤ 0x0A then islMotion else if u ≤ 0x12 then islLight else if u ≤ 0x16 then islTimer
  else if u ≤ 0x2E then islStore else if u ≤ 0x36 then islHost else if u = 0x37 then islHeath else islSeq

/-- The units an island owns (R180). -/
def islandUnits (i : Nat) : List Nat :=
  (List.range 0x38).filterMap (fun k => if unitIsland (k + 1) = i then some (k + 1) else none)

/-- The holding island of an entry (R118, R901); `none` for the fence logic. -/
def Ent.holder (e : Ent) : Option Nat :=
  match e.unit with
  | some u => some (unitIsland u)
  | none =>
    let b := if e.name = .highestSub then e.inst else e.row.base
    if b < 0x2000 then some islNet
    else if b ≤ 0x20FF then some islHost
    else if b = 0x2100 ∨ b = 0x3100 then none
    else if b < 0x2240 then some islSeq
    else if b = 0x248D ∨ b = 0x2590 then some islLine
    else if b = 0x2700 then some islMotion
    else if b = 0x2710 then some islLight
    else if b = 0x2B00 then some islStore
    else if b = 0x2B02 ∨ b = 0x2B03 ∨ b = 0x3B02 ∨ b = 0x5B02 then some islSafe
    else match b / 0x100 % 0x10 with
    | 12 => some islHost
    | 13 => some islNet
    | 14 => some islLink
    | _ => some islHost

/-! ### Reading the state -/

def State.rd (s : State) (n : Name) (j : Nat := 0) (i : Nat := 0) : U32 :=
  Store.get (dfltOf n j i) s.dict (keyOf n j i)

/-- An entry as a natural number. -/
abbrev State.rdN (s : State) (n : Name) (j : Nat := 0) (i : Nat := 0) : Nat := (s.rd n j i).toNat
/-- An entry as a signed integer. -/
abbrev State.rdZ (s : State) (n : Name) (j : Nat := 0) (i : Nat := 0) : Int := (s.rd n j i).toInt
/-- A Boolean entry. -/
abbrev State.rdB (s : State) (n : Name) (j : Nat := 0) (i : Nat := 0) : Bool := s.rd n j i ≠ 0
/-- A quantity of two sub-indexes (R81). -/
def State.rd64 (s : State) (lo : Name) (j : Nat := 0) (i : Nat := 0) : Nat :=
  s.rdN lo j i + 4294967296 * s.rdN lo j (i + 1)

def State.island (s : State) (i : Nat) : Island := Store.get {} s.islands i
def State.fenced (s : State) (i : Nat) : Bool := (s.island i).st ≠ .running
def State.ctrl (s : State) (x : Nat) : Ctrl := Store.get {} s.ctrls x
def State.epochOf (s : State) (u : Nat) : Nat := if u = 0 then 0 else s.rdN .epoch 0 (u - 1)

/-- The epoch of a unit as it was last pushed to the mirror, which is the copy that the fence logic keeps (R902). -/
def State.pushedEpoch (s : State) (u : Nat) : Nat := (Store.get 0 s.mirror (keyOf .epoch 0 (u - 1))).toNat

/-- Whether the X9 is in service. -/
def State.live (s : State) : Bool := s.phase = .live

/-- A byte of the memories; an unlisted byte reads 0 (R585). -/
def State.byteAt (s : State) (a : Nat) : Byte := Store.get 0 s.mem a
def State.bytesAt (s : State) (a n : Nat) : List Byte := (List.range n).map (fun k => s.byteAt (a + k))

/-- The natural number of a list of bytes, least significant first (R6). -/
def leNat : List Byte → Nat
  | [] => 0
  | b :: bs => b.toNat + 256 * leNat bs
def State.wordAt (s : State) (a n : Nat) : Nat := leNat (s.bytesAt a n)

def memPut (m : List Host.Cell) (a : Nat) : List Byte → List Host.Cell
  | [] => m
  | b :: bs => memPut (Store.put 0 m a b) (a + 1) bs

/-- Base of bank `b` in the memories, its offset in BAR2. -/
def bankBase (b : Nat) : Nat := b * 0x200000
def scratchBase : Nat := 0x3000000
def secureBase : Nat := 0x4000000
def patternBase (h : Nat) : Nat := 0x5000000 + h * 0x4000

/-! ### Stamps and free values -/

/-- The stamp quantum of an island in counts of 250 ps, rounded up (R174). -/
def stampQuantum (i : Nat) : Nat :=
  if i ≤ 3 then 10 else match i with
  | 4 => 5 | 5 => 4 | 6 => 8 | 7 => 50 | 8 => 1 | 9 => 20 | 10 => 13 | 11 => 163 | 12 => 10 | _ => 250

/-- A stamp of an event at the present time: at most the quantum later (R174); how much is a free value. -/
def State.stampQ (s : State) (q : Nat) : U64 := s.time + BitVec.ofNat 64 (Config.free s.fresh % (q + 1))
def State.stamp (s : State) (isl : Nat) : U64 := s.stampQ (stampQuantum isl)
/-- The next free value, below `n`. -/
def State.freeBelow (s : State) (n : Nat) : Nat := Config.free s.fresh % n

/-! ### Reports -/

/-- The EMCY error code of an event (R881); none where its chapter lists no code. -/
def Event.emcy (e : Event) : Option Nat :=
  match e with
  | .overcurrent => some 0x2310
  | .stringShortSs | .stringOvercurrent => some 0x2320
  | .tjHigh => some 0x4200
  | .tjShutdown | .stringTshut => some 0x4210
  | .canBusOff => some 0x8140
  | .canErrorPassive => some 0x8120
  | .canRxOverrun => some 0x8110
  | .hbLostWarn | .hbLostHalt => some 0x8130
  | .nmtOverruled | .rpdoRefused => none
  | e =>
    let c := match e.code / 256 % 16 with
      | 0 => 0x61 | 1 => 0x50 | 2 => 0x32 | 4 => 0x73 | 5 => 0x74 | 6 => 0x71 | 7 => 0xF0 | 8 => 0x90 | 9 => 0x72
      | 10 => 0xF1 | 11 => 0x55 | 12 => 0x82 | 14 => 0x83 | _ => 0xFF
    some (c * 256 + e.code % 256)

/-- [1001.00] (R737, R882). -/
def errorRegisterOf (u : List (Event × Nat)) : Nat :=
  let cls := u.filterMap (fun p => p.1.emcy.map (· / 256))
  let on (lo hi : Nat) : Nat := bit01 (cls.any (fun c => lo ≤ c && c ≤ hi))
  let known (c : Nat) : Bool := (0x20 ≤ c && c ≤ 0x4F) || (0x80 ≤ c && c ≤ 0x8F)
  bit01 (!u.isEmpty) + 2 * on 0x20 0x2F + 4 * on 0x30 0x3F + 8 * on 0x40 0x4F + 16 * on 0x80 0x8F
    + 128 * bit01 (cls.any (fun c => !known c))

/-- Whether a controller can send: NET in service, a node-ID in use, not bus-off, and its bus idle seen since a fence (R711, R740,
R917). -/
def State.canUp (s : State) (x : Nat) : Bool :=
  !s.fenced islNet && decide (s.rdN .nodeIdNow x ≠ 0xFF) && decide (s.rdN .busState x ≠ 2) && !(s.ctrl x).resume

/-- The EMCY frame of R736 for a controller. -/
def emcyFrame (x code er : Nat) (ev : Nat) (p1 : U32) (seq : U32) (t : U64) : List Byte :=
  if x = 0 then leBytes 2 code ++ leBytes 1 er ++ leBytes 2 ev ++ leBytes 3 p1.toNat
  else leBytes 2 code ++ leBytes 1 er ++ [0] ++ leBytes 2 ev ++ [0, 0] ++ leBytes 4 p1.toNat ++ leBytes 4 seq.toNat
    ++ leBytes 8 t.toNat

/-- An EMCY on a controller: sent at once, or kept while the inhibit time runs or the controller cannot send (R735); in
STOPPED and INITIALISING none is produced (R720, R740). -/
def State.sendEmcy (s : State) (x code : Nat) (ev : Nat) (p1 : U32) (seq : U32) (t : U64) : State :=
  if s.rdN .nodeIdNow x = 0xFF ∨ s.rdN .nmtState x = 4 ∨ s.rdN .nmtState x = 0 then s else
  let f := emcyFrame x code (errorRegisterOf s.rep.uncleared) ev p1 seq t
  let c := s.ctrl x
  if s.canUp x && !c.emcyHold then
    { s with out := .can x (0x80 + s.rdN .nodeIdNow x) f :: s.out,
             ctrls := Store.put {} s.ctrls x { c with emcyHold := decide (s.rdN .emcyInhibit ≠ 0) } }
  else { s with ctrls := Store.put {} s.ctrls x { c with emcyQ := c.emcyQ ++ [f] } }

/-- One message of vector `v`, at most one in 2 µs for vectors 0 to 4 (R627); none while the link cannot carry it. -/
def State.signal (s : State) (v : Nat) : State :=
  if !(bitAt (s.rdN .linkStatus) 12 && bitAt (s.rdN .linkStatus) 13) || s.fenced islHost then s
  else if 5 ≤ v then { s with out := .msix v :: s.out }
  else
    let r := Store.get {} s.vectors v
    if r.holdoff then { s with vectors := Store.put {} s.vectors v { r with again := true } }
    else { s with out := .msix v :: s.out, vectors := Store.put {} s.vectors v { holdoff := true, again := false } }

/-- [1003] after an error code has been sent (R737). -/
def Reports.error (r : Reports) (code : Nat) : Reports := { r with errors := (code :: r.errors).take 8 }

/-- An event's EMCYs on both controllers (R735). -/
def State.eventEmcy (s : State) (ev : Event) (e : JEntry) : State :=
  match ev.emcy with
  | none => s
  | some code =>
    let wanted (x : Nat) : Bool := decide (s.rdN .emcyMin x ≤ ev.severity.code) && decide (ev ≠ .canBusOff)
    let s := if wanted 0 || wanted 1 then { s with rep := s.rep.error code } else s
    let s := if wanted 0 then s.sendEmcy 0 code ev.code e.value e.seq e.time else s
    if wanted 1 then s.sendEmcy 1 code ev.code e.value e.seq e.time else s

/-- The sequence point numbers a report and, for a journal entry, writes it (R145, R151, R152). -/
def Reports.push (r : Reports) (e : JEntry) : Reports :=
  let e := { e with seq := r.seq + 1 }
  let j := e :: r.journal
  { r with seq := r.seq + 1, journal := j.take 1024, written := r.written + 1, pages := r.pages.map fun p => (p.1, p.2.map (e :: ·)),
           floor := match j[1024]? with | some x => some x.seq | none => r.floor }

/-- A journal entry as it is written (journal entry table). -/
def JEntry.bytes (e : JEntry) : List Byte :=
  leBytes 4 e.seq.toNat ++ leBytes 8 e.time.toNat ++ leBytes 1 e.kind ++ leBytes 1 (e.path + 128 * bit01 e.tracked)
    ++ leBytes 2 (match e.event with | some ev => ev.code | none => 0) ++ leBytes 2 e.index ++ leBytes 1 e.sub
    ++ leBytes 1 e.unit ++ leBytes 2 e.epoch ++ leBytes 2 e.hostSeq ++ leBytes 4 e.value.toNat ++ leBytes 4 e.param.toNat

/-- The list of uncleared events after an event has been journalled (R874, R877, R878). -/
def Reports.track (r : Reports) (e : JEntry) : Reports :=
  match e.event with
  | none => r
  | some .eventCleared =>
    { r with uncleared := r.uncleared.filter (fun p => !(p.1.code = e.value.toNat % 65536 ∧ p.2 = e.value.toNat / 65536)) }
  | some ev =>
    if (ev.severity = .fault ∨ ev.severity = .halt) ∧ (ev, e.unit) ∉ r.uncleared then
      { r with uncleared := r.uncleared ++ [(ev, e.unit)] } else r

/-- A report is numbered and journalled; CAL_DONE gives its sequence to CAL_ID (R311); an event then moves the list of uncleared events, the EMCYs and the vector of its
severity (R878, R735, R884). The EMCY 0x0000 follows the clearing that empties the list (R737, R883). -/
def State.number (s : State) (e : JEntry) : State :=
  let r := (s.rep.push e).track e
  let s' := { s with rep := r }
  let s' := if e.event = some .calDone then
    { s' with dict := Store.put (dfltOf .calId 0 0) s'.dict (keyOf .calId 0 0) r.seq } else s'
  let e := { e with seq := r.seq }
  match e.event with
  | none => s'
  | some ev =>
    let s' := s'.eventEmcy ev e
    let s' := if ev = .eventCleared ∧ r.uncleared = [] ∧ s.rep.uncleared ≠ [] then
        let code := e.value.toNat % 65536
        (s'.sendEmcy 0 0 code 0 e.seq e.time).sendEmcy 1 0 code 0 e.seq e.time else s'
    if s.rdN .irqEventMin ≤ ev.severity.code then s'.signal (4 - ev.severity.code) else s'

/-- EVENT_COUNT counts every event (R889). -/
def State.counted (s : State) (e : JEntry) : State :=
  if e.event.isSome then { s with rep := { s.rep with eventCount := min (s.rep.eventCount + 1) 4294967295 } } else s

/-- A report waits in the report queue, or is lost where that is full (R183). -/
def State.queued (s : State) (e : JEntry) : State :=
  { s with rep := if s.rep.waiting.length < 256 then { s.rep with waiting := s.rep.waiting ++ [e] }
                  else { s.rep with lost := s.rep.lost + 1 } }

/-- A report reaches the sequence point, or waits in the report queue while HOST is fenced (R183). -/
def State.report (s : State) (e : JEntry) : State :=
  if s.fenced islHost then (s.counted e).queued e else (s.counted e).number e

end Sys2Proof.Machine
end

