-- ==== Sys2Proof/Machine/Prog.lean ====
section
/-! DEFINITION. The primitive updates of the state, `Op`, and the programs `Prog` that the meanings of the commands are
written in. A program changes the state through `Op.apply` alone, so what every `Op` keeps, every command keeps. -/
namespace Sys2Proof.Machine

def State.vector (s : State) (k : Nat) : Vector := Store.get {} s.vectors k
def State.head (s : State) (k : Nat) : Head := Store.get {} s.heads k
def State.chan (s : State) (k : Nat) : Chan := Store.get {} s.chans k
def State.pair (s : State) (k : Nat) : Pair := Store.get {} s.pairs k
def State.lane (s : State) (k : Nat) : Lanes := Store.get {} s.lanes k
def State.lineUnit (s : State) (k : Nat) : LineUnit := Store.get {} s.lineUnits k
def State.axis (s : State) (k : Nat) : Axis := Store.get {} s.axes k
def State.stream (s : State) (k : Nat) : Stream := Store.get {} s.streams k
def State.unread (s : State) (k : Nat) : List (List Byte) := Store.get [] s.unreads k
def State.fwdIn (s : State) (k : Nat) : List (List Byte) := Store.get [] s.fwdIns k
def State.lstr (s : State) (k : Nat) : LStr := Store.get {} s.strings k
def State.conv (s : State) (k : Nat) : Conv := Store.get {} s.convs k
def State.timer (s : State) (k : Nat) : Timer := Store.get {} s.timers k
def State.bank (s : State) (k : Nat) : Bank := Store.get {} s.banks k
def State.retired (s : State) (k : Nat) : List (Nat × Nat) := Store.get [] s.retireds k
def State.rail (s : State) (k : Nat) : Rail := Store.get {} s.rails k
def State.port (s : State) (k : Nat) : Port := Store.get {} s.ports k
def State.cmd (s : State) (k : Nat) : CmdPath := Store.get {} s.cmds k
def State.pdo (s : State) (k : Nat) : Pdo := Store.get {} s.pdos k
def State.digest (s : State) (k : Nat) : Option U32 := Store.get none s.digests k

/-- One primitive update of the state. -/
inductive Op where
  /-- An entry takes a value. -/
  | put (n : Name) (j i : Nat) (v : U32)
  /-- The mirror takes the value of an entry (R102, R104). -/
  | reflect (n : Name) (j i : Nat) (v : U32)
  /-- Bytes are written to the memories. -/
  | bytes (a : Nat) (bs : List Byte)
  /-- A report reaches the sequence point or the report queue. -/
  | report (e : JEntry)
  /-- The next free value is taken. -/
  | free
  /-- Something happens at a pin or a bus. -/
  | output (o : Output)
  /-- Something that had not yet happened at a pin does not happen (R558). -/
  | recall (o : Output)
  /-- The time base advances by so many counts. -/
  | advance (counts : Nat)
  /-- The time base restarts from 0 (R171). -/
  | restartTime
  /-- An MSI-X vector is signalled. -/
  | signal (v : Nat)
  /-- An EMCY of its own (R711, R732, R734). -/
  | emcy (x code ev : Nat) (p1 : U32)
  /-- [1003] is emptied (R737). -/
  | clearErrors
  /-- HOST is readmitted: the waiting reports are numbered, REPORTS_LOST, with its stamp, first (R183). -/
  | numberWaiting (t : U64)
  /-- The command record being executed, by path and host sequence, whose events are tracked (R151). -/
  | record (r : Option (Nat × Nat))
  /-- The report system after a device reset (R149, R158, R885); `keep` says which uncleared events survive. -/
  | resetReports (keep : Event → Bool)
  /-- A device sequence is assigned to a report that is not journalled: a completion or a line record (R145). -/
  | nextSeq
  | phase (p : Phase)
  /-- So many bytes from an address are zeroed. -/
  | zero (a n : Nat)
  /-- A page of a head opens: the journal entries from a time on belong to it (R341). -/
  | pageOpen (h first : Nat)
  | pageClose (h : Nat)
  /-- Everything that a device reset clears takes its reset state; `keep` says which entries stay (R66). -/
  | clearState (keep : Nat → Bool)
  /-- A new value of the fence logic of an island. -/
  | island (k : Nat) (r : Island)
  /-- A new value of an MSI-X vector. -/
  | vector (k : Nat) (r : Vector)
  /-- A new value of a CAN controller. -/
  | ctrl (k : Nat) (r : Ctrl)
  /-- A new value of HEADh. -/
  | head (k : Nat) (r : Head)
  /-- A new value of a converter channel. -/
  | chan (k : Nat) (r : Chan)
  /-- A new value of an interleaved pair. -/
  | pair (k : Nat) (r : Pair)
  /-- A new value of the lanes of a head. -/
  | lane (k : Nat) (r : Lanes)
  /-- A new value of LINE for one head. -/
  | lineUnit (k : Nat) (r : LineUnit)
  /-- A new value of Quill for an axis. -/
  | axis (k : Nat) (r : Axis)
  /-- A new value of a DMA stream. -/
  | stream (k : Nat) (r : Stream)
  /-- A new value of the unread completions of a path. -/
  | unread (k : Nat) (r : List (List Byte))
  /-- A new value of the returned completions of a path. -/
  | fwdIn (k : Nat) (r : List (List Byte))
  /-- A new value of a string. -/
  | lstr (k : Nat) (r : LStr)
  /-- A new value of a converter of Heath. -/
  | conv (k : Nat) (r : Conv)
  /-- A new value of a timer channel. -/
  | timer (k : Nat) (r : Timer)
  /-- A new value of a bank. -/
  | bank (k : Nat) (r : Bank)
  /-- A new value of the retired rows of a bank. -/
  | retired (k : Nat) (r : List (Nat × Nat))
  /-- A new value of a rail. -/
  | rail (k : Nat) (r : Rail)
  /-- A new value of a register port. -/
  | port (k : Nat) (r : Port)
  /-- A new value of the command channel of a path. -/
  | cmd (k : Nat) (r : CmdPath)
  /-- A new value of a PDO. -/
  | pdo (k : Nat) (r : Pdo)
  /-- A new value of a digest. -/
  | digest (k : Nat) (r : Option U32)
  /-- A new value of the mode and its requests. -/
  | modes (r : Modes)
  /-- A new value of the time of the calibration. -/
  | calTime (r : Option Nat)
  /-- A new value of the watch converter. -/
  | watch (r : Watch)
  /-- A new value of the paced feed. -/
  | pace (r : Pace)
  /-- A new value of LINK. -/
  | link (r : Link)
  /-- A new value of Heath. -/
  | heath (r : Heath)
  /-- A new value of the background test. -/
  | rowTest (r : RowTest)
  /-- A new value of SAFE. -/
  | secure (r : Secure)
  /-- A new value of the sequencer. -/
  | seqr (r : Seqr)
  /-- A new value of the command ring. -/
  | ring (r : Ring)
  /-- A new value of the field network. -/
  | net (r : Net)

/-- The uncleared events, with the reports that still wait for the sequence point counted in. -/
def State.unclearedNow (s : State) : List (Event × Nat) := (s.rep.waiting.foldl Reports.track s.rep).uncleared

/-- The stores and records of one kind after a device reset. -/
def State.clearHidden (s : State) (keep : Nat → Bool) : State :=
  { s with dict := s.dict.filter fun c => keep c.1, mirror := s.dict.filter fun c => keep c.1,
           islands := [],
           vectors := [],
           ctrls := [],
           heads := [],
           chans := [],
           pairs := [],
           lanes := [],
           lineUnits := [],
           axes := [],
           streams := [],
           unreads := [],
           fwdIns := [],
           strings := [],
           convs := [],
           timers := [],
           banks := [],
           ports := [],
           cmds := [],
           pdos := [],
           digests := [],
           modes := {},
           calTime := none,
           watch := {},
           pace := {},
           link := {},
           heath := {},
           rowTest := {},
           ring := {},
           net := {} }

/-- The state after a primitive update. -/
def Op.apply (o : Op) (s : State) : State :=
  match o with
  | .put n j i v => { s with dict := Store.put (dfltOf n j i) s.dict (keyOf n j i) v }
  | .reflect n j i v => { s with mirror := Store.put (dfltOf n j i) s.mirror (keyOf n j i) v }
  | .bytes a bs => { s with mem := memPut s.mem a bs }
  | .report e => s.report e
  | .free => { s with fresh := s.fresh + 1 }
  | .output o => { s with out := o :: s.out }
  | .recall o => { s with out := s.out.erase o }
  | .advance n => { s with time := s.time + BitVec.ofNat 64 n }
  | .restartTime => { s with time := 0 }
  | .signal v => s.signal v
  | .emcy x code ev p1 => ({ s with rep := s.rep.error code }).sendEmcy x code ev p1 s.rep.seq s.time
  | .clearErrors => { s with rep := { s.rep with errors := [] } }
  | .record r => { s with rep := { s.rep with record := r } }
  | .numberWaiting t =>
    let w := s.rep.waiting
    let lost := s.rep.lost
    let s := { s with rep := { s.rep with waiting := [], lost := 0 } }
    let s := if lost = 0 then s
      else { s with rep := { s.rep with eventCount := min (s.rep.eventCount + 1) 4294967295 } }.number
        { time := t, event := some .reportsLost, value := u32 lost }
    w.foldl State.number s
  | .resetReports keep => { s with rep := { uncleared := s.unclearedNow.filter fun p => keep p.1 } }
  | .nextSeq => { s with rep := { s.rep with seq := s.rep.seq + 1 } }
  | .phase p => { s with phase := p }
  | .zero a n => { s with mem := s.mem.filter fun c => c.1 < a ∨ a + n ≤ c.1 }
  | .pageOpen h first => { s with rep := { s.rep with
      pages := Store.put none s.rep.pages h (some (s.rep.journal.filter fun e => first ≤ e.time.toNat)) } }
  | .pageClose h => { s with rep := { s.rep with pages := Store.put none s.rep.pages h none } }
  | .clearState keep => s.clearHidden keep
  | .island k r => { s with islands := Store.put {} s.islands k r }
  | .vector k r => { s with vectors := Store.put {} s.vectors k r }
  | .ctrl k r => { s with ctrls := Store.put {} s.ctrls k r }
  | .head k r => { s with heads := Store.put {} s.heads k r }
  | .chan k r => { s with chans := Store.put {} s.chans k r }
  | .pair k r => { s with pairs := Store.put {} s.pairs k r }
  | .lane k r => { s with lanes := Store.put {} s.lanes k r }
  | .lineUnit k r => { s with lineUnits := Store.put {} s.lineUnits k r }
  | .axis k r => { s with axes := Store.put {} s.axes k r }
  | .stream k r => { s with streams := Store.put {} s.streams k r }
  | .unread k r => { s with unreads := Store.put [] s.unreads k r }
  | .fwdIn k r => { s with fwdIns := Store.put [] s.fwdIns k r }
  | .lstr k r => { s with strings := Store.put {} s.strings k r }
  | .conv k r => { s with convs := Store.put {} s.convs k r }
  | .timer k r => { s with timers := Store.put {} s.timers k r }
  | .bank k r => { s with banks := Store.put {} s.banks k r }
  | .retired k r => { s with retireds := Store.put [] s.retireds k r }
  | .rail k r => { s with rails := Store.put {} s.rails k r }
  | .port k r => { s with ports := Store.put {} s.ports k r }
  | .cmd k r => { s with cmds := Store.put {} s.cmds k r }
  | .pdo k r => { s with pdos := Store.put {} s.pdos k r }
  | .digest k r => { s with digests := Store.put none s.digests k r }
  | .modes r => { s with modes := r }
  | .calTime r => { s with calTime := r }
  | .watch r => { s with watch := r }
  | .pace r => { s with pace := r }
  | .link r => { s with link := r }
  | .heath r => { s with heath := r }
  | .rowTest r => { s with rowTest := r }
  | .secure r => { s with secure := r }
  | .seqr r => { s with seqr := r }
  | .ring r => { s with ring := r }
  | .net r => { s with net := r }

/-- A program over the state: primitive updates in sequence, with questions to the state between them. -/
inductive Prog where
  | nop
  | op (o : Op)
  | seq (p q : Prog)
  | ask (k : State → Prog)

/-- The state after a program. -/
def Prog.run : Prog → State → State
  | .nop, s => s
  | .op o, s => o.apply s
  | .seq p q, s => q.run (p.run s)
  | .ask k, s => (k s).run s

namespace Prog

def all : List Prog → Prog
  | [] => .nop
  | p :: ps => .seq p (all ps)

def each {α : Type} (l : List α) (f : α → Prog) : Prog := all (l.map f)

def when (b : Bool) (p : Prog) : Prog := if b then p else .nop

/-- The outcome of a command whose meaning is a program. -/
def done (p : Prog) (s : State) : Host.Outcome State Fault Refusal := .next (p.run s)

/-- A program that acts while the X9 is in service; before that nothing but power and reset acts. -/
def live (p : Prog) : Prog := .ask fun s => when s.live p

/-- A program of an island, which acts while the X9 is in service and the island is not fenced. -/
def inIsland (isl : Nat) (p : Prog) : Prog := .ask fun s => when (s.live && !s.fenced isl) p

end Prog

open Prog

def wr (n : Name) (j : Nat) (v : U32) : Prog := .op (.put n j 0 v)
def wri (n : Name) (j i : Nat) (v : U32) : Prog := .op (.put n j i v)
def wrN (n : Name) (j : Nat) (v : Nat) : Prog := wr n j (u32 v)
/-- A quantity of two sub-indexes (R81). -/
def wr64 (lo : Name) (j i : Nat) (v : Nat) : Prog := .seq (wri lo j i (u32 v)) (wri lo j (i + 1) (u32 (v / 4294967296)))
/-- A counter entry one higher, saturating at its width. -/
def countUp (n : Name) (j : Nat) : Prog := .ask fun s =>
  wrN n j (min (s.rdN n j + 1) (2 ^ (rowOf n).ty.bits - 1))
def output (o : Output) : Prog := .op (.output o)

def modIsland (k : Nat) (f : Island → Island) : Prog := .ask fun s => .op (.island k (f (s.island k)))
def modVector (k : Nat) (f : Vector → Vector) : Prog := .ask fun s => .op (.vector k (f (s.vector k)))
def modCtrl (k : Nat) (f : Ctrl → Ctrl) : Prog := .ask fun s => .op (.ctrl k (f (s.ctrl k)))
def modHead (k : Nat) (f : Head → Head) : Prog := .ask fun s => .op (.head k (f (s.head k)))
def modChan (k : Nat) (f : Chan → Chan) : Prog := .ask fun s => .op (.chan k (f (s.chan k)))
def modPair (k : Nat) (f : Pair → Pair) : Prog := .ask fun s => .op (.pair k (f (s.pair k)))
def modLane (k : Nat) (f : Lanes → Lanes) : Prog := .ask fun s => .op (.lane k (f (s.lane k)))
def modLineUnit (k : Nat) (f : LineUnit → LineUnit) : Prog := .ask fun s => .op (.lineUnit k (f (s.lineUnit k)))
def modAxis (k : Nat) (f : Axis → Axis) : Prog := .ask fun s => .op (.axis k (f (s.axis k)))
def modStream (k : Nat) (f : Stream → Stream) : Prog := .ask fun s => .op (.stream k (f (s.stream k)))
def modUnread (k : Nat) (f : List (List Byte) → List (List Byte)) : Prog := .ask fun s => .op (.unread k (f (s.unread k)))
def modFwdIn (k : Nat) (f : List (List Byte) → List (List Byte)) : Prog := .ask fun s => .op (.fwdIn k (f (s.fwdIn k)))
def modLstr (k : Nat) (f : LStr → LStr) : Prog := .ask fun s => .op (.lstr k (f (s.lstr k)))
def modConv (k : Nat) (f : Conv → Conv) : Prog := .ask fun s => .op (.conv k (f (s.conv k)))
def modTimer (k : Nat) (f : Timer → Timer) : Prog := .ask fun s => .op (.timer k (f (s.timer k)))
def modBank (k : Nat) (f : Bank → Bank) : Prog := .ask fun s => .op (.bank k (f (s.bank k)))
def modRetired (k : Nat) (f : List (Nat × Nat) → List (Nat × Nat)) : Prog := .ask fun s => .op (.retired k (f (s.retired k)))
def modRail (k : Nat) (f : Rail → Rail) : Prog := .ask fun s => .op (.rail k (f (s.rail k)))
def modPort (k : Nat) (f : Port → Port) : Prog := .ask fun s => .op (.port k (f (s.port k)))
def modCmd (k : Nat) (f : CmdPath → CmdPath) : Prog := .ask fun s => .op (.cmd k (f (s.cmd k)))
def modPdo (k : Nat) (f : Pdo → Pdo) : Prog := .ask fun s => .op (.pdo k (f (s.pdo k)))
def modDigest (k : Nat) (f : Option U32 → Option U32) : Prog := .ask fun s => .op (.digest k (f (s.digest k)))
def modModes (f : Modes → Modes) : Prog := .ask fun s => .op (.modes (f s.modes))
def modCalTime (f : Option Nat → Option Nat) : Prog := .ask fun s => .op (.calTime (f s.calTime))
def modWatch (f : Watch → Watch) : Prog := .ask fun s => .op (.watch (f s.watch))
def modPace (f : Pace → Pace) : Prog := .ask fun s => .op (.pace (f s.pace))
def modLink (f : Link → Link) : Prog := .ask fun s => .op (.link (f s.link))
def modHeath (f : Heath → Heath) : Prog := .ask fun s => .op (.heath (f s.heath))
def modRowTest (f : RowTest → RowTest) : Prog := .ask fun s => .op (.rowTest (f s.rowTest))
def modSecure (f : Secure → Secure) : Prog := .ask fun s => .op (.secure (f s.secure))
def modSeqr (f : Seqr → Seqr) : Prog := .ask fun s => .op (.seqr (f s.seqr))
def modRing (f : Ring → Ring) : Prog := .ask fun s => .op (.ring (f s.ring))
def modNet (f : Net → Net) : Prog := .ask fun s => .op (.net (f s.net))

/-- A unit's epoch one higher (R95). -/
def bump (u : Nat) : Prog := .ask fun s => wri .epoch 0 (u - 1) (u32 ((s.epochOf u + 1) % 65536))

/-- An event of an island, with the unit of the consolidated table (0 for none) and its two parameters (R879, R880). A HALT
event also asserts the halt line (R918). An event that the command record being executed causes is tracked: it carries the record's
path and host sequence (R151). -/
def emitBy (path : Path) (ev : Event) (unit isl : Nat) (p1 p2 : U32 := 0) : Prog := .ask fun s => all
  [ when (ev.severity = .halt) (modModes fun m => { m with haltLines := m.haltLines ++ [ev], haltAt := s.time.toNat }),
    .op (.report { time := s.stamp isl, path := (s.rep.record.map (·.1)).getD path.num, event := some ev, unit := unit,
                   epoch := s.epochOf unit, tracked := s.rep.record.isSome, hostSeq := (s.rep.record.map (·.2)).getD 0,
                   value := p1, param := p2 }),
    .op .free ]

abbrev emit (ev : Event) (unit isl : Nat) (p1 p2 : U32 := 0) : Prog := emitBy .p6 ev unit isl p1 p2

def State.isUncleared (s : State) (ev : Event) (unit : Nat) : Bool := (ev, unit) ∈ s.unclearedNow

/-- The clearing of an event (R875). -/
def clearEvent (ev : Event) (unit isl : Nat) : Prog := .ask fun s =>
  when (s.isUncleared ev unit) (emit .eventCleared unit isl (u32 (ev.code + 65536 * unit)))

/-- Parameters packed from the lowest bit (R880): items of 8 or 16 bits. -/
def pack (items : List (Nat × Nat)) : U32 :=
  u32 (items.foldr (fun (w, v) acc => v % 2 ^ w + 2 ^ w * acc) 0)

end Sys2Proof.Machine
end

