-- ==== Sys2Proof/Machine/Commit.lean ====
section
/-! DEFINITION. How an accepted write is applied, whatever its path and form: the value, the epoch (R95), the journal entry
(R151) and the calibration it invalidates (R48); and the value checks that chapters share (R900). -/
namespace Sys2Proof.Machine

open Prog

/-- The path of a write, and the host sequence of the command record that made it. -/
structure Ctx where
  path : Path
  hostSeq : Option Nat := none
deriving DecidableEq, Repr

def Ctx.internal : Ctx := { path := .p6 }

/-- The journal entry of an accepted write (KIND 2) or DOMAIN write (KIND 3). -/
def journalWrite (c : Ctx) (e : Ent) (unit kind : Nat) (v : U32) : Prog := .ask fun s => all
  [ .op (.report { time := s.stamp (e.holder.getD islSeq), kind := kind, path := c.path.num, tracked := c.hostSeq.isSome,
                   index := e.index, sub := e.sub, unit := unit, epoch := s.epochOf unit, hostSeq := c.hostSeq.getD 0,
                   value := v }),
    .op .free ]

/-- The calibration is invalidated: CAL_AGE reads 0xFFFF_FFFF and every CAL_STATE is NONE (R48). -/
def invalidateCal : Prog := .seq (.op (.calTime none)) (each (List.range 4) fun h => wr .calState h 0)

/-- The entries whose write in PREPARE invalidates the calibration (R48). -/
def calEntry (index : Nat) : Bool :=
  (0x2400 ≤ index && index ≤ 0x25FF) || (0x2800 ≤ index && index ≤ 0x287F) || (0x3400 ≤ index && index ≤ 0x35FF)
    || (0x3800 ≤ index && index ≤ 0x387F)

def invalidateIf (index : Nat) : Prog := .ask fun s => when (calEntry index && s.modes.mode = .prepare) invalidateCal

/-- Bits of an entry that exist; the others are ignored in a write and read 0 (R3, R5). -/
def entMask (n : Name) : Nat :=
  match n with
  | .fineDelay => 0x77 | .nibOut => 0xDF | .rangeLimits => 0x77 | .tamperEn => 0x0F | .plausClr => 0x0F | .tamperClr => 0x0F
  | .consumerHb => 0x01FFFFFF
  | _ => 0xFFFFFFFF

/-- A byte of a SCAN_LIST entry as it is held: MODE has four bits, and bytes 24 to 31 are reserved (scan-list entry table, R3, R5). -/
def scanListByte (at' : Nat) (b : Byte) : Byte := if at' = 2 then b &&& 0x0F else if 24 ≤ at' then 0 else b

def masked (n : Name) (v : U32) : U32 := v &&& u32 (entMask n)

/-- An accepted write of an RW or RWP entry takes its value (R95, R151, R48). -/
def commit (c : Ctx) (n : Name) (j i : Nat) (v : U32) : Prog :=
  let e : Ent := { name := n, inst := j, item := i }
  let v := masked n v
  all [ wri n j i v,
        match e.unit with | some u => bump u | none => .nop,
        journalWrite c e (e.unit.getD 0) 2 v,
        invalidateIf e.index ]

/-- A write by the X9 itself (P6) of an entry at instance `j`. -/
def p6Write (n : Name) (j : Nat) (v : Nat) : Prog := commit .internal n j 0 (u32 v)

/-- A numeric range (R900). -/
def inRange (lo hi v : Nat) : Status := if v < lo then .tooLow else if hi < v then .tooHigh else .ok
/-- A listed set of codes (R900). -/
def oneOf (l : List Nat) (v : Nat) : Status := if v ∈ l then .ok else .range
/-- A range whose chapter names RANGE. -/
def within (lo hi v : Nat) : Status := if lo ≤ v ∧ v ≤ hi then .ok else .range
def need (b : Bool) (st : Status) : Status := if b then .ok else st

/-- The first status that is not OK. -/
def firstBad : List Status → Status
  | [] => .ok
  | .ok :: l => firstBad l
  | st :: _ => st

/-- A refusal on a register port is counted, and holds ERR_N low or sets ERR (R681, R682, R690, R691). -/
def portRefusal (p : Path) : Prog :=
  match p with
  | .p1 => .seq (countUp .parErr 0) (modPort 1 fun x => { x with err := true })
  | .p2 => .seq (countUp .qspiErr 0) (modPort 2 fun x => { x with err := true })
  | _ => .nop

/-- The status of a refusal is kept in LAST_STATUS of its path (R117). -/
def refuse (p : Path) (st : Status) (index sub : Nat) : Prog := .seq
  (wri .lastStatus 0 p.num (u32 (st.code * 0x1000000 + index * 0x100 + sub))) (portRefusal p)

end Sys2Proof.Machine
end

