-- ==== Sys2Proof/Machine/Motion.lean ====
section
/-! DEFINITION. Quill: the motion axes, and the paced feed that drives one of them (*Quill: the motion axes*, *Paced feed and
seamless restart*). -/
namespace Sys2Proof.Machine

open Prog

/-! ### Arithmetic -/

/-- The square root of a natural number, rounded down; `fuel` bits are tried. -/
def isqrtFrom (n : Nat) : Nat → Nat → Nat
  | 0, r => r
  | k + 1, r => isqrtFrom n k (if (r + 2 ^ k) * (r + 2 ^ k) ≤ n then r + 2 ^ k else r)
def isqrt (n : Nat) : Nat := isqrtFrom n 64 0

/-- π · 2^60. -/
def piFix : Int := 3622009729038561421

/-- Terms of the sine series from term `k`, for an angle `x` in 2^60ths of a radian. -/
def sinSeries (x2 : Int) : Nat → Nat → Int → Int
  | 0, _, _ => 0
  | n + 1, k, t => t + sinSeries x2 n (k + 1) (-(t * x2 / 2 ^ 60) / ((2 * k + 2) * (2 * k + 3)))

/-- sin(2πk / 1024) · 2^60: the 1,024-entry table of R356. -/
def sinTable (k : Nat) : Int :=
  let k := k % 1024
  let q := if k ≤ 256 then k else if k ≤ 512 then 512 - k else if k ≤ 768 then k - 512 else 1024 - k
  let x := piFix * q / 512
  let y := sinSeries (x * x / 2 ^ 60) 14 0 x
  if k ≤ 512 then y else -y

/-! ### Reading an axis -/

def State.posZ (s : State) (a : Nat) : Int := s.rdZ .pos a
def State.encAxis (s : State) (a : Nat) : Bool := s.rdB .encEn a
/-- round(ENC_POS × ENC_SCALE) (R366). -/
def State.encUnits (s : State) (a : Nat) : Int := roundDiv (s.rdZ .encPos a * s.rdN .encScale a) 65536
/-- DEV (R366). -/
def State.devOf (s : State) (a : Nat) : Int := if s.encAxis a then s.posZ a - s.encUnits a else 0
def State.statusBit (s : State) (a bit : Nat) : Bool := bitAt (s.rdN .axisStatus a) bit
def State.uncertain (s : State) (a : Nat) : Bool := s.statusBit a 0
def State.homed (s : State) (a : Nat) : Bool := s.statusBit a 1
/-- Axis states (R372). -/
def axOff : Nat := 0
def axStandstill : Nat := 1
def axMoving : Nat := 2
def axStopping : Nat := 3
def axHoming : Nat := 4
def axFault : Nat := 5
def State.inMotion (s : State) (a : Nat) : Bool := s.rdN .axisState a ∈ [2, 3, 4]

/-- AXIS_STATUS with the bits of `set` set and those of `clr` cleared. -/
def axisStatusTo (a set clr : Nat) : Prog := .ask fun s =>
  wr .axisStatus a ((s.rd .axisStatus a &&& ~~~ u32 clr) ||| u32 set)

/-- A change of axis state (R372). -/
def axisTo (a st : Nat) : Prog := .ask fun s =>
  when (s.rdN .axisState a ≠ st) (.seq (wrN .axisState a st) (bump (unitAxis a)))

/-- The current level in force (R397). -/
def State.coilLevel (s : State) (a : Nat) : Nat :=
  let ax := s.axis a
  if ax.boost then s.rdN .iBoost a else if !s.inMotion a && ax.atHold then s.rdN .iHold a else s.rdN .iRun a

/-- |x| of a level and a table value, rounded (R356). -/
def coilRef (level : Nat) (t : Int) : Nat := (roundDiv (level * t.natAbs) (2 ^ 60)).toNat

/-- The electrical angle of the commanded position, in 1/1,024 turn (R356). -/
def State.angleOf (s : State) (a : Nat) : Nat :=
  let m := s.rdN .microstep a
  ((s.posZ a) % (4 * m : Nat)).toNat * 1024 / (4 * m)

/-- The pins of an axis follow its mode, position and current level (pin table, R353, R356). After an immediate stop they hold for HOLD_DELAY,
and then stay at the angle of the stop (R383). -/
def axisPins (a : Nat) : Prog := .ask fun s =>
  let lv := s.coilLevel a
  let k := (s.axis a).heldAt.getD (s.angleOf a)
  modAxis a fun x =>
    if s.rdN .axisState a = 0 then { x with enOut := false, dirOut := false, stepOut := false, irefA := 0, irefB := 0 }
    else if x.heldAt.isSome && x.holdRuns then x
    else match s.rdN .axisMode a with
    | 1 => { x with enOut := true, stepOut := false, irefA := lv, irefB := lv }
    | 2 => { x with enOut := true, irefA := coilRef lv (sinTable k), irefB := coilRef lv (sinTable (k + 256)),
                    stepOut := decide (0 < sinTable k), dirOut := decide (0 < sinTable (k + 256)) }
    | 3 => { x with enOut := true, irefA := s.rdN .iRun a, irefB := 0 }
    | _ => x

/-! ### Stops, faults and uncertainty -/

/-- POS_UNCERTAIN is set, HOMED cleared and POS_UNCERTAIN produced (R384, R387). -/
def setUncertain (a : Nat) : Prog := .seq (axisStatusTo a 1 2) (emit .posUncertain (unitAxis a) islMotion (u32 a))

/-- The planner at rest; a RETARGET that waits is kept (R378, R411). -/
def restPlan (a : Nat) : Prog := .seq
  (modAxis a fun x => { x with goal := .open, vel := 0, acc := 0, keepDec := none, home := 0,
                               homeRef := none, holdRuns := true, atHold := false })
  (wr .speed a 0)

/-- A homing that ends without its reference point (R392). -/
def homeFailed (a : Nat) : Prog := .ask fun s =>
  when (s.rdN .axisState a = axHoming) (emit .homeFailed (unitAxis a) islMotion (u32 a))

/-- The outputs of an axis hold after an immediate stop: the coil references at the present angle, the bridge off (R382, R383). -/
def holdOutputs (a : Nat) : Prog := .ask fun s =>
  modAxis a fun x => { x with pend := none, heldAt := some (s.angleOf a), integral := 0, carry := 0, deadLeft := 0 }

/-- An immediate stop (R382 to R385): pulses stop, an open-loop axis that was moving becomes uncertain, an encoder axis takes
its commanded position from the encoder. The state after it is the caller's. -/
def immediateStop (a : Nat) : Prog := .ask fun s =>
  when (s.inMotion a) (all
    [ homeFailed a, holdOutputs a, restPlan a,
      if s.encAxis a then wr .pos a (i32 (s.encUnits a)) else setUncertain a ])

/-! ### What may be written -/

/-- The gate of R393 on an absolute target. -/
def State.absGate (s : State) (a : Nat) (t : Int) : Status :=
  match s.modes.mode with
  | .scan => .ok
  | .calibrate => if s.rdZ .calLo a ≤ t ∧ t ≤ s.rdZ .calHi a then .ok else .notInMode
  | _ => .notInMode

def State.limitGate (s : State) (a : Nat) (t : Int) : Status :=
  if s.rdB .limitEn a && s.homed a then
    if t < s.rdZ .softLo a then .tooLow else if s.rdZ .softHi a < t then .tooHigh else .ok
  else .ok

/-- The states in which RETARGET is accepted, and what else it needs but the hold of the paced feed (R378, R386, R393, R395). -/
def State.retargetGate (s : State) (a : Nat) (t : Int) : Status :=
  firstBad [s.absGate a t,
    (match s.rdN .axisState a with | 0 => .notInMode | 4 => .moving | 5 => .axisFault | _ => .ok),
    need (!s.uncertain a) .posUnknown, s.limitGate a t]

/-- The values that V_MAX accepts (R357). -/
def State.vMaxGate (s : State) (a v : Nat) : Status :=
  firstBad [inRange 1 5000000 v, need (!(s.rdN .axisMode a = 1 && decide (100000000 < v * s.rdN .stepWidth a))) .tooHigh]

/-! ### The paced feed -/

def State.paceHead (s : State) : Nat := s.rdN .paceHead
def State.feedAxis (s : State) : Nat := s.rdN .rulingAxis s.paceHead
def State.paceState (s : State) : Nat := s.rdN .paceState
def State.isPaced (s : State) (a : Nat) : Bool := s.paceState ≠ 0 && a = s.feedAxis
/-- +1 or −1 for RULING_DIR of PACE_HEAD. -/
def State.paceDir (s : State) : Int := if s.rdN .rulingDir s.paceHead = 0 then 1 else -1

/-- The line pitch in axis units (R418). -/
def State.pitchUnits (s : State) : Rat :=
  let h := s.paceHead
  let p : Rat := mkRat (s.rdN .pitch h) 65536
  if s.rdN .rulingSrc h = 0 then p else p * mkRat (s.rdN .encScale s.feedAxis) 65536

/-- The square of the distance that a jerk-limited profile takes between rest and speed `v` with acceleration `a` and jerk `j`:
the acceleration reaches `a` where v j ≥ a², otherwise it peaks at √(v j). -/
def distSquared (v a j : Nat) : Rat :=
  if a * a ≤ v * j then
    let d : Rat := mkRat v 2 * (mkRat v a + mkRat a j)
    d * d
  else mkRat (v * v * v) j

def floorSqrt (q : Rat) : Nat := isqrt (q.num.natAbs / q.den)
def ceilSqrt (q : Rat) : Nat := let r := floorSqrt q; if mkRat (r * r : Nat) 1 = q then r else r + 1

def State.jerkOf (s : State) (a : Nat) : Nat := s.rdN .jerk a * 1024

/-- V_CAP (R419). -/
def State.vCapOf (s : State) : Nat :=
  (s.pitchUnits * 400000000 / (s.rdN .lineDur s.paceHead : Nat)).floor.toNat
def State.vEffOf (s : State) : Nat := max 1 (min (s.rdN .vScan) s.vCapOf)
/-- T_NOM (R420). -/
def State.tNomOf (s : State) : Nat := (roundRat (s.pitchUnits / (s.vEffOf : Nat) * 400000000)).toNat
/-- STOP_LINES (R425). -/
def State.stopLinesOf (s : State) : Nat :=
  let a := s.feedAxis
  let p := s.pitchUnits
  floorSqrt (distSquared s.vEffOf (s.rdN .decMax a) (s.jerkOf a) / (p * p)) + 1
/-- BACKOFF_DIST (R428). -/
def State.backoffOf (s : State) : Nat :=
  let a := s.feedAxis
  s.rdN .backlash + ceilSqrt (distSquared s.pace.vEff (s.rdN .accMax a) (s.jerkOf a)) + s.rdN .paceSettle

/-- λ of R422 for F; `Pace.level` is 17 until the first has been taken. -/
def State.levelOf (s : State) (f : Nat) : Nat :=
  let lo := s.rdN .lowWm
  let hi := s.rdN .highWm
  if f ≤ lo then 0 else min 16 (16 * (f - lo) / (hi - lo))

/-- A write of P6 that is checked like any other but for level and claim: a refusal is kept in LAST_STATUS of P6 (R92, R117, R381). -/
def p6Checked (st : Status) (n : Name) (a : Nat) (p : Prog) : Prog :=
  if st = .ok then p else refuse .p6 st (indexOf n a) (subOf n 0)

/-- A speed that the paced feed writes to V_MAX through P6 (R381, R423). -/
def paceSpeed (v : Nat) : Prog := .ask fun s => p6Checked (s.vMaxGate s.feedAxis v) .vMax s.feedAxis (p6Write .vMax s.feedAxis v)

/-- A target that the paced feed writes to RETARGET through P6; it sets TARGET too (R380, R381). -/
def paceTarget (t : Int) : Prog := .ask fun s =>
  let a := s.feedAxis
  p6Checked (s.retargetGate a t) .retarget a (all
    [ commit .internal .retarget a 0 (i32 t), wr .axisTarget a (i32 t), modAxis a fun x => { x with pend := some (.retarget t) } ])

def paceTo (st : Nat) : Prog := wrN .paceState 0 st

/-- A ramped stop (MOVE_CMD 5). -/
def rampStop (a : Nat) : Prog := .ask fun s => all
  [ homeFailed a,
    modAxis a (fun x => { x with pend := none, home := 0 }),
    when (s.rdN .axisState a = axMoving || s.rdN .axisState a = axHoming)
      (.seq (modAxis a fun x => { x with goal := .open }) (axisTo a axStopping)) ]

/-- Pacing ends early (R427). -/
def paceAbort : Prog := .ask fun s =>
  when (s.paceState ≠ 0) (all
    [ paceTo 0, emit .paceAbort (unitHead s.paceHead) islMotion (u32 s.paceState) ])

/-- Free space at or below LOW_WM: the pause (R427). -/
def pacePause : Prog := .ask fun s => all
  [ rampStop s.feedAxis, countUp .pauseCount 0, paceTo 2,
    emit .pacePause (unitHead s.paceHead) islMotion (s.rd .freeMin) (s.rd .pos s.feedAxis) ]

/-- Whether the profile of an axis has ended at rest. -/
def State.atRest (s : State) (a : Nat) : Bool := (s.axis a).vel = 0 && (s.axis a).acc = 0

/-- The pacing state acts on F (R422, R423, R427); an axis that has come to rest in this planning cycle goes first (R440, R441). -/
def paceUpdate : Prog := .ask fun s =>
  let f := s.rdN .freeMin
  let lo := s.rdN .lowWm
  let hi := s.rdN .highWm
  let v := s.pace.vEff
  let rest := s.atRest s.feedAxis
  let ended := rest && decide (s.posZ s.feedAxis = s.rdZ .endTarget)
  match s.paceState with
  | 1 =>
    if ended then .nop
    else if f ≤ lo then pacePause
    else
      let l := s.levelOf f
      when (l ≠ s.pace.level) (.seq (modPace fun p => { p with level := l }) (paceSpeed (v * max l 1 / 16)))
  | 2 => when (decide (hi ≤ f) && !rest) (all
      [ paceTo 1, modPace (fun p => { p with level := 16 }), paceSpeed v, paceTarget (s.rdZ .endTarget) ])
  | 4 => when (hi ≤ f) (all
      [ paceTo 5, modPace (fun p => { p with level := 16 }), paceSpeed v, paceTarget (s.rdZ .endTarget) ])
  | 5 => when (decide (f ≤ lo) && !ended) pacePause
  | _ => .nop

/-- The feed axis has come to rest (R427, R441). -/
def paceAtRest (a : Nat) : Prog := .ask fun s =>
  when (s.isPaced a) (match s.paceState with
    | 2 => all
      [ modPace (fun p => { p with pStop := s.posZ a }), wrN .backoffDist 0 s.backoffOf, paceTo 3, paceSpeed (s.rdN .backoffV),
        paceTarget (s.posZ a - s.paceDir * s.backoffOf) ]
    | 3 => .seq (paceTo 4) paceUpdate
    | _ => when (s.posZ a = s.rdZ .endTarget) (paceTo 0))

/-- Pacing starts with an ABS move of the feed axis in SCAN (R419, R425, R426). -/
def paceStart (a : Nat) (target : Int) : Prog := .ask fun s =>
  when (s.rdB .paceEn && s.modes.mode = .scan && a = s.feedAxis && s.paceState = 0
      && decide (0 < (target - s.posZ a) * s.paceDir)) (all
    [ paceTo 1, wr .endTarget 0 (i32 target), wrN .vCap 0 (min s.vCapOf 4294967295), wrN .tNom 0 (min s.tNomOf 4294967295),
      wrN .stopLines 0 (min s.stopLinesOf 4294967295), modPace (fun p => { p with vEff := s.vEffOf, level := 17 }),
      when (s.vCapOf < s.rdN .vScan) (emit .paceCapped (unitHead s.paceHead) islMotion (u32 (min s.vCapOf 4294967295))),
      when (s.rdN .lowWm < s.stopLinesOf)
        (emit .paceMargin (unitHead s.paceHead) islMotion (s.rd .lowWm) (u32 (min s.stopLinesOf 4294967295))),
      paceUpdate ])

/-- The MOTION cycle of a time (R174). -/
def motionCycle (t : Nat) : Nat := t / 20

/-- A free space as the planning cycle uses it: a value that arrived in its own MOTION cycle counts from the following one (R23, R30). -/
def State.freeSeen (s : State) (k : Nat) : Nat :=
  match s.pace.was.find? fun x => x.1 = k && x.2.1 = motionCycle s.time.toNat with
  | some x => x.2.2
  | none => Store.get 0 s.pace.free k

/-- F, the smallest free space of the watched streams, or the collector's; 0 while the producer is fenced and until the first value after its
readmission (R24, R421, R772). -/
def State.freeMinOf (s : State) : Nat :=
  if s.rdN .lineRoute s.paceHead = 0x10 ∧ s.rdN .collector ≠ s.rdN .member then (if s.fenced islLink then 0 else s.freeSeen 8)
  else if s.fenced islHost then 0 else
  let l := (List.range 8).filterMap (fun k => if bitAt (s.rdN .paceStreams) k then some (s.freeSeen k) else none)
  l.foldl min (l.headD 0)

/-- A free space arrives in MOTION. -/
def freeArrives (k v : Nat) : Prog := .ask fun s =>
  let now := motionCycle s.time.toNat
  modPace fun p =>
    let l := p.was.filter fun x => x.2.1 = now
    { p with free := Store.put 0 p.free k v, was := if l.any fun x => x.1 = k then l else (k, now, Store.get 0 p.free k) :: l }

/-- HOST (or LINK, for the collector) is fenced: what it last sent counts no more (R24). -/
def freeLost (host : Bool) : Prog := modPace fun p =>
  { p with free := p.free.filter fun c => if host then c.1 = 8 else c.1 ≠ 8, was := [] }

def paceFree : Prog := .ask fun s => wrN .freeMin 0 s.freeMinOf

/-! ### Faults -/

/-- A fault of an axis (R372, R412, R415). -/
def axisFaultNow (a : Nat) (ev : Event) (p1 p2 : U32) : Prog := .ask fun s =>
  if s.rdN .axisState a = axOff then emit ev (unitAxis a) islMotion p1 p2 else all
    [ immediateStop a, wrN .axisFaultCause a ev.code, axisTo a axFault, emit ev (unitAxis a) islMotion p1 p2,
      when (s.isPaced a) paceAbort ]

def State.coilPresent (s : State) (a : Nat) (b : Bool) : Bool :=
  let ref := if b then (s.axis a).irefB else (s.axis a).irefA
  let cur := if b then s.rdN .iSenseB a else s.rdN .iSenseA a
  s.rdB .senseEn a && decide (64 ≤ ref) && decide (8 * cur < 4 * ref)
def State.overPresent (s : State) (a : Nat) : Bool :=
  s.rdB .senseEn a && decide (s.rdN .iLimit a < max (s.rdN .iSenseA a) (s.rdN .iSenseB a))
def State.stallPresent (s : State) (a : Nat) : Bool :=
  s.encAxis a && s.rdN .devWin a ≠ 0 && decide (s.rdN .devWin a < (s.devOf a).natAbs)

/-- Whether the cause of an axis fault is still there (R374). -/
def State.causePresent (s : State) (a : Nat) : Bool :=
  let c := s.rdN .axisFaultCause a
  if c = Event.code .coilOpen then s.coilPresent a false || s.coilPresent a true
  else if c = Event.code .overcurrent then s.overPresent a
  else if c = Event.code .stall then s.stallPresent a
  else false

/-- An accepted FAULT_CLR (R372, R874). -/
def axisFaultClear (a : Nat) : Prog := .ask fun s => all
  [ when (s.rdN .axisState a = axFault) (all [ wr .axisFaultCause a 0, axisTo a axStandstill, axisPins a ]),
    each [Event.stall, .encFault, .coilOpen, .overcurrent] fun ev => clearEvent ev (unitAxis a) islMotion ]

/-! ### Homing -/

/-- The reference point: P_e is stamped and the axis stops within DEC_MAX (R390). -/
def homeReference (a : Nat) (p : Int) : Prog := modAxis a fun x => { x with home := 9, homeRef := some p, goal := .open }

/-- ENC_POS that matches a position (R367). -/
def State.encMatch (s : State) (a : Nat) (p : Int) : U32 :=
  i32 (roundRat (mkRat (p * 65536) (max 1 (s.rdN .encScale a))))

/-- The method completes: POS and ENC_POS take the reference (R372, R390, R391). -/
def homeDone (a : Nat) (p : Int) : Prog := .ask fun s =>
  let np := s.rdZ .homePos a + (s.posZ a - p)
  all [ restPlan a, wr .pos a (i32 np), when (s.encAxis a) (wr .encPos a (s.encMatch a np)),
        modAxis a (fun x => { x with readmitted := false }), axisStatusTo a 2 1, axisTo a axStandstill,
        emit .homed (unitAxis a) islMotion (u32 a) (i32 p), axisPins a ]

/-- The stop of method 4 (R391): an immediate stop whose rest position is the reference point. -/
def homeHardStop (a : Nat) : Prog := .ask fun s => all
  [ holdOutputs a, when (s.encAxis a) (wr .pos a (i32 (s.encUnits a))), homeDone a (s.encUnits a) ]

/-- Homing starts (R388, R389); method 4 on an axis that has no encoder any more fails (DEDUCED, log 45). -/
def homeStart (a : Nat) : Prog := .ask fun s => all
  [ axisTo a axHoming, axisStatusTo a 0 8,
    modAxis a (fun x => { x with home := match s.rdN .homeMethod a with
                                         | 1 | 2 => if x.homeLow then 2 else 1 | 3 => 6 | 4 => 7 | _ => 9,
                                 homeStart := s.posZ a, homeRef := none, goal := .open, keepDec := none,
                                 holdRuns := false, atHold := false, heldAt := none }),
    when (s.rdN .homeMethod a = 0) (homeDone a (s.posZ a)),
    when (s.rdN .homeMethod a = 4 && !s.encAxis a) (all [ homeFailed a, restPlan a, axisTo a axStandstill ]) ]

/-- The direction and speed of a homing step (R389). -/
def State.homeRun (s : State) (a : Nat) : Int × Nat :=
  let d : Int := if s.rdN .homeDir a = 0 then 1 else -1
  match (s.axis a).home with
  | 1 => (d, s.rdN .homeV a)
  | 3 => (-d, s.rdN .homeV a)
  | 4 => (-d, s.rdN .homeV a)
  | 5 | 6 | 7 | 8 => (d, s.rdN .homeVSlow a)
  | _ => (0, s.rdN .vMax a)

/-! ### Planning -/

/-- The limit at which a move of unbounded or relative reach is planned to stop, where it would cross one (R396). -/
def State.limited (s : State) (a : Nat) (up : Bool) (t : Option Int) : Goal :=
  let free : Goal := match t with | some p => .target p | none => .open
  if s.rdB .limitEn a && s.homed a then
    let hi := s.rdZ .softHi a
    let lo := s.rdZ .softLo a
    let x := s.posZ a
    if up then (if hi < x then free else match t with | some p => if hi < p then .limit hi true else free | none => .limit hi true)
    else (if x < lo then free else match t with | some p => if p < lo then .limit lo false else free | none => .limit lo false)
  else free

/-- A move begins (R371, R372). -/
def moveStart (a : Nat) (g : Goal) : Prog := all
  [ modAxis a (fun x => { x with goal := g, keepDec := none, home := 0, holdRuns := false, atHold := false, heldAt := none }),
    axisStatusTo a 0 8, axisTo a axMoving ]

/-- The command that waits is taken up at the planning-cycle boundary (R371, R378); one that the mode has come to forbid is not (R36, R393). -/
def takeUp (a : Nat) : Prog := .ask fun s =>
  let ax := s.axis a
  let st := s.rdN .axisState a
  all [ modAxis a (fun x => { x with pend := none, halted := false }),
    if s.modes.mode = .prepare || s.modes.mode = .park then .nop else match ax.pend with
    | none => .nop
    | some (.abs t) => when (st = axStandstill) (.seq (moveStart a (.target t)) (paceStart a t))
    | some (.rel d) => when (st = axStandstill) (moveStart a (s.limited a (0 ≤ d) (some (s.posZ a + d))))
    | some (.vel up) => when (st = axStandstill)
        (.seq (modAxis a fun x => { x with up := up }) (moveStart a (s.limited a up none)))
    | some .home => when (st = axStandstill) (homeStart a)
    | some (.retarget t) => when (st ∈ [axStandstill, axMoving, axStopping])
        (.seq (moveStart a (.target t)) (when (st = axStandstill) (paceStart a t))) ]

/-! ### The profile

Quill's profile takes the least time within the limits of R368, as the worked example shows (DEDUCED, log 45). It advances by planning cycles:
the acceleration changes by at most J = JERK × 1,024 × 10 µs and runs linearly in between, so with the units of `Axis` a cycle adds the sum of the
old and the new acceleration to the speed, and the sum of the old and the new speed to the position. -/

/-- The speed that remains once the acceleration has gone to 0 at the limit of jerk. -/
def settleSpeed (j v a : Int) : Int := if 0 ≤ a then v + a * a / j else v - a * a / j

/-- Whether a stop from speed `v` with no acceleration fits in a distance: its acceleration peaks below `d`, or holds `d` for a time. -/
def stopFits (d j x v : Int) : Bool :=
  decide (0 ≤ x) && (decide (v ≤ 0)
    || (if 2 * d * d < v * j then decide (v * (v * j + 2 * d * d) ≤ x * 2 * d * j) else decide (2 * v * v * v ≤ j * x * x)))

/-- Whether a stop from speed `v` and acceleration `a` fits in a distance. -/
def canStop (d j rem v a : Int) : Bool :=
  if 0 ≤ a then stopFits d j (rem - 2 * v * a / j - 4 * a * a * a / (3 * j * j) - 2) (v + a * a / j + 1)
  else
    let v0 := v + a * a / j + 1
    stopFits d j (rem + 2 * v0 * (-a) / j - 2 * (-a) * a * a / (3 * j * j) - 2) v0

/-- The largest value of a range from `lo` on that passes a test that `lo` passes and `hi` does not. -/
def bisect (ok : Int → Bool) : Nat → Int → Int → Int
  | 0, lo, _ => lo
  | n + 1, lo, hi =>
    if hi - lo ≤ 1 then lo
    else
      let m := (lo + hi) / 2
      if ok m then bisect ok n m hi else bisect ok n lo m

/-- The accelerations that a cycle may reach from `a`: within jerk, and within `acc` and `dec` as far as jerk allows. -/
def accRange (acc dec j a : Int) : Int × Int := (clampZ (a - j) (a + j) (-dec), clampZ (a - j) (a + j) acc)

/-- The acceleration of a stop from a speed that is not negative: as low as lets the speed end at 0. -/
def accToRest (acc dec j v a : Int) : Int :=
  let (lo, hi) := accRange acc dec j a
  let ends (x : Int) : Bool := decide (0 ≤ settleSpeed j (v + a + x) x)
  if ends lo then lo else if !ends hi then hi else -(bisect (fun m => ends (-m)) 46 (-hi) (-lo))

/-- The acceleration of a run at a speed: as high as lets the speed end at it (R370, R414). -/
def accToSpeed (acc dec j vlim v a : Int) : Int :=
  let (lo, hi) := accRange acc dec j a
  let within (x : Int) : Bool := decide (settleSpeed j (v + a + x) x ≤ vlim)
  if within hi then hi else if !within lo then lo else bisect within 46 lo hi

/-- The acceleration of a run towards a goal `rem` ahead, if it has one: as high as leaves room to stop, and a stop where there is none
(R369, R379). -/
def accToGoal (acc dec j vlim : Int) (rem : Option Int) (v a : Int) : Int :=
  let x := accToSpeed acc dec j vlim v a
  match rem with
  | none => x
  | some r =>
    let lo := (accRange acc dec j a).1
    let room (y : Int) : Bool := canStop dec j (r - (v + v + a + y)) (v + a + y) y
    if room x then x else if room lo then bisect room 46 lo x else accToRest acc dec j v a

/-- What a planning cycle drives an axis to: rest, or a run in a direction to a goal so far ahead, or without one. -/
inductive Drive where
  | rest
  | run (up : Bool) (rem : Option Int)
deriving DecidableEq, Repr

/-- Near enough to rest that one cycle within jerk ends it. -/
def nearRest (j v a : Int) : Bool := decide (a.natAbs ≤ j.natAbs) && decide (v.natAbs ≤ 2 * j.natAbs)

/-- Acceleration after one planning cycle, in the direction of a speed that is not negative. -/
def stopStep (acc dec j v a : Int) : Int :=
  if v < 0 ∨ (v = 0 ∧ a < 0) then -(accToRest acc dec j (-v) (-a)) else accToRest acc dec j v a

/-- Speed and acceleration after one planning cycle (R368, R369, R375, R378, R379, R414). An axis that runs away from its goal comes to rest
first. -/
def planCycle (accMax decMax jerk vlim : Nat) (d : Drive) (v a : Int) : Int × Int :=
  let j : Int := jerk * 1024
  let acc : Int := accMax * 100000
  let dec : Int := decMax * 100000
  let lim : Int := vlim * 20000000000
  let ends : Bool := nearRest j v a
  match d with
  | .rest => if ends then (0, 0) else let x := stopStep acc dec j v a; (v + a + x, x)
  | .run up rem =>
    let sg : Int := if up then 1 else -1
    let sv := sg * v
    let sa := sg * a
    if decide (sv < 0) || (decide (sv = 0) && decide (sa < 0)) then
      if ends then (0, 0) else let x := stopStep acc dec j v a; (v + a + x, x)
    else match rem with
    | some r =>
      if ends && decide (r.natAbs ≤ 8 * j.natAbs) then (0, 0)
      else let x := sg * accToGoal acc dec j lim rem sv sa; (v + a + x, x)
    | none => let x := sg * accToGoal acc dec j lim none sv sa; (v + a + x, x)

/-- The unit of the position in the profile. -/
def posUnit : Int := 4000000000000000

/-- The position with its fraction. -/
def State.posFine (s : State) (a : Nat) : Int := s.posZ a * posUnit + (s.axis a).frac

/-- What the profile of an axis heads for. -/
def State.driveOf (s : State) (a : Nat) : Drive :=
  let ax := s.axis a
  let towards (p : Int) : Drive := let r := p * posUnit - s.posFine a; .run (decide (0 ≤ r)) (some r.natAbs)
  if s.rdN .axisState a = axStopping then .rest
  else match ax.goal with
  | .target p | .limit p _ => towards p
  | .open =>
    if s.rdN .axisState a = axHoming then (if (s.homeRun a).1 = 0 then .rest else .run (decide (0 < (s.homeRun a).1)) none)
    else .run ax.up none

/-- The deceleration in force (R376). -/
def State.decOf (s : State) (a : Nat) : Nat := (s.axis a).keepDec.getD (s.rdN .decMax a)

/-- Speed and acceleration of an axis in motion after a planning cycle. Homing runs are held to V_MAX like any profile (R368). -/
def State.planned (s : State) (a : Nat) : Int × Int :=
  let vlim := if s.rdN .axisState a = axHoming then min (s.homeRun a).2 (s.rdN .vMax a) else s.rdN .vMax a
  planCycle (s.rdN .accMax a) (s.decOf a) (s.rdN .jerk a) vlim (s.driveOf a) (s.axis a).vel (s.axis a).acc

/-- The boost of an axis in a planning cycle (R398, R399); BOOST shows it where the references follow it (R397). -/
def boostStep (a : Nat) (acc : Int) : Prog := .ask fun s =>
  let ax := s.axis a
  let dev := (s.devOf a).natAbs
  let win := s.rdN .devWin a
  let b := if s.encAxis a then (if win = 0 then false else if win < 2 * dev then true else if 4 * dev < win then false else ax.boost)
    else decide (acc ≠ 0)
  let shown := b && decide (s.rdN .axisMode a ∈ [1, 2])
  when (decide (s.rdN .axisState a ∈ [1, 2, 3, 4]) && !(ax.heldAt.isSome && ax.holdRuns))
    (.seq (modAxis a fun x => { x with boost := b }) (axisStatusTo a (4 * bit01 shown) (4 * bit01 (!shown))))

/-- One planning cycle of the profile of an axis: in STEP_DIR one pulse for each unit travelled, DIR leading the first by DIR_SETUP where it
changes (R354). -/
def planAxis (a : Nat) : Prog := .ask fun s =>
  let ax := s.axis a
  if !s.inMotion a then boostStep a 0
  else
    let st := s.rdN .axisState a
    let (v, acc) := s.planned a
    let arrived := match s.driveOf a with | .run _ (some _) => v = 0 && acc = 0 | _ => false
    let goal : Int := match ax.goal with | .target p | .limit p _ => p | .open => s.posZ a
    let p := if arrived then goal * posUnit else s.posFine a + ax.vel + v
    let np := p / posUnit
    let up := decide (s.posZ a ≤ np)
    let far := s.rdN .homeRange a ≠ 0 && decide ((s.rdN .homeRange a : Int) < (np - ax.homeStart).natAbs)
    all
      [ modAxis a (fun x => { x with vel := v, acc := acc, frac := p % posUnit }),
        wr .pos a (i32 np), wr .speed a (i32 (roundDiv v 20000000000)),
        when (s.rdN .axisMode a = 1 && decide (np ≠ s.posZ a)) (.seq
          (modAxis a fun x => { x with dirOut := up })
          (output (.steps a up (np - s.posZ a).natAbs (if up = ax.dirOut then 0 else s.rdN .dirSetup a) (s.rdN .stepWidth a)))),
        boostStep a acc,
        if st = axHoming && ax.home = 7 && decide (s.rdN .devWin a < (s.devOf a).natAbs) then homeHardStop a
        else when (st = axHoming && far && ax.homeRef.isNone) (all [ homeFailed a, restPlan a, axisTo a axStandstill ]) ]

/-! ### The DC loop -/

/-- One bridge period, in 1/65,536 of a MOTION cycle: the request, of which DEAD_TIME leaves `avail`, the threshold and the period give the
on-time put out and whether the period is skipped (R405, R406). -/
def bridgePeriodOut (req avail th full : Int) : Int × Bool :=
  let on := min req avail
  if on ≤ 0 then (0, false)
  else if on < th then (0, true)
  else if full ≤ on then (full, false)
  else if full - on < th then (if avail < full then (on / 65536 * 65536, false) else (full, true))
  else (on / 65536 * 65536, false)

/-- What a run of bridge periods leaves: the carry (R407), the dead time still to come (R405), the skips (R408), and the on-times in MOTION
cycles, newest first. -/
structure Bridge where
  carry : Int
  dead : Int
  skips : Nat := 0
  ons : List Nat := []

/-- The bridge periods of a planning cycle; `cut` is the part of an on-time, in 1/65,536, after which the sensed current ends it (R409). -/
def bridgePeriods (want th full : Int) (cut : Option Nat) : Nat → Bridge → Bridge
  | 0, r => r
  | n + 1, r =>
    let req := want + r.carry
    let (out, sk) := bridgePeriodOut req (max 0 (full - r.dead)) th full
    let out := match cut with | some f => out * (f : Int) / 65536 / 65536 * 65536 | none => out
    bridgePeriods want th full cut n
      { carry := req - out, dead := max 0 (r.dead - full), skips := r.skips + bit01 sk, ons := (out / 65536).toNat :: r.ons }

/-- The encoder speed in units/s: that of the last count, and no more than the time since it allows (DEDUCED, log 45). -/
def State.encVel (s : State) (a : Nat) : Int :=
  let x := s.axis a
  let most : Int := match x.encLast with
    | some t => (s.rdN .encScale a * 4000000000 / (65536 * max 1 (s.time.toNat - t)) : Nat)
    | none => 0
  clampZ (-most) most x.encSpeed

/-- Whether the bridge of an axis works: in DC mode, enabled, and not held off since an immediate stop (R382, R403). -/
def State.bridgeOn (s : State) (a : Nat) : Bool :=
  s.rdN .axisMode a = 3 && decide (s.rdN .axisState a ∈ [1, 2, 3, 4]) && (s.axis a).heldAt.isNone

/-- The DC loop of a planning cycle (R403 to R409); SKIPPING tells of this cycle alone. Where the sensed current ends an on-time is a free
value. -/
def dcCycle (a : Nat) : Prog := .ask fun s =>
  let ax := s.axis a
  if !s.bridgeOn a then .seq (axisStatusTo a 0 16) (when (s.rdN .axisMode a = 3) (wr .duty a 0))
  else
    let e := s.devOf a
    let sum := ax.integral + e
    let d : Rat := realRat (s.rd .kp a) * (e : Rat) + realRat (s.rd .ki a) * (sum : Rat) / 100000
      + realRat (s.rd .kv a) * (mkRat ax.vel 20000000000 - (s.encVel a : Rat))
    let d : Rat := if 1 < d then 1 else if d < -1 then -1 else d
    let period := s.rdN .bridgePeriod a
    let n := (ax.pwmPhase + 2000) / period
    let want := roundRat ((if d < 0 then -d else d) * (period * 65536 : Nat))
    let th : Int := (max (s.rdN .bridgeMinOn a) (s.rdN .deadTime a)) * 65536
    let up := if d = 0 then ax.dirOut else decide (0 < d)
    let dead := if up = ax.dirOut then ax.deadLeft else s.rdN .deadTime a
    let cut := if s.rdN .iLimit a < s.rdN .iSenseA a then some (s.freeBelow 65537) else none
    let r := bridgePeriods want th (period * 65536 : Nat) cut n { carry := ax.carry, dead := dead * 65536 }
    all
      [ .op .free,
        wr .duty a (i32 (roundRat (d * 32767))),
        modAxis a (fun x => { x with integral := sum, carry := r.carry, deadLeft := (r.dead / 65536).toNat, dirOut := up,
                                     pwmPhase := (x.pwmPhase + 2000) % period }),
        when (r.ons ≠ []) (output (.pwm a up r.ons.reverse)),
        wrN .axisSkipCount a (min (s.rdN .axisSkipCount a + r.skips) 4294967295),
        axisStatusTo a (16 * bit01 (r.skips ≠ 0)) (16 * bit01 (r.skips = 0)) ]

/-! ### The rows of MOTION -/

/-- PLANNING_CYCLE: every 10 µs, with the sensed coil currents of the axes. -/
def execPlanningCycle (sense : List (Nat × Nat)) (s : State) : Host.Outcome State Fault Refusal :=
  done (inIsland islMotion (.seq
    (each (List.range 6) fun a => all
      [ wrN .iSenseA a (min 4095 (sense.getD a (0, 0)).1), wrN .iSenseB a (min 4095 (sense.getD a (0, 0)).2),
        takeUp a, planAxis a, dcCycle a, axisPins a ])
    (.seq paceFree paceUpdate))) s

/-- What follows when an axis comes to rest at the end of a move, a stop or a homing step. -/
def restEnd (a : Nat) : Prog := .ask fun s =>
  let ax := s.axis a
  let st := s.rdN .axisState a
  if st = axHoming then
    match ax.home with
    | 2 => modAxis a fun x => { x with home := if x.homeLow then 3 else 4, vel := 0, acc := 0,
                                       goal := if x.homeLow then .open else .target (s.posZ a + (if s.rdN .homeDir a = 0 then -1 else 1) * s.rdN .homeBackoff a) }
    | 4 => modAxis a fun x => { x with home := 5, vel := 0, acc := 0, goal := .open }
    | 9 => homeDone a (ax.homeRef.getD (s.posZ a))
    | _ => .nop
  else all [ restPlan a, axisTo a axStandstill, axisPins a, paceAtRest a ]

/-- TARGET_REACHED, once the profile has ended at its target (R369, R372, R396). -/
def execTargetReached (a : Fin 6) (s : State) : Host.Outcome State Fault Refusal :=
  done (inIsland islMotion (.ask fun s =>
    let st := s.rdN .axisState a
    let there (p : Int) : Bool := s.atRest a && s.rd .pos a = i32 p && (s.axis a).frac = 0
    match (s.axis a).goal with
    | .target p => when (there p && (st = axMoving || (st = axHoming && (s.axis a).home = 4))) (restEnd a)
    | .limit p high => when (there p && st = axMoving) (all
        [ restEnd a, axisStatusTo a 8 0,
          emit .limitStop (unitAxis a) islMotion (u32 a) (i32 (if high then s.rdZ .softHi a else s.rdZ .softLo a)) ])
    | .open => .nop)) s

/-- STOP_COMPLETE: the speed reaches 0 in STOPPING, or at the end of a homing step that stops (R372, R389, R390). -/
def execStopComplete (a : Fin 6) (s : State) : Host.Outcome State Fault Refusal :=
  done (inIsland islMotion (.ask fun s =>
    let st := s.rdN .axisState a
    when (s.atRest a && (st = axStopping || (st = axHoming && ((s.axis a).home = 2 || (s.axis a).home = 9)))) (restEnd a))) s

/-- The counter direction of an encoder transition: channel A leading B counts up (PRESUMED, log 64). -/
def quadStep (a b a' b' : Bool) : Option Int :=
  if a = a' ∧ b = b' then some 0
  else if a ≠ a' ∧ b ≠ b' then none
  else if a ≠ a' then some (if a' = b' then -1 else 1)
  else some (if a' = b' then 1 else -1)

/-- ENCODER_TRANSITION: the filtered levels of A and B after an edge (R362, R364). The counters keep counting while MOTION is
fenced; the fault then waits for no one. -/
def execEncoderTransition (ax : Fin 6) (a b : Bool) (s : State) : Host.Outcome State Fault Refusal :=
  done (live (.ask fun s =>
    let x := s.axis ax
    let inv : Int := if s.rdB .encInvert ax then -1 else 1
    .seq (modAxis ax fun x => { x with encA := a, encB := b }) (match quadStep x.encA x.encB a b with
    | some 0 => .nop
    | some d =>
      let dt := match x.encLast with | some t => s.time.toNat - t | none => 0
      let v := if dt = 0 then x.encSpeed else inv * d * (s.rdN .encScale ax * 4000000000 / (65536 * dt) : Nat)
      all [ wr .encPos ax (i32 (s.rdZ .encPos ax + inv * d)),
            modAxis ax (fun x => { x with encLast := some s.time.toNat, encSpeed := v }) ]
    | none => .seq (countUp .encErrors ax)
        (when (s.encAxis ax && !s.fenced islMotion) (axisFaultNow ax .encFault (u32 ax) 0))))) s

/-- ENCODER_INDEX (R365, R388). -/
def execEncoderIndex (a : Fin 6) (s : State) : Host.Outcome State Fault Refusal :=
  done (live (.ask fun s => .seq (wr .indexPos a (s.rd .encPos a))
    (when (!s.fenced islMotion && s.rdN .axisState a = axHoming && ((s.axis a).home = 6 || (s.axis a).home = 8))
      (homeReference a (s.posZ a))))) s

/-- HOME_SWITCH_EDGE: the filtered level of AXa_HOME_N (R389, R413). -/
def execHomeSwitchEdge (a : Fin 6) (low : Bool) (s : State) : Host.Outcome State Fault Refusal :=
  done (live (.ask fun s => .seq (modAxis a fun x => { x with homeLow := low })
    (when (!s.fenced islMotion && s.rdN .axisState a = axHoming) (match (s.axis a).home, low with
      | 1, true => modAxis a fun x => { x with home := 2 }
      | 3, false => modAxis a fun x => { x with home := 4, goal := .target (s.posZ a + (if s.rdN .homeDir a = 0 then -1 else 1) * s.rdN .homeBackoff a) }
      | 5, true => if s.rdN .homeMethod a = 2 then modAxis a fun x => { x with home := 8 } else homeReference a (s.posZ a)
      | _, _ => .nop)))) s

/-- HOLD_DELAY_EXPIRED (R383, R397). -/
def execHoldDelayExpired (a : Fin 6) (s : State) : Host.Outcome State Fault Refusal :=
  done (inIsland islMotion (.ask fun s => when (!s.inMotion a && (s.axis a).holdRuns)
    (all [ modAxis a (fun x => { x with holdRuns := false, atHold := true, boost := if x.heldAt.isSome then false else x.boost }),
           .ask fun s => when (!(s.axis a).boost) (axisStatusTo a 0 4), axisPins a ]))) s

/-- The samples of the sensed current of a coil; I_SENSE reads the last. -/
def senseTaken (a coil : Nat) (samples : List (BitVec 12)) : Prog := match samples.getLast? with
  | some x => wrN (if coil = 0 then .iSenseA else .iSenseB) a x.toNat
  | none => .nop

/-- COIL_OPEN on coil A (0) or B (1), after the samples of 1 ms (R400); an axis in OFF has no reference of 64 or more. -/
def execCoilOpen (a : Fin 6) (coil : Fin 2) (samples : List (BitVec 12)) (s : State) : Host.Outcome State Fault Refusal :=
  done (inIsland islMotion (.ask fun s =>
    let ref := if coil = 0 then (s.axis a).irefA else (s.axis a).irefB
    .seq (senseTaken a coil samples)
      (when (s.rdB .senseEn a && decide (64 ≤ ref) && samples ≠ [] && samples.all fun x => decide (8 * x.toNat < 4 * ref))
        (axisFaultNow a .coilOpen (pack [(8, a), (8, coil)]) 0)))) s

/-- OVERCURRENT on coil A (0) or B (1), after 4 successive samples above I_LIMIT, or in DC mode 256 successive bridge periods cut by the
sensed current of coil A, one sample for each (R400, R409). -/
def execOvercurrent (a : Fin 6) (coil : Fin 2) (samples : List (BitVec 12)) (s : State) : Host.Outcome State Fault Refusal :=
  done (inIsland islMotion (.ask fun s =>
    let dc := s.rdN .axisMode a = 3
    .seq (senseTaken a coil samples)
      (when ((s.rdB .senseEn a || dc) && (!dc || coil = 0) && decide ((if dc then 256 else 4) ≤ samples.length)
          && samples.all fun x => decide (s.rdN .iLimit a < x.toNat))
        (axisFaultNow a .overcurrent (pack [(8, a), (8, coil)]) 0)))) s

/-- STALL (R401, R402). -/
def execStall (a : Fin 6) (s : State) : Host.Outcome State Fault Refusal :=
  done (inIsland islMotion (.ask fun s =>
    when (s.stallPresent a && !(s.rdN .axisState a = axHoming && (s.axis a).home = 7))
      (axisFaultNow a .stall (u32 a) (i32 (s.devOf a))))) s

/-- FREE_SPACE_ARRIVAL: the free space that HOST last reported for a stream, and that of the collector that LINK last received, arrive
in MOTION (R23, R421, R772); it acts at the next planning cycle. -/
def execFreeSpaceArrival (k : Fin 8) (s : State) : Host.Outcome State Fault Refusal :=
  done (inIsland islMotion (.ask fun s => all
    [ when (!s.fenced islHost) (freeArrives k (s.rdN .freeRecords k)), when (!s.fenced islLink) (freeArrives 8 s.link.collFree) ])) s

/-! ### Writes of axis entries -/

/-- The stopping distance from the present speed and acceleration within a deceleration is longer than what remains (R376). -/
def State.tooShort (s : State) (a dec : Nat) : Bool :=
  match s.driveOf a with
  | .run up (some r) =>
    let sg : Int := if up then 1 else -1
    !canStop (dec * 100000) (s.rdN .jerk a * 1024) r (sg * (s.axis a).vel) (sg * (s.axis a).acc)
  | _ => false

/-- The axis must be at standstill for a command that starts motion (R373). -/
def State.startGate (s : State) (a : Nat) : Status :=
  match s.rdN .axisState a with
  | 0 => .notInMode
  | 1 => .ok
  | 5 => .axisFault
  | _ => .moving

def State.pacedGate (s : State) (p : Path) (a : Nat) : Status := need (!(s.isPaced a && p ≠ .p6)) .paced

/-- Function-state check of MOVE_CMD (R373, R386, R393, R395, R429). -/
def moveCheck (s : State) (p : Path) (a v : Nat) : Status :=
  match v with
  | 1 => firstBad [s.pacedGate p a, s.absGate a (s.rdZ .axisTarget a), s.startGate a, need (!s.uncertain a) .posUnknown,
                   s.limitGate a (s.rdZ .axisTarget a)]
  | 2 | 3 | 4 => firstBad [s.pacedGate p a, need (s.modes.mode = .scan) .notInMode, s.startGate a]
  | 7 => firstBad [s.pacedGate p a, need (s.modes.mode = .scan || s.modes.mode = .calibrate) .notInMode, s.startGate a]
  | _ => .ok

/-- Function-state check of RETARGET (R378, R386, R393, R395, R429). -/
def retargetCheck (s : State) (p : Path) (a : Nat) (t : Int) : Status := firstBad [s.pacedGate p a, s.retargetGate a t]

/-- Value check of an axis or pacing entry. -/
def motionValue (s : State) (n : Name) (a : Nat) (w : U32) : Status :=
  let v := w.toNat
  match n with
  | .axisMode => firstBad [within 0 3 v, need (v ≠ 3 || s.encAxis a) .range]
  | .encEn => need (v ≠ 0 || s.rdN .axisMode a ≠ 3) .range
  | .microstep => oneOf [1, 2, 4, 8, 16, 32, 64, 128, 256] v
  | .moveCmd => within 1 7 v
  | .vMax => s.vMaxGate a v
  | .accMax | .decMax | .jerk | .encScale => inRange 1 4294967295 v
  | .axisFaultClr => oneOf [1] v
  | .iRun | .iHold | .iBoost => inRange 0 1023 v
  | .iLimit => inRange 0 4095 v
  | .homeMethod => firstBad [within 0 4 v, need (v ≠ 4 || s.encAxis a) .range]
  | .homeDir => within 0 1 v
  | .bridgePeriod => within 200 20000 v
  | .stepWidth => inRange 5 400 v
  | .bridgeMinOn => inRange 10 2000 v
  | .paceHead => within 0 3 v
  | .paceStreams => need (v ≠ 0) .range
  | .lowWm => need (decide (v < s.rdN .highWm)) .range
  | .highWm => need (decide (s.rdN .lowWm < v)) .range
  | .vScan | .backoffV => inRange 1 5000000 v
  | .photonMode => oneOf [0, 1] v
  | .photonMin => within 1 65536 v
  | .photonMax => within 65536 131072 v
  | _ => .ok

/-- Function-state check of an axis entry. -/
def motionState (s : State) (p : Path) (n : Name) (a : Nat) (w : U32) : Status :=
  match n with
  | .moveCmd => moveCheck s p a w.toNat
  | .retarget => retargetCheck s p a w.toInt
  | .axisTarget => firstBad [s.pacedGate p a, need (s.rdN .axisState a = 0 || s.rdN .axisState a = 1) .moving]
  | .vMax => s.pacedGate p a
  | .jerk => need (s.rdN .axisState a = 0 || s.rdN .axisState a = 1) .moving
  | .posSet => need (s.rdN .axisState a = 0 || s.rdN .axisState a = 1) .moving
  | .axisFaultClr => need (!(s.rdN .axisState a = axFault && s.causePresent a)) .axisFault
  | _ => .ok

/-- The action of MOVE_CMD (R370, R371, R382). -/
def moveAct (p : Path) (a v : Nat) : Prog := .ask fun s =>
  let ask (c : MoveCmd) : Prog := modAxis a fun x => { x with pend := some c }
  match v with
  | 1 => ask (.abs (s.rdZ .axisTarget a))
  | 2 => ask (.rel (s.rdZ .axisTarget a))
  | 3 => ask (.vel true)
  | 4 => ask (.vel false)
  | 5 => .seq (rampStop a) (when (s.isPaced a && p ≠ .p6) paceAbort)
  | 6 => all
    [ modAxis a (fun x => { x with pend := none, halted := true }), immediateStop a,
      when (s.inMotion a) (axisTo a axStandstill), axisPins a, when (s.isPaced a && p ≠ .p6) paceAbort ]
  | _ => ask .home

/-- AXIS_EN (R372, R384). -/
def axisEnable (a : Nat) : Prog := .ask fun s =>
  when (s.rdN .axisState a = axOff && s.rdN .axisMode a ≠ 0) (all
    [ modAxis a (fun x => { x with atHold := true, holdRuns := false, heldAt := none, boost := false, integral := 0, carry := 0 }),
      axisTo a axStandstill, axisPins a ])

def axisDisable (a : Nat) : Prog := .ask fun s =>
  when (s.rdN .axisState a ≠ axOff) (all
    [ immediateStop a, axisTo a axOff, modAxis a (fun x => { x with pend := none }), axisPins a,
      when (s.isPaced a) paceAbort ])

/-- What an accepted write of an axis or pacing entry does beyond taking its value. -/
def motionEffect (p : Path) (n : Name) (a : Nat) (w old : U32) : Prog :=
  match n with
  | .moveCmd => moveAct p a w.toNat
  | .axisEn => if w = 0 then axisDisable a else axisEnable a
  | .retarget => .ask fun s => .seq (wr .axisTarget a w)
      (when (!(s.axis a).halted) (modAxis a fun x => { x with pend := some (.retarget w.toInt) }))
  | .posSet => .ask fun s => all
      [ wr .pos a w, modAxis a (fun x => { x with frac := 0 }),
        when (s.encAxis a) (wr .encPos a (s.encMatch a w.toInt)), axisPins a ]
  | .axisFaultClr => axisFaultClear a
  | .encEn => if w = 0 then axisStatusTo a 1 2
              else axisStatusTo a 0 1
  | .decMax => .ask fun s =>
      when (s.rdN .axisState a = axMoving) (modAxis a fun x =>
        { x with keepDec := if s.tooShort a w.toNat then some (x.keepDec.getD old.toNat) else none })
  | .paceEn => if w = 0 then paceAbort else .nop
  | .iRun | .iHold | .iBoost | .axisMode | .microstep => axisPins a
  | _ => .nop

/-- The park line in MOTION (R25, R36, R384); a command that waits is not taken up any more. -/
def parkAxes : Prog := .seq
  (each (List.range 6) fun a => .ask fun s => .seq (modAxis a fun x => { x with pend := none }) (when (s.inMotion a) (all [ immediateStop a, axisTo a axStandstill, axisPins a ])))
  paceAbort

/-- Every axis not at rest performs a STOP, and pacing ends (R394, R427). -/
def stopAxes : Prog := .seq (each (List.range 6) rampStop) paceAbort

/-- MOTION readmitted: every axis stopped; an open-loop axis becomes uncertain (R185, R187, R243). -/
def readmitAxes : Prog := each (List.range 6) fun a => .ask fun s => all
  [ modAxis a (fun x => { x with pend := none }), when (s.inMotion a) (all [ homeFailed a, restPlan a, axisTo a axStandstill ]),
    if s.encAxis a then wr .pos a (i32 (s.encUnits a))
    else .seq (axisStatusTo a 1 2) (modAxis a fun x => { x with readmitted := true, told := [] }),
    axisPins a ]

end Sys2Proof.Machine
end

