-- ==== Sys2Proof/Machine/Head.lean ====
section
/-! DEFINITION. Ductus, Nib and Ruling: the heads, their lines and their triggers (*Ductus, Nib and Ruling: clocking the
sensor*), and the constant-photon exposure (*Paced feed and seamless restart*). -/
namespace Sys2Proof.Machine

open Prog

/-! ### Head states and record flags -/

def hdOff : Nat := 0
def hdIdle : Nat := 1
def hdArmed : Nat := 2
def hdPlaying : Nat := 3
def hdPending : Nat := 4
def hdDone : Nat := 5

/-- Bits of FLAGS (R338). -/
def flTruncated : Nat := 1
def flAbsent : Nat := 2
def flGap : Nat := 4
def flShort : Nat := 8
def flExpCut : Nat := 16
def flLate : Nat := 32
def flWrap : Nat := 64
def flStale : Nat := 128
def flWatch : Nat := 0x800
def flPhotonExp : Nat := 0x2000
def flPhotonFail : Nat := 0x4000
def flReentry : Nat := 0x8000
def flJoinFail : Nat := 0x10000
def flPos : Nat := 0x200000
def flOverrun : Nat := 0x400000

/-- A flag word with further flags set. -/
def withFlag (f x : Nat) : Nat := x ||| f

def State.headState' (s : State) (h : Nat) : Nat := s.rdN .headState h
def State.armedNow (s : State) (h : Nat) : Bool := s.headState' h ∈ [hdArmed, hdPlaying, hdPending]

/-- A change of head state; a change between ARMED, PLAYING and PENDING leaves the epoch (R223). -/
def headTo (h st : Nat) : Prog := .ask fun s =>
  let old := s.headState' h
  when (old ≠ st) (.seq (wrN .headState h st)
    (when (!(decide (old ∈ [2, 3, 4]) && decide (st ∈ [2, 3, 4]))) (bump (unitHead h))))

/-- An event produced once in each arming. -/
def headOnce (h : Nat) (ev : Event) (isl : Nat) (p1 p2 : U32 := 0) : Prog := .ask fun s =>
  when (!(decide (ev ∈ (s.head h).once))) (.seq (modHead h fun r => { r with once := ev :: r.once })
    (emit ev (unitHead h) isl p1 p2))

/-! ### Pattern and segments -/

def State.segLenOf (s : State) (h j : Nat) : Nat := s.rdN .segLen h j
/-- A repeat count of 0 means 65,536 (R205). -/
def State.segRepOf (s : State) (h j : Nat) : Nat := if s.rdN .segRep h j = 0 then 65536 else s.rdN .segRep h j

/-- The played length D of a line in step clocks. -/
def State.played (s : State) (h : Nat) : Nat :=
  (List.range (s.rdN .segCount h)).foldl (fun d j => d + s.segLenOf h j * s.segRepOf h j) 0

/-- The line occupancy (R206). -/
def State.occupancy (s : State) (h : Nat) : Nat := max (s.played h) 4000

/-- The steps in use of all segments. -/
def State.stepsUsed (s : State) (h : Nat) : Nat := (List.range (s.rdN .segCount h)).foldl (fun d j => d + s.segLenOf h j) 0

/-- The step of PATTERN that plays at a step clock of the line; after the played length, the last one (R206). -/
def stepFrom (s : State) (h : Nat) : List Nat → Nat → Nat → Nat
  | [], start, _ => start - 1
  | j :: js, start, clk =>
    let len := s.segLenOf h j
    if clk < len * s.segRepOf h j then start + clk % len
    else stepFrom s h js (start + len) (clk - len * s.segRepOf h j)
def State.stepAt (s : State) (h clk : Nat) : Nat := stepFrom s h (List.range (s.rdN .segCount h)) 0 clk

/-- The step clock at which each step in use first plays, from segment `j` on. -/
def firstPlay (s : State) (h : Nat) : List Nat → Nat → Nat → List (Nat × Nat)
  | [], _, _ => []
  | j :: js, start, clk =>
    (List.range (s.segLenOf h j)).map (fun i => (start + i, clk + i))
      ++ firstPlay s h js (start + s.segLenOf h j) (clk + s.segLenOf h j * s.segRepOf h j)

/-- The word of a step of PATTERN. -/
def State.stepWord (s : State) (h k : Nat) : Nat := s.wordAt (patternBase h + 4 * k) 4

/-- Whether a LINE_START step has played by a step clock of the line (R197). -/
def State.lineStarted (s : State) (h clk : Nat) : Bool :=
  (firstPlay s h (List.range (s.rdN .segCount h)) 0 0).any (fun p => decide (p.2 ≤ clk) && bitAt (s.stepWord h p.1) 28)

/-- The levels of HDh_PH for PATTERN's levels, Nib's outputs in place (R215). -/
def State.nibOver (s : State) (h base : Nat) : Nat :=
  (List.range 3).foldl (fun w c =>
    let n := s.rdN .nibOut h c
    if bitAt n 7 then
      let o := n % 32
      let level := ((s.head h).windows.getD c false) != bitAt n 6
      if level then w ||| 2 ^ o else w &&& (0xFFFFFF - 2 ^ o)
    else w) base

/-- PATTERN's levels at a step clock of a line (R208). -/
def State.patternOut (s : State) (h clk : Nat) : Nat := bits (s.stepWord h (s.stepAt h clk)) 0 24

/-- The step clock of the line being played. -/
def State.lineClk (s : State) (h : Nat) : Nat := (s.time.toNat - ((s.head h).lastStart.getD 0)) / 10

/-- The levels of HDh_PH: those of the step being played, else those held, which are the levels of step 0 before the first line (R208, R215). -/
def State.phaseOut (s : State) (h : Nat) : Nat :=
  s.nibOver h (if (s.head h).cur.isSome then s.patternOut h (s.lineClk h) else (s.head h).held.getD (bits (s.stepWord h 0) 0 24))

/-- The phase outputs take their levels. -/
def drivePhases (h : Nat) : Prog := .ask fun s => modHead h fun r => { r with ph := s.phaseOut h }

/-! ### Ruling -/

/-- L of R229 in 1/256 line, towards the side that has not been reached: down for increasing travel, up for decreasing. -/
def State.rulingL (s : State) (h frac : Nat) : Int :=
  let a := s.rdN .rulingAxis h
  let p : Int := if s.rdN .rulingSrc h = 0 then 256 * s.posZ a else 256 * s.rdZ .encPos a + frac
  let num := (p - 256 * s.rdZ .origin h) * 65536
  let pitch : Int := s.rdN .pitch h
  if s.rdN .rulingDir h = 0 then num / pitch else -((-num) / pitch)

/-- L measured along the direction of travel. -/
def State.rulingAhead (s : State) (h : Nat) (l : Int) : Int := if s.rdN .rulingDir h = 0 then l else -l

/-! ### The constant-photon feed at a line start -/

/-- s of R434 for a predicted duration in step clocks, 16.16. -/
def State.photonScaleOf (s : State) (t : Nat) : Nat :=
  max (s.rdN .photonMin) (min (s.rdN .photonMax) (roundDiv (s.rdN .tNom * 65536) (max 1 t)).toNat)

/-- E of R436 for an s of 16.16. -/
def State.photonE (s : State) (sc : Nat) : Nat := min ((s.rdN .tNom * 65536 + sc - 1) / (max 1 sc)) 0xFFFFFF

/-- E of R436 for a predicted duration: s before it is rounded, as in the worked example, so that E is the duration itself within the limits of s
(DEDUCED, log 46). -/
def State.photonEOf (s : State) (t : Nat) : Nat :=
  let num := s.rdN .tNom * 65536
  if num < t * s.rdN .photonMin then s.photonE (s.rdN .photonMin)
  else if t * s.rdN .photonMax < num then s.photonE (s.rdN .photonMax)
  else min t 0xFFFFFF

def State.nibEnabled (s : State) (h c : Nat) : Bool := bitAt (s.rdN .nibOut h c) 7

/-- A captured line that waits in LINE is changed. -/
def modQueued (h number : Nat) (f : LineCap → LineCap) : Prog :=
  modLineUnit h fun u => { u with queue := u.queue.map fun
    | .line c => if c.number = number ∧ c.unsettled then .line (f c) else .line c
    | x => x }

/-- The dose of a line is judged (R438): `w` is the window or interval in step clocks. -/
def State.doseBad (s : State) (sc w : Nat) : Bool :=
  decide (s.rdN .photonTol * s.rdN .tNom < ((sc * w : Nat) - (65536 * s.rdN .tNom : Nat) : Int).natAbs)

/-- The previous line's exposure is settled when the next line starts, `interval` step clocks after it: each window has closed by then, so
the length applied is what of it lies before that line start (R214, R217, R436 to R438). -/
def settleLine (h interval : Nat) : Prog := .ask fun s =>
  let r := s.head h
  match r.windowLine with
  | none => .nop
  | some n =>
    let opened := (List.range 3).any (fun c => r.windows.getD c false)
    let capOf : Option LineCap := (s.lineUnit h).queue.findSome? fun
      | .line c => if c.number = n ∧ c.unsettled then some c else none | _ => none
    match capOf with
    | none => .nop
    | some cap =>
      let exp := (List.range 3).map fun c => min (cap.exp.getD c 0) (interval - (r.latched.getD c (0, 0)).1)
      if cap.scale = 0 then
        modQueued h n fun c => { c with unsettled := false, exp := exp, flags := if opened then withFlag flExpCut c.flags else c.flags }
      else
        let nibs := (List.range 3).filter (fun c => s.nibEnabled h c)
        let bad := if nibs = [] then s.doseBad cap.scale interval else nibs.any (fun c => s.doseBad cap.scale (exp.getD c 0))
        .seq (modQueued h n fun c => { c with unsettled := false, exp := exp, flags := if bad then withFlag flPhotonFail c.flags else c.flags })
          (when bad (headOnce h .photonFail h (u32 h) (u32 n)))

/-- The exposure of the last line is settled where no line start follows it. -/
def settleLast (h : Nat) : Prog := .ask fun s => match (s.head h).windowLine with
  | none => .nop
  | some n => .seq (modQueued h n fun c => { c with unsettled := false })
      (modHead h fun r => { r with windowLine := none, windows := [false, false, false] })

/-- Whether no window of the line that the windows belong to is open or still to open. -/
def Head.windowsDone (r : Head) : Bool :=
  (List.range 3).all fun c => (r.latched.getD c (0, 0)).2 = 0 || r.shut.getD c false

/-! ### Lines -/

/-- A captured line goes to LINE, or is discarded and counted while LINE is fenced; after its readmission LINE takes a head's lines from the
next line start on, and the line then in progress is counted already (R190). -/
def enqueueLine (h : Nat) (c : LineCap) : Prog := .ask fun s =>
  if s.fenced islLine then modHead h fun r => { r with skipped := r.skipped + 1 }
  else if (s.head h).skipping then .nop
  else modLineUnit h fun u => { u with queue := u.queue ++ [.line (if u.gapNext then { c with flags := withFlag flGap c.flags } else c)],
                                       gapNext := false }

/-- LINE is readmitted: it reports each head's discarded lines, the one in progress among them (R190). -/
def readmitLine : Prog := each (List.range 4) fun h => .ask fun s =>
  let n := (s.head h).skipped + bit01 (s.head h).cur.isSome
  when ((s.head h).skipping && n ≠ 0) (all
    [ emit .linesSkipped 0 islLine (u32 h) (u32 n), modLineUnit h (fun u => { u with gapNext := true }),
      modHead h (fun r => { r with skipped := 0 }) ])

/-- A line start of a head while LINE is in service: from it on LINE takes the head's lines again (R190). -/
def lineResume (h : Nat) : Prog := .ask fun s =>
  when ((s.head h).skipping && !s.fenced islLine) (modHead h fun r => { r with skipping := false, skipped := 0 })

/-- Whether the temperature of a head is stale: HEATH fenced, or no value since (R24), or none for more than TEMP_MAX_AGE (R318). -/
def State.tempOld (s : State) (h : Nat) : Bool :=
  s.fenced islHeath || (s.lineUnit h).noTemp || ((s.lineUnit h).aged && s.rdN .tempMaxAge h ≠ 0)

/-- The LINE cycle of a time, in counts (R174). -/
def lineCycle (t : Nat) : Nat := t / 5

/-- The temperature that LINE uses from a line start on, and whether it is stale; a value of the same LINE cycle applies from the following
line (R30, R314, R316 to R318, R346). -/
def State.lineTemp (s : State) (h : Nat) : U32 × Bool :=
  if 63 < s.rdN .lineTempSrc h then (0, false)
  else match (s.lineUnit h).tempWas with
    | some (c, t, old) => if c = lineCycle s.time.toNat then (t, old) else ((s.lineUnit h).tempNext, s.tempOld h)
    | none => ((s.lineUnit h).tempNext, s.tempOld h)

def tempAtStart (h : Nat) : Prog := .ask fun s =>
  when (s.rdN .lineTempSrc h ≤ 63) (wr .tempNow h (s.lineTemp h).1)

/-- The page of a head closes after the records on their way (R340). -/
def closePage (h : Nat) : Prog := .ask fun s =>
  when (s.rdB .tagEn h) (.seq (modLineUnit h fun u => { u with queue := u.queue ++ [.close (s.stamp islLine).toNat] }) (.op .free))

/-- The line's shortage (R199, R281): the fewest pixels any colour row in use received. -/
def State.fewest (s : State) (h : Nat) (c : LineCap) : Nat :=
  let off (k : Nat) : Bool := let n := 3 * h + k; s.rdN .videoSrc h = 0 && n % 2 = 1 && s.rdB .pairEn 0 (n / 2)
  let l := (List.range 3).filterMap (fun k => if off k then none else some (c.got.getD k 0))
  l.foldl min (l.headD 0)

/-- A line is complete as far as its samples go, which decides SHORT_LINE (R199, R281). -/
def judged (s : State) (h : Nat) (c : LineCap) : LineCap :=
  { c with lanesOpen := false, flags := if decide (s.fewest h c < s.rdN .pixels h) then withFlag flShort c.flags else c.flags }
def shortEvent (h : Nat) (c : LineCap) : Prog := .ask fun s =>
  when (decide (s.fewest h c < s.rdN .pixels h)) (headOnce h .shortLine h (u32 h) (u32 (s.fewest h c)))

/-- The line of a head whose lanes may still bring pixels after its occupancy (R281). -/
def State.laneLine (s : State) (h : Nat) : Option LineCap :=
  (s.lineUnit h).queue.findSome? fun | .line c => if c.lanesOpen then some c else none | _ => none

/-- The line that the lanes still filled is complete: at the next line start, or when LINE emits the record with no line start to come. -/
def closeLanes (h : Nat) : Prog := .ask fun s => match s.laneLine h with
  | none => .nop
  | some c => .seq (shortEvent h c) (modLineUnit h fun u => { u with queue := u.queue.map fun
      | .line x => if x.lanesOpen then .line (judged s h x) else .line x
      | x => x })

/-- The line in progress is emitted with what it received, flagged TRUNCATED (R189, R223); the phase outputs hold the last step played
(R208). -/
def truncateLine (h : Nat) : Prog := .ask fun s =>
  match (s.head h).cur with
  | none => .nop
  | some c => .seq (modHead h fun r => { r with cur := none, pendAt := none, held := some (s.patternOut h (s.lineClk h)) })
      (enqueueLine h { c with flags := withFlag flTruncated c.flags, unsettled := false })

/-- The head leaves its armed states: its last exposure is settled and its page closes. -/
def disarm (h st : Nat) : Prog := all
  [ settleLast h, modHead h (fun r => { r with cur := none, pendAt := none, leaving := false, stale := false }), drivePhases h, headTo h st, closePage h ]

/-- LINE_NUMBER takes the number of a position line, marking a wrap on the way to it (R228, R237). -/
def setNumber (h n : Nat) : Prog := .ask fun s =>
  let old := s.rdN .lineNumber h
  .seq (wrN .lineNumber h n) (when (n ≠ old) (modHead h fun r => { r with wrapped := decide (n < old) }))

/-- LINE_NUMBER steps on, marking a wrap to 0 (R228). -/
def nextNumber (h : Nat) : Prog := .ask fun s =>
  let n := (s.rdN .lineNumber h + 1) % 4294967296
  .seq (wrN .lineNumber h n) (modHead h fun r => { r with started := r.started + 1, wrapped := n = 0 })

/-- KIND of the records of a head: 1 in a dark capture, 2 in a white one (R306). -/
def State.lineKind (s : State) (h : Nat) : Nat :=
  match s.rdN .calState h with
  | 1 => 1 | 3 => 2 | _ => 0

/-- The head whose markers clock a converter: that of its channel, but that of the even channel for the odd converter of an enabled pair
(R246, R265). -/
def State.clockHead (s : State) (n : Nat) : Nat := if n % 2 = 1 && s.rdB .pairEn 0 (n / 2) then (n - 1) / 3 else n / 3
def State.clocked (s : State) (h : Nat) : List Nat := (List.range 12).filter fun n => s.clockHead n = h
/-- The channel whose entries a converter takes its settings from (R265, R268). -/
def State.rowOfConv (s : State) (n : Nat) : Nat := if s.rdB .pairEn 0 (n / 2) then n / 2 * 2 else n

/-- The channels, the pairs and the lanes at a line start (R253, R257, R263, R264, R266, R281). -/
def channelsAtStart (h : Nat) : Prog := .ask fun s => all
  [ each (s.clocked h) (fun n =>
      let row := s.rowOfConv n
      let rs := s.rdN .rangeStart row
      let fix := s.rdN .rangeMode row ≠ 0
      .seq (modChan n fun x => { x with peds := [], fixed := false, prevN := none, pixSeen := 0, pend := if fix || decide (rs ≤ 7) then none else x.pend })
        (if fix then wrN .rangeNow n (s.rdN .rangeFixed row) else when (decide (rs ≤ 7)) (wrN .rangeNow n rs))),
    each (List.range 6) (fun p => when (2 * p / 3 = h) (modPair p fun x => { x with oddTurn := false })),
    modLane h (fun l => { l with colour := none, opened := [], dead := [], discard := true }) ]

/-- The channels the rotating watch converter visits: analogue, enabled, and not the odd member of an enabled pair (R275). -/
def State.watchable (s : State) (n : Nat) : Bool :=
  s.rdN .videoSrc (n / 3) = 0 && s.rdB .headEn (n / 3) && !(n % 2 = 1 && s.rdB .pairEn 0 (n / 2))

/-- The watch converter at a line start of head `h` (R272, R275). A change to 0xFE, and one to 0xFF from off, has no new channel whose head
could start a line: it takes effect at the next line start of any head (DESIGN CHOICE, log 67). The head of a pair's odd channel is the one
that clocks it (DEDUCED, log 67). -/
def watchAtStart (h : Nat) : Prog := .ask fun s =>
  let want := s.rdN .watchCh
  let cur := s.watch.ch
  let fresh (n : Nat) : Prog := modWatch fun _ => { ch := n }
  if want = 0xFE then when (cur ≠ 0xFE) (fresh 0xFE)
  else if want ≤ 11 then
    (if s.clockHead want = h then (if cur = want then modWatch fun w => { w with peds := [], fixed := false } else fresh want) else .nop)
  else
    let from0 := if cur ≤ 11 then cur else 11
    let cand := (List.range 12).map (fun k => (from0 + 1 + k) % 12)
    when (decide (11 < cur) || s.clockHead cur = h) (match cand.find? s.watchable with
      | some n => fresh n
      | none => .nop)

/-- EXP_START (`i` 0 to 2) or EXP_LEN (3 to 5) as a line start takes it: a write of its own step clock takes effect at the next (R213). -/
def State.expAtStart (s : State) (h i : Nat) : Nat :=
  let v := if i < 3 then s.rdN .expStart h i else s.rdN .expLen h (i - 3)
  match (s.head h).expWas.find? fun x => x.1 = i && x.2.1 = s.time.toNat / 10 with
  | some x => x.2.2
  | none => v

/-- A line starts (R213, R214, R222, R224, R228, R238, R431, R432, R436), of a position trigger or of another. -/
def startLine (h : Nat) (pos late : Bool) : Prog := .ask fun s =>
  let r := s.head h
  let now := s.time.toNat
  let number := s.rdN .lineNumber h
  let interval := match r.lastStart with | some t => (now - t) / 10 | none => s.rdN .lineDur h
  let reentry := s.paceState = 5 && h = s.paceHead
  let a := s.feedAxis
  let v : Int := if s.rdN .rulingSrc h = 1 then s.encVel a else s.rdZ .speed a
  let ve : Int := s.pace.vEff
  let badJoin := reentry && decide (ve * s.rdN .joinTol < 256 * (v.natAbs - ve).natAbs)
  let photon := s.rdN .photonMode = 1 && h = s.paceHead
  let t := if reentry then s.rdN .tNom else interval
  let sc := if s.fenced islLight then s.pace.scale else s.photonScaleOf t
  let e := if s.fenced islLight then s.photonE sc else s.photonEOf t
  let latched := (List.range 3).map (fun c => (s.expAtStart h c, s.expAtStart h (c + 3)))
  let expOf (c : Nat) : Nat :=
    if photon && s.nibEnabled h c then e - (latched.getD c (0, 0)).1 else (latched.getD c (0, 0)).2
  let exp := (List.range 3).map expOf
  let flags := (if r.gap then flGap else 0) ||| (if r.wrapped && number = 0 then flWrap else 0) ||| (if late then flLate else 0)
    ||| (if pos then flPos else 0) ||| (if (s.lineTemp h).2 then flStale else 0) ||| (if reentry then flReentry else 0) ||| (if badJoin then flJoinFail else 0)
  let cap : LineCap :=
    { number := number, start := (s.stampQ 1).toNat, flags := flags, rulingL := if pos then r.lastL else 0, exp := exp, epoch := s.epochOf (unitHead h),
      kind := s.lineKind h, temp := (s.lineTemp h).1, scale := if photon then sc else 0, unsettled := photon || exp.any (· ≠ 0), watchCh := s.watch.ch }
  all [ .op .free,
        lineResume h,
        closeLanes h,
        settleLine h interval,
        modHead h (fun r => { r with cur := some cap, pendAt := none, lastStart := some now, interval := some interval,
                                     predict := t, gap := false,
                                     windowLine := some number, latched := (List.range 3).map (fun c => ((latched.getD c (0, 0)).1, exp.getD c 0)),
                                     windows := [false, false, false], shut := [false, false, false] }),
        nextNumber h, headTo h hdPlaying, channelsAtStart h, watchAtStart h, drivePhases h,
        tempAtStart h,
        when reentry (.seq (paceTo 1) (emit .paceResume (unitHead h) islMotion (u32 number))),
        when badJoin (emit .paceJoinFail (unitHead h) islMotion (u32 number) (i32 v)) ]

/-- A trigger is dropped (R223, R225). -/
def dropTrigger (h count : Nat) : Prog := .ask fun s => .seq
  (wrN .trigDropped h (min (s.rdN .trigDropped h + count) 4294967295))
  (headOnce h .trigDropped h (u32 h) (s.rd .lineNumber h))

/-- A line of a fenced head: LINE stamps it and emits it as HEAD_ABSENT with the next line number (R174, R188, R245). -/
def absentLine (h : Nat) (pos : Bool) : Prog := .ask fun s =>
  let r := s.head h
  let number := s.rdN .lineNumber h
  all
  [ lineResume h, closeLanes h, tempAtStart h,
    enqueueLine h { number := number, start := (s.stamp islLine).toNat, rulingL := if pos then r.lastL else 0, temp := (s.lineTemp h).1,
                    flags := flAbsent ||| (if pos then flPos else 0) ||| (if (s.lineTemp h).2 then flStale else 0) ||| (if r.gap then flGap else 0)
                      ||| (if r.wrapped && number = 0 then flWrap else 0),
                    epoch := s.epochOf (unitHead h), kind := s.lineKind h },
    .op .free,
    modHead h (fun r => { r with gap := false }),
    nextNumber h ]

/-- SCAN_LINES lines have started (R227, R245). -/
def State.scanFull (s : State) (h : Nat) : Bool := s.rdN .scanLines h ≠ 0 && decide (s.rdN .scanLines h ≤ (s.head h).started)

def enterDone (h : Nat) : Prog := .seq (disarm h hdDone) (emit .scanDone (unitHead h) h (u32 h))

/-- Whether the arming of a fenced head stands: the mode it was armed in has not been left since (R26, R36, R61, R188). -/
def State.armStands (s : State) (h : Nat) : Bool := s.armedNow h && !(s.head h).stale

/-- A line of a fenced head is counted towards SCAN_LINES (R188, R245). -/
def absentTrigger (h : Nat) (pos : Bool) : Prog := .seq (absentLine h pos)
  (.ask fun s => when (s.scanFull h && s.lineKind h = 0) (enterDone h))

/-- A trigger reaches the head (R223, R226). `pos` is the line of a position trigger (R237). LINE_NUMBER takes the number of a dropped
position trigger, and a line pending meanwhile starts with LINE_NUMBER, so that its record follows the gap (DEDUCED, log 41). -/
def takeTrigger (h : Nat) (pos : Option Nat) : Prog := .ask fun s =>
  let setNum : Prog := match pos with | some n => setNumber h n | none => .nop
  if (s.head h).leaving || (s.lineKind h ≠ 0 && decide (s.rdN .calLines h ≤ (s.head h).started)) then .nop
  else if s.fenced h then when (s.armStands h) (.seq setNum (absentTrigger h pos.isSome))
  else match s.headState' h with
  | 2 => .seq setNum (startLine h pos.isSome false)
  | 3 => all [ setNum, modHead h (fun r => { r with pendAt := some (s.time.toNat, pos.isSome) }), headTo h hdPending ]
  | 4 => all [ setNum, dropTrigger h 1,
               match pos with
               | some n => .seq (modHead h fun r => { r with gap := true }) (headOnce h .rulingOverspeed h (u32 h) (u32 n))
               | none => .nop ]
  | _ => .nop

/-- Rows and space of registration at arming (R321, R322): rows stored, and whether the space suffices. -/
def State.regRows (s : State) (h : Nat) : Nat :=
  let r := bits (s.rdN .lineSep h) 0 8
  let b := bits (s.rdN .lineSep h) 8 8
  match s.rdN .regOrder h with
  | 0 => r + 2 * b | 1 => 2 * r + b | _ => 0

/-- Owner code of the LINE master of head h (*Memory banks, Blotter and the secure bank*). -/
def ownerLine (h : Nat) : Nat := 0x10 + h
def State.lineOwns (s : State) (h b : Nat) : Bool := decide (b < 24) && s.rdN .owner b = ownerLine h && s.rdN .bankState b % 8 = 2

def State.regSpace (s : State) (h : Nat) : Nat :=
  let ext := (List.range (s.rdN .regExtCount h)).filter (fun k => s.lineOwns h (s.rdN .regExtBank h + k))
  0x180000 + 0x200000 * ext.length

/-- The settings of a side's seam: role, S, partner, offset. -/
def State.seamOf (s : State) (h : Nat) (right : Bool) : Nat × Nat × Nat × Nat :=
  if right then (s.rdN .seamRRole h, s.rdN .seamRPix h, s.rdN .seamRPartner h, s.rdN .seamROffset h)
  else (s.rdN .seamLRole h, s.rdN .seamLPix h, s.rdN .seamLPartner h, s.rdN .seamLOffset h)

/-- Whether a side's overlap exceeds the averaged line, so that the seams are off (R350). -/
def State.seamWide (s : State) (h : Nat) (right : Bool) : Bool :=
  (s.seamOf h right).1 ≠ 0 && decide (s.rdN .pixels h / s.rdN .avg h < (s.seamOf h right).2.1)

/-- The pixels that a side's DROP role removes (R332). -/
def State.dropped (s : State) (h : Nat) (right : Bool) : Nat :=
  if (s.seamOf h right).1 = 2 && !s.seamWide h false && !s.seamWide h true then (s.seamOf h right).2.1 else 0

/-- PIXELS_OUT of a scan record (R324, R332). -/
def State.outPixels (s : State) (h : Nat) : Nat :=
  s.rdN .pixels h / s.rdN .avg h - s.dropped h false - s.dropped h true

/-- The length of a record with so many pixels per plane, a multiple of 64 bytes (R337). -/
def recordBytes (pix : Nat) : Nat := (64 + 6 * pix + 63) / 64 * 64

/-- The head arms (R223, R234): line numbers, once-per-arming events, registration and seam settings start anew. -/
def arm (h : Nat) : Prog := .ask fun s =>
  let ruled := s.rdN .trigSrc h = 2 && s.lineKind h = 0
  let ahead := s.rulingAhead h (s.rulingL h 0)
  let n0 : Nat := if ruled && decide (0 ≤ ahead) then (ahead / 256 + 1).toNat else 0
  let full := decide (s.regSpace h < s.regRows h * s.rdN .pixels h * 2)
  let wide (right : Bool) : Bool := s.seamWide h right
  all [ modHead h (fun r => { r with once := [], started := 0, next := n0, gap := n0 ≠ 0, wrapped := false, leaving := false,
                                     lastStart := none, predict := s.rdN .lineDur h, cur := none, pendAt := none,
                                     windowLine := none, windows := [false, false, false], shut := [false, false, false] }),
        closeLanes h,
        wrN .lineNumber h n0,
        each (s.clocked h) (fun n => modChan n fun x => { x with ped := none, clipped := false }),
        when (decide (s.watch.ch ≤ 11) && s.clockHead s.watch.ch = h) (modWatch fun w => { w with peds := [], ped := none, fixed := false }),
        modLineUnit h (fun u => { u with rows := [], regOff := full, seamOff := wide false || wide true, seamGiveUp := false,
                                         emitted := none, lastPix := [], edges := [] }),
        wr .skew h 0,
        headTo h hdArmed,
        when (h = s.paceHead) (each (List.range 8) fun k => modLstr k fun x => { x with clipped := false }),
        when (full && s.lineKind h = 0) (headOnce h .regNoSpace islLine (u32 h)),
        when (wide false) (headOnce h .seamMismatch islLine (pack [(8, h), (8, 0)])),
        when (wide true) (headOnce h .seamMismatch islLine (pack [(8, h), (8, 1)])),
        when (s.rdN .lineRoute h = 0x10 && decide (2045 < recordBytes (s.outPixels h) / 64))
          (emit .linkReplayOff 0 islLink (u32 h)) ]

/-! ### The rows -/

/-- LINE_TRIGGER: a trigger of the bus or of frame sync reaches the head (R219, R223, R226). -/
def execLineTrigger (h : Fin 4) (src : TrigFrom) (s : State) : Host.Outcome State Fault Refusal :=
  done (live (.ask fun s =>
    let mine := match src with
      | .bus l => s.rdN .trigSrc h = 1 && s.rdN .trigBusLine h = l
      | .frameSync => s.rdN .trigSrc h = 3
    when (mine && !s.fenced islTimer) (takeTrigger h none))) s

/-- The position triggers of an arrival: the first three act one by one; what follows them is dropped like the third (R237, R244). -/
def rulingCross (h first count : Nat) : Prog := all
  [ modHead h (fun r => { r with next := first + count }),
    each (List.range (min count 3)) (fun k => takeTrigger h (some ((first + k) % 4294967296))),
    when (3 < count) (.ask fun s =>
      if s.fenced h then each (List.range (count - 3)) (fun k => takeTrigger h (some ((first + 3 + k) % 4294967296)))
      else when (s.headState' h = hdPending)
        (.seq (setNumber h ((first + count - 1) % 4294967296)) (dropTrigger h (count - 3)))) ]

/-- RULING_POSITION_ARRIVAL: the position of the feed axis, with `frac` 1/256 counts interpolated between encoder edges,
arrives at the head (R229, R232, R235, R237, R238, R243). An open-loop axis not homed since its readmission withholds the lines, and says so
once for each readmission. -/
def execRulingPositionArrival (h : Fin 4) (frac : Fin 256) (s : State) : Host.Outcome State Fault Refusal :=
  done (live (.ask fun s =>
    let a := s.rdN .rulingAxis h
    let l := s.rulingL h frac
    let ahead := s.rulingAhead h l
    let r := s.head h
    when (!s.fenced islMotion) (.seq (modHead h fun r => { r with lastL := l })
      (when (s.rdN .trigSrc h = 2 && s.lineKind h = 0 && s.armedNow h && !r.leaving)
        (if !s.encAxis a && (s.axis a).readmitted then when (!(decide (h.val ∈ (s.axis a).told)))
            (.seq (modAxis a fun x => { x with told := h.val :: x.told }) (emit .rulingUncertain (unitHead h) h (pack [(8, h), (8, a)])))
         else when (decide ((256 * r.next : Nat) ≤ ahead)) (rulingCross h r.next ((ahead / 256).toNat - r.next + 1))))))) s

/-- A line of R305 starts on the step clock that follows the previous one. -/
def State.selfTriggered (s : State) (h : Nat) : Bool := s.rdN .trigSrc h = 2 && s.lineKind h ≠ 0

/-- LINE_END: the line occupancy ends (R199, R208, R223, R224, R227, R241). The lanes may fill the line until the next line start (R281). -/
def execLineEnd (h : Fin 4) (s : State) : Host.Outcome State Fault Refusal :=
  done (inIsland h (.ask fun s =>
    let r := s.head h
    match r.cur with
    | none => .nop
    | some c =>
      let lanes := s.rdN .videoSrc h = 1 && decide (s.fewest h c < s.rdN .pixels h)
      let c := { c with unsettled := c.unsettled && (c.scale ≠ 0 || !r.windowsDone) }
      all [ modHead h (fun r => { r with cur := none, held := some (s.patternOut h (s.played h)) }),
            drivePhases h,
            when (!lanes) (shortEvent h c),
            enqueueLine h (if lanes then { c with lanesOpen := true } else judged s h c),
            if r.leaving then disarm h hdIdle
            else if s.scanFull h && s.lineKind h = 0 then enterDone h
            else if s.lineKind h ≠ 0 && decide (s.rdN .calLines h ≤ r.started) then headTo h hdArmed
            else if s.selfTriggered h then startLine h false false
            else match r.pendAt with
              | some (t, pos) => startLine h pos (decide (t + 10 < s.time.toNat))
              | none => headTo h hdArmed ])) s

/-- EXPOSURE_WINDOW_OPEN: Nib's count reaches EXP_START_c (R212, R436). -/
def execExposureWindowOpen (h : Fin 4) (c : Fin 3) (s : State) : Host.Outcome State Fault Refusal :=
  done (inIsland h (.ask fun s =>
    let r := s.head h
    when (r.windowLine.isSome && (r.latched.getD c (0, 0)).2 ≠ 0)
      (.seq (modHead h fun r => { r with windows := r.windows.set c true }) (drivePhases h)))) s

/-- EXPOSURE_WINDOW_CLOSE: the window of colour c closes before the next line start (R214, R436, R437). Without the constant-photon feed the
exposure of the line is settled once the last of its windows has closed. -/
def execExposureWindowClose (h : Fin 4) (c : Fin 3) (s : State) : Host.Outcome State Fault Refusal :=
  done (inIsland h (.ask fun s =>
    let r := s.head h
    when (r.windows.getD c false) (all
      [ modHead h (fun r => { r with windows := r.windows.set c false, shut := r.shut.set c true }),
        drivePhases h,
        match r.windowLine with
        | none => .nop
        | some n => .ask fun s =>
          let mark (x : LineCap) : LineCap := if x.scale ≠ 0 ∧ s.nibEnabled h c then { x with flags := withFlag flPhotonExp x.flags } else x
          let settle (x : LineCap) : LineCap := { mark x with unsettled := x.unsettled && (x.scale ≠ 0 || !(s.head h).windowsDone) }
          .seq (modHead h fun r => { r with cur := r.cur.map fun x => if x.number = n then mark x else x })
            (modQueued h n settle) ]))) s

/-- LINE_DUR_UPDATE (R207). -/
def execLineDurUpdate (h : Fin 4) (s : State) : Host.Outcome State Fault Refusal :=
  done (inIsland h (.ask fun s => wrN .lineDur h (s.occupancy h))) s

/-! ### Writes of head entries -/

def headValue (s : State) (n : Name) (h i : Nat) (w : U32) : Status :=
  let v := w.toNat
  let sums (len : Nat → Nat) (count : Nat) : Status :=
    need (decide ((List.range count).foldl (fun d j => d + len j) 0 ≤ 4096)) .tooHigh
  match n with
  | .pixels => need (v ≠ 0 && decide (v ≤ 32768)) .tooHigh
  | .segCount => firstBad [inRange 1 16 v, sums (s.segLenOf h) (min v 16)]
  | .segLen => firstBad [need (v ≠ 0 && decide (v ≤ 4096)) .tooHigh,
      if i < s.rdN .segCount h then sums (fun j => if j = i then v else s.segLenOf h j) (s.rdN .segCount h) else .ok]
  | .lineSep => need (decide (bits v 0 8 ≤ 64) && decide (bits v 8 8 ≤ 64)) .tooHigh
  | .trigSrc => within 0 4 v
  | .trigBusLine => within 0 15 v
  | .hostTrig => oneOf [1] v
  | .expStart | .expLen => inRange 0 0xFFFFFF v
  | .nibOut =>
    let o := v % 32
    let clash := (List.range 3).any (fun c => decide (c ≠ i) && s.nibEnabled h c && s.rdN .nibOut h c % 32 = o)
    need (decide (o ≤ 23) && !clash) .range
  | .rulingAxis => within 0 5 v
  | .rulingSrc | .rulingDir => within 0 1 v
  | .pitch => need (decide (65536 ≤ v)) .tooLow
  | _ => .ok

def headStateCheck (s : State) (n : Name) (h : Nat) : Status :=
  match n with
  | .hostTrig => firstBad [need (s.rdN .trigSrc h = 4) .trigSource, need (s.armedNow h) .notInMode]
  | _ => .ok

/-- HEAD_EN ← 1 (R223). -/
def headEnable (h : Nat) : Prog := .ask fun s =>
  when (s.headState' h = hdOff) (.seq (headTo h hdIdle) (when (s.modes.mode = .scan && s.modes.target.isNone) (arm h)))

/-- A calibration run of the head is abandoned (calibration state table). -/
def abandonCal (h : Nat) : Prog := .ask fun s =>
  when (decide (s.rdN .calState h ∈ [1, 3, 5])) (wr .calState h 0)

/-- HEAD_EN ← 0 (R223). -/
def headDisable (h : Nat) : Prog := .ask fun s =>
  when (s.headState' h ≠ hdOff) (all [ truncateLine h, disarm h hdOff, abandonCal h ])

/-- A write of EXP_START or EXP_LEN leaves the value before it to a line start of its own step clock (R213). -/
def expWritten (h i : Nat) (old : U32) : Prog := .ask fun s =>
  let clk := s.time.toNat / 10
  modHead h fun r =>
    let l := r.expWas.filter fun x => x.2.1 = clk
    { r with expWas := if l.any fun x => x.1 = i then l else (i, clk, old.toNat) :: l }

def headEffect (n : Name) (h i : Nat) (w old : U32) : Prog :=
  match n with
  | .expStart => expWritten h i old
  | .expLen => expWritten h (i + 3) old
  | .nibOut => drivePhases h
  | .headEn => if w = 0 then headDisable h else headEnable h
  | .hostTrig => takeTrigger h none
  | _ => .nop

/-- A request to leave SCAN, or the end of a capture, reaches the head (R61, R223). -/
def leaveScan (h : Nat) : Prog := .ask fun s =>
  match s.headState' h with
  | 2 => disarm h hdIdle
  | 3 | 4 => modHead h fun r => { r with leaving := true, pendAt := none }
  | _ => .nop

/-- The mode is left, or the park line asserts, while the head is fenced: its arming stands no longer (R26, R61). -/
def staleArm (h : Nat) : Prog := .ask fun s => when (s.fenced h && decide (s.headState' h ∈ [2, 3, 4, 5]))
  (modHead h fun r => { r with stale := true })

/-- The head leaves DONE once the mode has left SCAN (R223). -/
def leaveDone (h : Nat) : Prog := .ask fun s => when (s.headState' h = hdDone) (headTo h hdIdle)

/-- The park line in HEADh (R34, R223): a calibration run is abandoned (R345). -/
def parkHead (h : Nat) : Prog := .ask fun s =>
  .seq (abandonCal h) (when (decide (s.headState' h ∈ [2, 3, 4, 5])) (all [ truncateLine h, disarm h hdIdle ]))

/-- The fence of HEADh takes effect (R188, R189, R245): the line in progress is truncated, a pending one becomes a HEAD_ABSENT line, and the
head stays ARMED or has had its last line; the phase outputs hold step 0. -/
def fenceHead (h : Nat) : Prog := .ask fun s => all
  [ truncateLine h,
    if (s.head h).leaving then disarm h hdIdle
    else when (decide (s.headState' h ∈ [3, 4])) (all
      [ headTo h hdArmed, match (s.head h).pendAt with | some (_, pos) => absentLine h pos | none => .nop,
        .ask fun s => when (s.scanFull h && s.lineKind h = 0) (enterDone h) ]),
    settleLast h,
    modHead h (fun r => { r with held := some (bits (s.stepWord h 0) 0 24) }), drivePhases h ]

end Sys2Proof.Machine
end

