-- ==== Sys2Proof/Machine/FrontEnd.lean ====
section
/-! DEFINITION. The analogue channels, the interleaved pairs, the watch converter and the digital lanes (*Video front end and
converters*). A level or difference of the video input is an integer in units of 2⁻²² V. -/
namespace Sys2Proof.Machine

open Prog

/-! ### Conversion -/

/-- RANGE_GAIN of a channel and range, unsigned 4.12 (R254). -/
def State.gainOf (s : State) (n r : Nat) : Nat := max 1 (s.rdN .rangeGain n r)

/-- The code of a difference in a range: the offset DAC, the nominal transfer and the converter's own error, saturated. -/
def adcCode (offset gain : Nat) (d err : Int) : Nat :=
  (clampZ 0 65535 (16 * offset + roundDiv (d * gain) 524288 + err)).toNat

/-- N of a code (R255), and its 24 bits. A factory gain below 1 could carry it past them: it is held at the nearest value there (DESIGN
CHOICE, log 13). -/
def linearN (code ped gain : Nat) : Int := roundDiv (((code : Int) - ped) * 524288) gain
def n24 (x : Int) : BitVec 24 := BitVec.ofInt 24 (clampZ (-8388608) 8388607 x)

/-- The rounded mean of the pedestal samples of a line (R253). -/
def pedMean (l : List Nat) : Nat := (roundDiv (l.foldl (· + ·) 0 : Nat) l.length).toNat

/-- The line that samples of a head belong to: the one being captured, or the one that its lanes may still fill (R281). -/
def State.lineOf (s : State) (h : Nat) : Option LineCap := match (s.head h).cur with | some c => some c | none => s.laneLine h

def modLine (h : Nat) (f : LineCap → LineCap) : Prog := .ask fun s =>
  if (s.head h).cur.isSome then modHead h fun r => { r with cur := r.cur.map f }
  else modLineUnit h fun u => { u with queue := u.queue.map fun
    | .line c => if c.lanesOpen then .line (f c) else .line c
    | x => x }

/-- Whether LINE takes nothing out of a head's input queue: a line waits, and the stream that its records go to holds LINE back (R649). -/
def State.lineWaits (s : State) (h : Nat) : Bool :=
  decide (s.rdN .lineRoute h ≤ 7) && (s.stream (s.rdN .lineRoute h)).coming ≠ [] && (s.lineUnit h).queue ≠ []

/-- A pixel is taken into its colour row, through LINE's input queue (R198, R295); a surplus one is discarded. One lost to a full queue was
received all the same (R199). A line that its lanes have completed after its occupancy is complete. -/
def takePixel (h : Nat) (x : Sample) : Prog := .ask fun s =>
  let r := s.head h
  let now := s.time.toNat
  let fill := if s.lineWaits h then r.fill else r.fill - (now - r.fillAt) / 10
  let full := decide (16384 ≤ fill)
  when ((s.lineOf h).isSome && decide (x.index < s.rdN .pixels h)) (all
    [ modLine h fun c =>
        let c := { c with got := c.got.set x.colour (c.got.getD x.colour 0 + 1) }
        if full then { c with flags := withFlag flOverrun c.flags }
        else { c with pix := x :: c.pix, clip := if x.clip then min 65535 (c.clip + 1) else c.clip },
      modHead h (fun r => { r with fill := if full then fill else fill + 1, fillAt := now }),
      when full (headOnce h .lineOverrun islLine (u32 h)),
      .ask fun s => match s.laneLine h with
        | some c => when (decide (s.rdN .pixels h ≤ s.fewest h c)) (closeLanes h)
        | none => .nop ])

/-- A clipped pixel of a channel is counted, and reported once in each arming (R256, R289, R291). -/
def clipSeen (h n : Nat) : Prog := .seq (countUp .clipCount n) (.ask fun s =>
  let line := match s.lineOf h with | some c => c.number | none => 0
  when (!(s.chan n).clipped) (.seq (modChan n fun x => { x with clipped := true })
    (emit .rangeClip (unitHead h) h (u32 n) (u32 line))))

/-! ### Ranges -/

/-- The range a decision on a pixel goes to, if one is taken (R258, R259, R262, R287). -/
def rangeDecision (lim r ped code : Nat) (n : Int) (prev : Option Int) (gainDown : Nat) : Option Nat :=
  let lo := lim % 8
  let hi := bits lim 4 3
  if decide (9 * (65535 - (ped : Int)) < 10 * ((code : Int) - ped)) then (if r < hi then some (r + 1) else none)
  else match prev with
  | none => none
  | some p =>
    let low (x : Int) : Bool := decide (10 * x * gainDown < 4 * (65535 - (ped : Int)) * 524288)
    if lo < r ∧ low n ∧ low p then some (r - 1) else none

/-- The watch converter's sample beside a channel's, with the channel's offset (R273, R274); its disagreements count in the line of the head
that clocks the channel. -/
def watchSample (h n off : Nat) (pedestal : Bool) (d err : Int) (range : Nat) (chanN : Int) : Prog := .ask fun s =>
  let w := s.watch
  let code := adcCode off (s.gainOf n range) d err
  when (w.ch = n) (
    if pedestal then (if w.fixed then .nop else modWatch fun w => { w with peds := (code :: w.peds).take 64 })
    else
      let ped := if w.fixed || w.peds = [] then w.ped.getD (16 * off) else pedMean w.peds
      let bad := decide ((s.rdN .watchTol : Nat) < (linearN code ped (s.gainOf n range) - chanN).natAbs)
      .seq (modWatch fun w => { w with ped := some ped, fixed := true })
        (when bad (modHead h fun r => { r with cur := r.cur.map fun c => { c with watchBad := c.watchBad + 1, watchCh := n } })))

/-- One conversion of channel `n` for the colour row of channel `row` of head `h` (R253, R255 to R268, R288, R289, R291). The
range and its decisions are those of `row`. A marked sample beyond PIXELS, which LINE discards, takes its range decision and counts in
CLIP_COUNT, RANGE_CLIP and the watch comparison like any other (DESIGN CHOICE, log 67). A line without a pixel leaves PED and PED_MEAS at the
values before it, whatever pedestal samples it had (DESIGN CHOICE, log 67). -/
def convert (h row n : Nat) (pedestal pixel : Bool) (d err werr : Int) : Prog := .ask fun s =>
  let ch := s.chan n
  let auto := s.rdN .rangeMode row = 0
  let r := if auto then s.rdN .rangeNow row else s.rdN .rangeFixed row
  let off := s.rdN .offsetDac row
  let code := adcCode off (s.gainOf n r) d err
  if pedestal then .seq
    (when (!ch.fixed) (modChan n fun x => { x with peds := (code :: x.peds).take 64 }))
    (watchSample h n off true d werr r 0)
  else if pixel then
    let ped := if ch.fixed || ch.peds = [] then ch.ped.getD (16 * off) else pedMean ch.peds
    let nv := linearN code ped (s.gainOf n r)
    let clip := decide (code = 0) || decide (code = 65535)
    let main := s.chan row
    let i := main.pixSeen
    let decided := if auto && main.pend.isNone then
        rangeDecision (s.rdN .rangeLimits row) r ped code nv main.prevN (s.gainOf n (r - 1)) else none
    all [ modChan n (fun x => { x with ped := some ped, fixed := true }), wrN .pedMeas n ped,
          modChan row (fun x => { x with prevN := some nv, pixSeen := i + 1, pend := if main.pend.isSome then none else decided }),
          match main.pend with
          | some r' => .seq (wrN .rangeNow row r') (when (row % 2 = 0 && s.rdB .pairEn 0 (row / 2)) (wrN .rangeNow (row + 1) r'))
          | none => .nop,
          takePixel h { colour := row % 3, index := i, code := BitVec.ofNat 16 code, tag := BitVec.ofNat 3 r, clip := clip, n := n24 nv },
          when clip (clipSeen h n),
          watchSample h n off false d werr r nv ]
  else .nop

/-! ### The markers -/

/-- Whether a step clock of the line is the last of a run of steps that carry a marker (R249). -/
def State.runEnds (s : State) (h b clk : Nat) : Bool :=
  bitAt (s.stepWord h (s.stepAt h clk)) b && (decide (s.played h ≤ clk + 1) || !bitAt (s.stepWord h (s.stepAt h (clk + 1))) b)

/-- The levels held after the step clocks before `clk`, given the level at the input at the end of each: RESET_SAMPLE holds the reset level
and VIDEO_SAMPLE the video level, and while CLAMP is set the input lies at the clamp reference, level 0 (R248, R249; DEDUCED, log 42). -/
def heldLevels (s : State) (h clk : Nat) : List (BitVec 32 × Int) → Int × Int → Int × Int
  | [], l => l
  | (t, v) :: ts, (reset, video) =>
    let t := t.toNat
    let v := if bitAt (s.stepWord h (s.stepAt h t)) 24 then 0 else v
    if clk ≤ t then heldLevels s h clk ts (reset, video)
    else heldLevels s h clk ts (if s.runEnds h 25 t then v else reset, if s.runEnds h 26 t then v else video)

/-- ADC_SAMPLE: a conversion of channel `n` started at step clock `clk` of the line. `levels` are the levels at its input, with respect to the
clamp reference, at the end of the step clocks since its last conversion; `direct` is the level at `clk`, which an interleaved pair samples
(R265), taken as it is whatever POLARITY says (DESIGN CHOICE, log 67); `err` and `werr` are the errors of the converter and of the watch
converter in codes. A conversion is of the difference held at the beginning of its step (R250). The turn of a pair whose converter belongs to
a fenced head passes without a sample (R290). -/
def execAdcSample (n : Fin 12) (clk : BitVec 32) (levels : List (BitVec 32 × Int)) (direct err werr : Int) (s : State) :
    Host.Outcome State Fault Refusal :=
  done (live (.ask fun s =>
    let n := n.val
    let p := n / 2
    let paired := s.rdB .pairEn 0 p
    let row := s.rowOfConv n
    let h := row / 3
    let t := clk.toNat
    let at' := (s.head h).lastStart.getD 0 / 10 + t
    let w := s.stepWord h (s.stepAt h t)
    let clamp := bitAt w 24
    let (reset, video) := heldLevels s h t levels ((s.chan n).resetLevel, (s.chan n).videoLevel)
    let diff := if s.rdN .polarity row = 0 then reset - video else video - reset
    let d := if paired then (if clamp then 0 else direct) else diff
    let pr := s.pair p
    let spaced := match (s.chan n).lastClk with | some c => decide (c + 5 ≤ at') | none => true
    let turn := !paired || ((pr.oddTurn == decide (n % 2 = 1)) && (match pr.lastClk with | some c => decide (c + 2 ≤ at') | none => true))
    when (!s.fenced h && s.rdN .videoSrc h = 0 && (s.head h).cur.isSome) (all
      [ modChan n (fun x => { x with resetLevel := reset, videoLevel := video }),
        when (bitAt w 27 && spaced && turn) (all
          [ modChan n (fun x => { x with lastClk := some at' }),
            when paired (modPair p fun x => { x with lastClk := some at', oddTurn := !x.oddTurn }),
            when (!s.fenced (n / 3)) (convert h row n clamp (!clamp && bitAt w 29 && s.lineStarted h t) d err werr) ]) ]))) s

/-! ### Digital lanes -/

def State.laneCount (s : State) (h : Nat) : Nat := s.rdN .lanes h
/-- Whether the lanes of a head are its video source and are listened to (R277). -/
def lanesOf (h : Nat) (p : Prog) : Prog := inIsland h (.ask fun s => when (s.rdN .videoSrc h = 1) p)

/-- What a sync sequence says (code-word table). -/
inductive Sync where
  | start (colour : Nat)
  | stop
  | idle
  | unlisted
deriving DecidableEq, Repr

/-- The sync sequence that four words of W bits are, if they are one: all ones, zero, zero and a code word, whose top four bits identify it
and whose other bits are 0 (R279). -/
def syncOf (bitsW : Nat) (words : List (BitVec 14)) : Option Sync :=
  match words.map fun x => x.toNat % 2 ^ bitsW with
  | [a, b, c, code] =>
    if a = 2 ^ bitsW - 1 ∧ b = 0 ∧ c = 0 then
      some (if code % 2 ^ (bitsW - 4) ≠ 0 then .unlisted
        else match code / 2 ^ (bitsW - 4) with
          | 8 => .start 0 | 9 => .start 1 | 10 => .start 2 | 12 => .stop | 14 => .idle | _ => .unlisted)
    else none
  | _ => none

def State.syncIs (s : State) (h : Nat) (words : List (BitVec 14)) (x : Sync) : Bool := syncOf (s.rdN .wordBits h) words = some x

/-- LANE_PIXEL_WORD on lane `l` (R280, R282, R284). A word of all ones begins a sync sequence and is no pixel (R279, R282). -/
def execLanePixelWord (h : Fin 4) (l : Fin 8) (word : BitVec 14) (s : State) : Host.Outcome State Fault Refusal :=
  done (lanesOf h (.ask fun s =>
    let r := s.lane h
    let bitsW := s.rdN .wordBits h
    let w := word.toNat % 2 ^ bitsW
    let i := r.posn.getD l 0 * s.laneCount h + l
    match r.colour with
    | none => .nop
    | some c => when (!r.discard && decide (l < s.laneCount h) && decide (w ≠ 2 ^ bitsW - 1)) (.seq
        (modLane h fun r => { r with posn := r.posn.set l (r.posn.getD l 0 + 1) })
        (if decide (l.val ∈ r.dead) then takePixel h { colour := c, index := i }
         else
           let clip := decide (w = 2 ^ bitsW - 2)
           .seq (takePixel h { colour := c, index := i, code := BitVec.ofNat 16 w, tag := 7, clip := clip, n := BitVec.ofNat 24 (w * 2 ^ (23 - bitsW)) })
             (when (clip && decide (i < s.rdN .pixels h)) (clipSeen h (3 * h + c))))))) s

/-- LANE_START_OF_LINE: the sync sequence `words` of a colour, with the skew of each lane in words (R279, R281, R283, R284). -/
def execLaneStartOfLine (h : Fin 4) (words : List (BitVec 14)) (skews : List Int) (s : State) : Host.Outcome State Fault Refusal :=
  done (lanesOf h (.ask fun s => match syncOf (s.rdN .wordBits h) words with
    | some (.start c) =>
      let r := s.lane h
      let open' := (s.lineOf h).isSome && !(decide (c ∈ r.opened))
      let skewed := (List.range (s.laneCount h)).filter (fun l => decide (4 < (skews.getD l 0).natAbs) && !(decide (l ∈ r.dead)))
      all [ modLane h (fun r => { r with colour := if open' then some c else none, discard := !open',
                                         opened := if open' then c :: r.opened else r.opened,
                                         posn := [0, 0, 0, 0, 0, 0, 0, 0], dead := r.dead ++ skewed }),
            each skewed (fun l => .ask fun s => .seq
              (wrN .laneState h (s.rdN .laneState h &&& (65535 - 2 ^ l)))
              (emit .laneSkew (unitHead h) h (pack [(8, h.val), (8, l)]))) ]
    | _ => .nop)) s

/-- LANE_END_OF_LINE: the sync sequence `words` of the end of line (R279, R280). -/
def execLaneEndOfLine (h : Fin 4) (words : List (BitVec 14)) (s : State) : Host.Outcome State Fault Refusal :=
  done (lanesOf h (.ask fun s => when (s.syncIs h words .stop) (modLane h fun r => { r with colour := none, discard := true }))) s

/-- LANE_IDLE_SEQUENCE: the sync sequence `words` of idle on lane `l` (R279, R283, R284). -/
def execLaneIdleSequence (h : Fin 4) (l : Fin 8) (words : List (BitVec 14)) (s : State) : Host.Outcome State Fault Refusal :=
  done (lanesOf h (.ask fun s => when (decide (l < s.laneCount h) && s.syncIs h words .idle)
    (wrN .laneState h (s.rdN .laneState h ||| 2 ^ l.val)))) s

/-- LANE_UNLISTED_CODE: a sync sequence `words` of another code word on lane `l` (R279, R285). -/
def execLaneUnlistedCode (h : Fin 4) (l : Fin 8) (words : List (BitVec 14)) (s : State) : Host.Outcome State Fault Refusal :=
  done (lanesOf h (.ask fun s => when (decide (l < s.laneCount h) && s.syncIs h words .unlisted) (all
    [ countUp .syncErrors h, modLane h (fun r => { r with discard := true }),
      headOnce h .laneSyncError h (pack [(8, h.val), (8, l.val)]) ]))) s

/-- LANE_ALIGNMENT_LOST on lane `l` (R284). -/
def execLaneAlignmentLost (h : Fin 4) (l : Fin 8) (s : State) : Host.Outcome State Fault Refusal :=
  done (lanesOf h (.ask fun s => when (decide (l < s.laneCount h) && bitAt (s.rdN .laneState h) l) (all
    [ wrN .laneState h (s.rdN .laneState h &&& (65535 - 2 ^ l.val)),
      modLane h (fun r => { r with dead := l.val :: r.dead }),
      emit .laneSyncLost (unitHead h) h (pack [(8, h.val), (8, l.val)]) ]))) s

/-! ### Writes of front-end entries -/

def feValue (s : State) (n : Name) (j i : Nat) (w : U32) : Status :=
  let v := w.toNat
  match n with
  | .polarity | .rangeMode => oneOf [0, 1] v
  | .offsetDac => inRange 0 4095 v
  | .rangeFixed => within 0 7 v
  | .rangeLimits => need (decide (v % 8 ≤ bits v 4 3)) .range
  | .rangeStart => oneOf [0, 1, 2, 3, 4, 5, 6, 7, 0xFF] v
  | .pairEn => need (!(v = 1 && s.rdN .videoSrc (2 * i / 3) = 1)) .range
  | .pairSkew => inRange 0 7 v
  | .watchCh => need (decide (v ≤ 11) || decide (v = 0xFE) || decide (v = 0xFF)) .range
  | .videoSrc => firstBad [oneOf [0, 1] v,
      need (!(v = 1 && (List.range 6).any (fun p => decide (2 * p / 3 = j) && s.rdB .pairEn 0 p))) .range]
  | .laneStd => oneOf [0, 1] v
  | .lanes => oneOf [1, 2, 4, 8] v
  | .wordBits => oneOf [10, 12, 14] v
  | .laneRate => within 200 1500 v
  | _ => .ok

/-- A write of RANGE_MODE or RANGE_FIXED puts a fixed range in force, which RANGE_NOW reads (R257); the odd converter of a pair takes the
range of the even one (R268). -/
def feEffect (n : Name) (j : Nat) (_w : U32) : Prog :=
  match n with
  | .rangeMode | .rangeFixed => .ask fun s => when (s.rdN .rangeMode j ≠ 0) (each ((List.range 12).filter fun k => s.rowOfConv k = j) fun k =>
      wrN .rangeNow k (s.rdN .rangeFixed j))
  | _ => .nop

/-- The second head whose claim and epoch a PAIR_EN write concerns (R286). -/
def pairSecondUnit (i : Nat) : Nat := unitHead ((2 * i + 1) / 3)

end Sys2Proof.Machine
end

