-- ==== Sys2Proof/Machine/Paths.lean ====
section
/-! DEFINITION. The paths: level grants, claims and what clears them (*Levels and the level key*, *Claims*). -/
namespace Sys2Proof.Machine

open Prog

def State.granted (s : State) (p : Path) : Bool := bitAt (s.rdN .levelGranted) p.num
def State.holderOf (s : State) (u : Nat) : Nat := s.rdN .claim 0 (u - 1)

/-- A change of a path's grant (R72, R75). -/
def setGrant (p : Path) (on : Bool) : Prog := .ask fun s =>
  when (s.granted p != on && p ≠ .p6) (.seq
    (wrN .levelGranted 0 (if on then s.rdN .levelGranted + 2 ^ p.num else s.rdN .levelGranted - 2 ^ p.num))
    (emitBy p .levelChanged 0 islHost (pack [(8, p.num), (8, bit01 on)])))

/-- A unit's claim takes a value (R86, R95, R905). `c` is the write, `none` where no write releases it. -/
def setClaim (c : Option Ctx) (u v who : Nat) : Prog := all
  [ wri .claim 0 (u - 1) (u32 v), bump u,
    match c with | some c => journalWrite c { name := .claim, item := u - 1 } u 2 (u32 v) | none => .nop,
    emitBy (match c with | some c => c.path | none => .p6) .claimChanged u islHost (pack [(8, u), (8, who)]) ]

/-- The events of R73 on a path: its grant is cleared, its claims are released, its host sequence restarts (R73, R93, R142). -/
def pathReset (p : Path) : Prog := .ask fun s => all
  [ setGrant p false,
    each (List.range 0x38) (fun k => when (s.holderOf (k + 1) = p.num) (setClaim none (k + 1) 0xFF p.num)),
    wri .lastHostSeq 0 p.num 0xFFFF,
    emit .seqReset 0 islHost (u32 p.num) ]

end Sys2Proof.Machine
end

