-- ==== Sys2Proof/Machine/LinkOut.lean ====
section
/-! DEFINITION. What LINK sends: bursts, their sequences and their replay, and the records of the heads and of the collector
(*Line transfer and replay*, *The collector*). The layout of a SEAM payload is the
model's (UNVERIFIED, log 32). -/
namespace Sys2Proof.Machine

open Prog

/-! ### Members -/

def kLineA : Nat := 0
def kLineB : Nat := 1
def kSeam : Nat := 2
def kFwd : Nat := 3
def kFwdRet : Nat := 4
def kCtrl : Nat := 5

/-- Member states. -/
def msUnenumerated : Nat := 0
def msActive : Nat := 1
def msRepeat : Nat := 2
def msJoining : Nat := 3

def State.self (s : State) : Nat := s.rdN .member
def State.isRoot (s : State) : Bool := s.rdB .isRoot
def State.memberState (s : State) : Nat := s.rdN .memberState
/-- A member as this one knows it: numbered at the last enumeration and not reported absent. -/
def State.memberActive (s : State) (m : Nat) : Bool :=
  decide (m < s.rdN .ringSize) && !(decide (m ∈ s.link.absent)) && (m ≠ s.self || s.memberState = msActive)

/-- The port that LINK transmits on: EAST, or WEST where the ring has wrapped at EAST (R773). -/
def State.outPort (s : State) : Nat := if s.rdN .portState 0 = 2 || s.rdN .linkRingState ≠ 1 then 0 else 1

/-! ### Bursts -/

/-- A burst without its trailer (link header table). -/
def burstBody (seq kind src dst head line wrapped : Nat) (payload : List Byte) : List Byte :=
  leBytes 2 seq ++ leBytes 1 kind ++ leBytes 1 src ++ leBytes 1 dst ++ leBytes 1 head ++ leBytes 2 (payload.length / 8)
    ++ leBytes 4 line ++ leBytes 1 wrapped ++ [0, 0, 0] ++ payload

/-- With the trailer block (R759). -/
def withTrailer (body : List Byte) : List Byte := body ++ leBytes 4 (crc32 body).toNat ++ [0, 0, 0, 0]

/-- Whole blocks of 8 bytes. -/
def padTo (n : Nat) (l : List Byte) : List Byte := l ++ List.replicate ((n - l.length % n) % n) 0

/-- The replay window and header log after one more burst (R763). -/
def logTrim : Nat → List Sent → List Sent
  | _, [] => []
  | used, x :: xs =>
    (if used + x.size ≤ 65536 then x else { x with bytes := x.bytes.take 80 }) :: logTrim (used + x.size) xs
def logPush (l : List Sent) (x : Sent) : List Sent := logTrim 0 ((x :: l).take 4096)

/-- The fill of a repeater FIFO now: it drains at 200/33 bytes a nanosecond while LINK inserts nothing (R749). -/
def State.fifoNow (s : State) (d : Nat) : Nat :=
  let from' := max s.link.fillAt (min s.link.busyUntil s.time.toNat)
  s.link.fill.getD d 0 - (s.time.toNat - from') * 50 / 33

/-- A burst leaves on a port; the insertion holds the through traffic back (R749). -/
def transmit (port : Nat) (x : Sent) : Prog := .ask fun s => all
  [ output (.link port (.burst x.bytes)),
    .op (.link { s.link with
      fill := [s.fifoNow 0, s.fifoNow 1], fillAt := s.time.toNat,
      busyUntil := max s.time.toNat s.link.busyUntil + x.size * 33 / 50,
      logE := if port = 0 then logPush s.link.logE x else s.link.logE,
      logW := if port = 0 then s.link.logW else logPush s.link.logW x }) ]

/-- A burst to a destination, 0xFF for a broadcast, takes its sequence and leaves (R761). -/
def insertBurst (kind dst head line : Nat) (payload : List Byte) : Prog := .ask fun s =>
  let key := if dst = 0xFF then 256 else dst
  let q := Store.get 0 s.link.nextSeq key
  let port := s.outPort
  let bytes := withTrailer (burstBody q kind s.self dst head line (if port = 0 then 0 else 1) (padTo 8 payload))
  .seq (modLink fun l => { l with nextSeq := Store.put 0 l.nextSeq key ((q + 1) % 65536) })
    (transmit port { dst := key, seq := q, size := bytes.length, bytes := bytes })

/-- A burst is sent again: whole where it lies in the window of the port that sent it, else as a VOID burst of the header log
(R764). -/
def resendOne (key q : Nat) : Prog := .ask fun s =>
  let port := s.outPort
  let is (x : Sent) : Bool := x.dst = key && x.seq = q
  match (s.link.logE ++ s.link.logW).find? is with
  | none => .nop
  | some x =>
    if x.bytes.length = x.size then .seq (countUp .replays port) (transmit port x)
    else
      let p := (x.bytes.drop 16).take 64
      let kind := (x.bytes.getD 2 0).toNat % 128 + 128
      let body := x.bytes.take 2 ++ leBytes 1 kind ++ (x.bytes.drop 3).take 3 ++ leBytes 2 (p.length / 8)
        ++ (x.bytes.drop 8).take 8 ++ p
      let bytes := withTrailer body
      .seq (countUp .voids port) (transmit port { dst := key, seq := q, size := bytes.length, bytes := bytes })

/-- Whether LINK may start an insertion: it runs, and the FIFO of its direction holds less than 64 KiB (R749). -/
def State.mayInsert (s : State) : Bool := !s.fenced islLink && decide (s.fifoNow s.outPort < 65536)

/-- What waits is inserted in its order, while LINK may. It waits on until LINK next sends, a through burst passes, or an exchange of ALIGN
frames comes (DESIGN CHOICE, log 71). -/
def insertSome : Nat → Prog
  | 0 => .nop
  | n + 1 => .ask fun s => match s.link.waiting with
    | [] => .nop
    | x :: xs => when s.mayInsert (all
      [ modLink (fun l => { l with waiting := xs }),
        match x.again with
        | some q => resendOne x.dst q
        | none => insertBurst x.kind x.dst x.head x.line x.payload,
        insertSome n ])
def insertWaiting : Prog := .ask fun s => insertSome s.link.waiting.length

/-- LINK sends a burst to a destination (R749, R761). -/
def sendBurst (kind dst head line : Nat) (payload : List Byte) : Prog :=
  .seq (modLink fun l => { l with waiting := l.waiting ++ [{ kind := kind, dst := dst, head := head, line := line, payload := payload }] })
    insertWaiting

/-- Every burst sent to a destination from a sequence on is sent again, in order, before any new burst (R764). -/
def resendFrom (key q : Nat) : Prog := .ask fun s =>
  let n := (Store.get 0 s.link.nextSeq key + 65536 - q) % 65536
  .seq (modLink fun l => { l with
      waiting := (List.range n).map (fun k => { dst := key, again := some ((q + k) % 65536) })
        ++ l.waiting.filter fun x => !(x.again.isSome && x.dst = key) })
    insertWaiting

/-! ### Records -/

/-- A record is counted in UNDELIVERED; LINK_UNDELIVERED is produced once per episode (R771). -/
def undeliver : Prog := .ask fun s => .seq (countUp .undelivered 0)
  (when (!s.link.undelivered) (all
    [ modLink (fun l => { l with undelivered := true }),
      .op .free, emit .linkUndelivered 0 islLink (u32 (s.freeBelow 256)) ]))

/-- A record reaches COLLECT_STREAM (R767, R768, R771). -/
def collect (rec : List Byte) : Prog := .ask fun s =>
  let k := s.rdN .collectStream
  if 7 < k || s.rdN .streamState k = 0 then undeliver
  else .seq (modLink fun l => { l with undelivered := false }) (modStream k fun x => { x with coming := x.coming ++ [rec] })

/-- The joining member becomes ACTIVE at line N (R790, R791). -/
def joinNow (n : Nat) : Prog := .ask fun s => all
  [ wrN .memberState 0 msActive, wr .repeatCause 0 0, modLink (fun l => { l with grant := none }),
    emit .memberAdmitted 0 islLink (u32 s.self) (u32 n) ]

/-- Line `n` of a joining member has come: it is ACTIVE from its admission line on, whatever its records' route (R791). Line numbers wrap. -/
def joinCheck (number : Nat) : Prog := .ask fun s => match s.link.grant with
  | some n => when (s.memberState = msJoining && decide ((number + 4294967296 - n) % 4294967296 < 2147483648)) (joinNow n)
  | none => .nop

/-- What a mode lets LINE deliver: KIND 1 and 2 in CALIBRATE, everything in SCAN, nothing else (mode table, R36); a Heath record (KIND 4) is
no line record. -/
def Mode.delivers (m : Mode) (kind : Nat) : Bool :=
  match m with
  | .scan => true
  | .calibrate => decide (kind ∈ [1, 2, 4])
  | _ => kind = 4

/-- KIND of a record. -/
def recordKind (r : List Byte) : Nat := (r.getD 19 0).toNat

/-- A record of a head crosses the Link, or enters COLLECT_STREAM of this member (R760, R767, R771, R788, R791, R796). What the mode does not
let out counts in UNDELIVERED (R36; DESIGN CHOICE, log 68). -/
def linkRecord (h number : Nat) (rec : List Byte) : Prog := .seq (joinCheck number)
  (.ask fun s =>
    let c := s.rdN .collector
    if s.memberState ≠ msActive || s.fenced islLink || !s.modes.mode.delivers (recordKind rec) then undeliver
    else if c = s.self then collect rec
    else if !s.memberActive c then undeliver
    else
      let units := rec.length / 64 - 1
      let a := (units + 1) / 2
      let hdr := rec.take 64
      all [ modLink (fun l => { l with undelivered := false }),
            sendBurst kLineA c h number (hdr ++ (rec.drop 64).take (64 * a)),
            sendBurst kLineB c h number (hdr ++ rec.drop (64 + 64 * a)) ])

/-- The payload of a SEAM burst: S, the partner's side, and the three colours. -/
def seamPayload (right : Bool) (d : SeamData) : List Byte :=
  leBytes 2 d.size ++ leBytes 1 (bit01 right) ++ [0, 0, 0, 0, 0] ++ d.rows.flatMap (fun r => r.flatMap (leBytes 2))

/-- Overlap pixels of a DROP side go to its partner (R332, R787, R788). -/
def sendSeam (h partner : Nat) (right : Bool) (d : SeamData) : Prog := .ask fun s =>
  if partner = 0xFFFF then .nop
  else if bitAt partner 15 then
    let m := bits partner 8 7
    if m = s.self then modLineUnit (partner % 4) fun u => { u with seamIn := u.seamIn ++ [(right, d)] }
    else when (s.memberState = msActive && !s.fenced islLink) (sendBurst kSeam m h d.line (seamPayload right d))
  else modLineUnit (partner % 4) fun u => { u with seamIn := u.seamIn ++ [(right, d)] }

end Sys2Proof.Machine
end

