-- ==== Sys2Proof/Machine/Line.lean ====
section
/-! DEFINITION. LINE: the pipeline, calibration, temperatures, covers, seams, records and provenance pages (*Line processing and
calibration*). -/
namespace Sys2Proof.Machine

open Prog

/-! ### The calibration bank -/

/-- Whether CAL_BANK is owned by the LINE master of head h. -/
def State.calOwned (s : State) (h : Nat) : Bool := s.lineOwns h (s.rdN .calBank h)
def State.calAddr (s : State) (h off : Nat) : Nat := bankBase (s.rdN .calBank h) + off

/-- Two's complement of 16 and of 32 bits. -/
def sign16 (x : Nat) : Int := if x < 0x8000 then x else (x : Int) - 0x10000
def sign64 (x : Nat) : Int := if x < 0x8000000000000000 then x else (x : Int) - 0x10000000000000000
def sign32 (x : Nat) : Int := if x < 0x80000000 then x else (x : Int) - 0x100000000

/-- O_i, G_i, the coefficients of a segment and the defect mark (R297 to R299). -/
def State.tabDark (s : State) (h c i : Nat) : Int := sign16 (s.wordAt (s.calAddr h (0x10000 * c + 2 * i)) 2)
def State.tabGain (s : State) (h c i : Nat) : Nat := s.wordAt (s.calAddr h (0x30000 + 0x10000 * c + 2 * i)) 2
def State.tabCoef (s : State) (h c seg : Nat) : Int × Int :=
  let a := s.calAddr h (0x60000 + 4 * (512 * c + seg))
  (sign16 (s.wordAt a 2), sign16 (s.wordAt (a + 2) 2))
def State.tabDefect (s : State) (h c i : Nat) : Bool :=
  bitAt (s.byteAt (s.calAddr h (0x62000 + 4096 * c + i / 8))).toNat (i % 8)

/-- The offsets of the accumulators of the dark and of the white capture. -/
def accBase (white : Bool) : Nat := if white then 0xE0000 else 0x80000
def accSize : Nat := 0x60000
def accOff (white : Bool) (c i : Nat) : Nat := accBase white + 4 * (32768 * c + i)
def State.acc (s : State) (h : Nat) (white : Bool) (c i : Nat) : Int :=
  if s.calOwned h then sign32 (s.wordAt (s.calAddr h (accOff white c i)) 4) else 0

/-! ### Stages 1 to 4 -/

/-- Saturation to 0 to 65,535. -/
def sat16 (z : Int) : Nat := (clampZ 0 65535 z).toNat

/-- X of a colour row: the scaled samples received, 0 elsewhere (stage 1). -/
def rowX (c : LineCap) (colour pixels : Nat) : List (Option Int) :=
  (List.range pixels).map fun i => (c.pix.find? (fun p => p.colour = colour ∧ p.index = i)).map fun p => p.n.toInt / 128

/-- F of a segment (R314 to R316). -/
def State.factor (s : State) (h colour seg : Nat) (temp : U32) : Rat :=
  if 63 < s.rdN .lineTempSrc h then 1 else
  let dt := realRat temp - realRat (s.rd .tCal h)
  let (a, b) := s.tabCoef h colour seg
  let f := 1 + mkRat a 1048576 * dt + mkRat b 67108864 * dt * dt
  let lim := mkRat (s.rdN .fLimit h) 1024
  if f < 1 - lim then 1 - lim else if 1 + lim < f then 1 + lim else f

/-- Y of a pixel (R293, R294, R302). -/
def State.correct (s : State) (h colour i : Nat) (temp : U32) (x : Int) : Nat :=
  let mode := if s.calOwned h then s.rdN .corrMode h else 0
  if mode = 0 then sat16 x
  else if mode = 1 then sat16 (x - s.tabDark h colour i)
  else sat16 (roundRat ((x - s.tabDark h colour i : Int) * (s.tabGain h colour i : Int) * s.factor h colour (i / 64) temp / 16384))

/-- The nearest non-defective pixel within 4 on a side (R313). -/
def goodNear (bad : Nat → Bool) (row : List Nat) (idx : List Nat) : Option Nat :=
  (idx.find? fun j => decide (j < row.length) && !bad j).map fun j => row.getD j 0

/-- Stage 4 on a colour row; `prev` is the row of the line before (R313). -/
def defectRow (bad : Nat → Bool) (prev row : List Nat) (received : Nat → Bool) : List Nat :=
  (List.range row.length).map fun i =>
    if bad i && received i then
      let l := goodNear bad row (((List.range 4).filter (fun k => k + 1 ≤ i)).map fun k => i - (k + 1))
      let r := goodNear bad row ((List.range 4).map fun k => i + (k + 1))
      match l, r with
      | some a, some b => (roundDiv (a + b : Nat) 2).toNat
      | some a, none => a
      | none, some b => b
      | none, none => prev.getD i 0
    else row.getD i 0

/-- A colour row after stages 1 to 4 (R339: on the pixels received). -/
def State.rowY (s : State) (h colour : Nat) (cap : LineCap) : List Nat :=
  let xs := rowX cap colour (s.rdN .pixels h)
  let ys := (List.range xs.length).map fun i => match xs.getD i none with | some x => s.correct h colour i cap.temp x | none => 0
  if s.calOwned h && s.rdB .defectEn h then
    defectRow (s.tabDefect h colour) ((s.lineUnit h).lastPix.getD colour []) ys (fun i => (xs.getD i none).isSome)
  else ys

/-! ### Stages 5 to 7 -/

/-- The delay in lines of the three rows (R319). -/
def State.regDelays (s : State) (h : Nat) : List Nat :=
  let r := bits (s.rdN .lineSep h) 0 8
  let b := bits (s.rdN .lineSep h) 8 8
  match s.rdN .regOrder h with
  | 0 => [r + b, b, 0]
  | 1 => [0, r, r + b]
  | _ => [0, 0, 0]

def rowBad (flags : Nat) : Bool := bitAt flags 0 || bitAt flags 1

/-- The three rows of a record and its registration flags (R319, R320, R322, R347). -/
def State.register (s : State) (h : Nat) (number : Nat) (rows : List (List Nat)) : List (List Nat) × Nat :=
  let u := s.lineUnit h
  if s.rdN .regOrder h = 2 then (rows, 0)
  else if u.regOff then (rows, 0x40000)
  else
    let pick (c : Nat) : Option (List Nat) :=
      let d := (s.regDelays h).getD c 0
      if d = 0 then rows[c]?
      else match u.rows.find? fun x => x.number = (number + 4294967296 - d) % 4294967296 with
        | some x => if x.good then x.rows[c]? else none
        | none => none
    ((List.range 3).map fun c => (pick c).getD (List.replicate (s.rdN .pixels h) 0),
     if (List.range 3).any (fun c => (pick c).isNone) then 0x20000 else 0)

/-- Rounded means of neighbouring pixels (R324). -/
def averageRow (avg : Nat) (row : List Nat) : List Nat :=
  (List.range (row.length / avg)).map fun j =>
    (roundDiv (((row.drop (avg * j)).take avg).foldl (· + ·) 0 : Nat) avg).toNat

/-- Starts of runs of 8 pixels past the threshold (R325). -/
def edgeRuns (thresh : Nat) (dark : Bool) (row : List Nat) : List Nat :=
  (List.range (row.length - 7)).filter fun i =>
    ((row.drop i).take 8).all fun x => if dark then decide (x < thresh) else decide (thresh < x)

/-- LEFT_EDGE and RIGHT_EDGE of a row (R325). -/
def edgesOf (thresh : Nat) (dark : Bool) (row : List Nat) : Option (Nat × Nat) :=
  if thresh = 0 then none else
  let l := edgeRuns thresh dark row
  match l.head?, l.getLast? with
  | some a, some b => some (a, b + 7)
  | _, _ => none

/-- The least-squares slope of edge position against line number (R327). -/
def slope (pts : List (Nat × Nat)) : Rat :=
  let n : Int := pts.length
  let sx : Int := pts.foldl (fun a p => a + p.1) 0
  let sy : Int := pts.foldl (fun a p => a + p.2) 0
  let sxx : Int := pts.foldl (fun a p => a + p.1 * p.1) 0
  let sxy : Int := pts.foldl (fun a p => a + p.1 * p.2) 0
  let d := n * sxx - sx * sx
  if d = 0 then 0 else (n * sxy - sx * sy : Int) / (d : Rat)

/-- The colours of a head whose row is COLOUR_OFF (R269). -/
def State.colourOff (s : State) (h c : Nat) : Bool :=
  let n := 3 * h + c
  n % 2 = 1 && s.rdB .pairEn 0 (n / 2) && s.rdN .videoSrc h = 0

/-! ### Stage 8 -/

/-- What a side's seam does to a line. `own` says whether SEAM_PARTNER_LATE follows, as on every SEAM_OWN record but those of a partner whose
member is not ACTIVE (R334, R787), and whether SEAM_MISMATCH does. -/
inductive SeamAct where
  | nothing | blend (d : SeamData) | own (late mismatch : Bool) | wait
deriving DecidableEq, Repr

/-- The decision of a BLEND side for its line `n` (R331, R334, R335, R350, R787). -/
def State.seamAct (s : State) (h : Nat) (right : Bool) (n : Nat) : SeamAct :=
  let (role, size, partner, offset) := s.seamOf h right
  let u := s.lineUnit h
  if role ≠ 1 || u.seamOff then .nothing
  else
    let want := (n + 4294967296 - offset) % 4294967296
    let remote := bitAt partner 15 && decide (bits partner 8 7 ≠ s.self)
    let m := bits partner 8 7
    let joined := match Store.get none s.link.joins m with | some k => decide (k ≤ n) | none => true
    if partner ≠ 0xFFFF && remote && !(s.memberActive m && joined) then .own false false
    else if partner ≠ 0xFFFF && !remote && (s.seamOf (partner % 4) (!right)).1 = 1 then .own true true
    else match (if right then u.seamR else u.seamL).find? fun d => d.line = want with
      | some d => if d.size = size then .blend d else .own true true
      | none => if u.seamGiveUp then .own true false else .wait

/-- A blended row of one side (R333). -/
def blendRow (right : Bool) (size : Nat) (row partner : List Nat) : List Nat :=
  (List.range row.length).map fun i =>
    let k := if right then i + size - row.length else i
    let mine := if right then decide (row.length ≤ i + size) else decide (i < size)
    if mine then
      let j := if right then k else size - 1 - k
      (roundDiv (row.getD i 0 * (size - j) + partner.getD k 0 * (j + 1) : Nat) (size + 1)).toNat
    else row.getD i 0

/-! ### Stage 9 -/

/-- Fields of a record's header (line record header table). -/
structure Header where
  time : Nat
  number : Nat
  epoch : Nat
  kind : Nat
  flags : Nat
  rulingL : Int := 0
  pixels : Nat := 0
  exp : List Nat := [0, 0, 0]
  edges : Option (Nat × Nat) := none
  calId : Nat
  temp : U32 := 0
  clip : Nat := 0
  avg : Nat := 1
  page : Nat
deriving DecidableEq, Repr

/-- A record: header and payload, padded to 64 bytes (R337). -/
def recordOf (h member : Nat) (x : Header) (payload : List Byte) : List Byte :=
  let e := x.edges.getD (0xFFFF, 0xFFFF)
  let units := (64 + payload.length + 63) / 64
  padTo 64 (leBytes 4 0 ++ leBytes 8 x.time ++ leBytes 4 x.number ++ leBytes 2 x.epoch ++ leBytes 1 h ++ leBytes 1 x.kind
    ++ leBytes 4 x.flags ++ leBytes 4 (x.rulingL % 4294967296).toNat ++ leBytes 2 x.pixels ++ leBytes 2 units
    ++ leBytes 4 (x.exp.getD 0 0) ++ leBytes 4 (x.exp.getD 1 0) ++ leBytes 4 (x.exp.getD 2 0)
    ++ leBytes 2 e.1 ++ leBytes 2 e.2 ++ leBytes 4 x.calId ++ leBytes 4 x.temp.toNat ++ leBytes 2 x.clip ++ leBytes 1 member
    ++ leBytes 1 x.avg ++ leBytes 4 x.page ++ payload)

def planes (rows : List (List Nat)) : List Byte := rows.flatMap fun r => r.flatMap (leBytes 2)

/-- A record leaves on the head's ROUTE (R336). -/
def route (h number : Nat) (rec : List Byte) : Prog := .ask fun s =>
  let r := s.rdN .lineRoute h
  if r = 0x10 then linkRecord h number rec else modStream r fun x => { x with coming := x.coming ++ [rec] }

/-! ### Pages -/

/-- The device key (*Memory banks, Blotter and the secure bank*). -/
def State.deviceKey (s : State) : Option (List Byte) :=
  if s.rdN .keyState = 1 then some (s.bytesAt secureBase 32) else none

/-- A page opens with a scan record (R340, R341). -/
def openPage (h : Nat) (c : LineCap) : Prog := .ask fun s =>
  when (s.rdB .tagEn h && (s.lineUnit h).page.isNone) (all
    [ wrN .page h ((s.rdN .page h + 1) % 4294967296),
      .op (.pageOpen h c.start),
      modLineUnit h fun u => { u with page := some { first := c.number, firstTime := c.start } } ])

/-- The prefix P (R342). -/
def State.pagePrefix (s : State) (h : Nat) (p : Page) (close : Nat) : List Byte :=
  leBytes 4 (s.rdN .identity 0 3) ++ leBytes 1 h ++ leBytes 1 s.self ++ [0, 0] ++ leBytes 4 (s.rdN .page h)
    ++ leBytes 4 (s.rdN .calId) ++ leBytes 4 (s.rdN .calCrc h) ++ leBytes 4 p.first ++ leBytes 4 p.last ++ leBytes 4 p.count
    ++ leBytes 8 p.firstTime ++ leBytes 8 close ++ List.replicate 16 0

/-- The open page closes at a time: its TAG record follows its last record (R340 to R343). -/
def pageClosed (h close : Nat) : Prog := .ask fun s => match (s.lineUnit h).page with
  | none => .nop
  | some p =>
    let pre := s.pagePrefix h p close
    let ents := ((Store.get none s.rep.pages h).getD []).filter fun e => decide (p.firstTime ≤ e.time.toNat ∧ e.time.toNat ≤ close)
    let hj := sha256 (ents.reverse.flatMap JEntry.bytes)
    let hl := p.sha.digest
    let tag := match s.deviceKey with | some k => hmac256 k (pre ++ hl ++ hj) | none => List.replicate 32 0
    let n := s.rdN .pageLines h
    let flags := (if s.deviceKey.isNone then 0x1000000 else 0) ||| (if n ≠ 0 ∧ p.count < n then 0x2000000 else 0)
    let x : Header := { time := close, number := p.last, epoch := s.epochOf (unitHead h), kind := 3, flags := flags,
                        calId := s.rdN .calId, temp := s.rd .tempNow h, avg := s.rdN .avg h, page := s.rdN .page h }
    all [ modLineUnit h (fun u => { u with page := none }), .op (.pageClose h),
          when s.deviceKey.isNone (emit .tagKeyAbsent (unitHead h) islLine (u32 h) (s.rd .page h)),
          route h p.last (recordOf h s.self x (pre ++ hl ++ hj ++ tag)) ]

/-- A scan record enters its page, which closes after its PAGE_LINES-th record (R340, R341). -/
def intoPage (h : Nat) (c : LineCap) (rec : List Byte) : Prog := .ask fun s => match (s.lineUnit h).page with
  | none => .nop
  | some p => modLineUnit h fun u => { u with page := some { p with sha := p.sha.add rec, last := c.number, count := p.count + 1 } }
def pageFull (h : Nat) : Prog := .ask fun s => match (s.lineUnit h).page with
  | none => .nop
  | some p => when (s.rdN .pageLines h ≠ 0 && decide (s.rdN .pageLines h ≤ p.count)) (.seq (pageClosed h (s.stamp islLine).toNat) (.op .free))

/-! ### Records -/

/-- Flags and events that the captured line brings to its record (R269, R274, R302, R318, R338). -/
def State.capFlags (s : State) (h : Nat) (c : LineCap) : Nat :=
  c.flags ||| (if s.colourOff h 0 then 0x100 else 0) ||| (if s.colourOff h 1 then 0x200 else 0)
    ||| (if s.colourOff h 2 then 0x400 else 0) ||| (if c.clip = 0 then 0 else 0x800000)
    ||| (if s.rdN .watchLimit < c.watchBad then flWatch else 0)

def capEvents (h : Nat) (c : LineCap) : Prog := .ask fun s => all
  [ when (bitAt c.flags 7) (headOnce h .tempStale islLine (u32 h)),
    when (decide (s.rdN .watchLimit < c.watchBad)) (.seq (countUp .watchFails 0)
      (headOnce h .watchMismatch islLine (pack [(8, c.watchCh), (16, c.watchBad)]))) ]

/-- A line of a capture: its X joins the accumulators, and its DARK or WHITE record carries X (R306). -/
def emitCapture (h : Nat) (c : LineCap) : Prog := .ask fun s =>
  let white := c.kind = 2
  let pix := s.rdN .pixels h
  let addRow (k : Nat) : Prog := each (List.range pix) fun i => match (rowX c k pix).getD i none with
    | none => .nop
    | some x => .ask fun s => .op (.bytes (s.calAddr h (accOff white k i)) (leBytes 4 ((s.acc h white k i + x) % 4294967296).toNat))
  let rows := (List.range 3).map fun k => (rowX c k pix).map fun x => sat16 (x.getD 0)
  let x : Header := { time := c.start, number := c.number, epoch := c.epoch, kind := c.kind, flags := s.capFlags h c,
                      rulingL := c.rulingL, pixels := pix, exp := c.exp, calId := 0, temp := c.temp, clip := c.clip,
                      page := s.rdN .page h }
  all [ when (s.calOwned h) (each (List.range 3) addRow),
        modLineUnit h (fun u => { u with capLeft := u.capLeft - 1, tSum := if white then c.temp :: u.tSum else u.tSum }),
        capEvents h c,
        route h c.number (recordOf h s.self x (planes rows)) ]

/-- Edges, skew and the leading edge of a line (R325 to R327). -/
def edgeStage (h : Nat) (c : LineCap) (e : Option (Nat × Nat)) : Prog := match e with
  | none => .nop
  | some (l, _) => .ask fun s =>
    let n := s.rdN .skewLines h
    let pts := ((c.number, l) :: (s.lineUnit h).edges).take n
    all [ modLineUnit h (fun u => { u with edges := pts }),
          wr .skew h (if pts.length < n then 0 else ratReal (slope pts)),
          when (!(decide (Event.leadEdge ∈ (s.head h).once))) (wrN .leadLine h c.number),
          headOnce h .leadEdge islLine (u32 h) (u32 c.number) ]

/-- A scan line becomes its record (R293 to R339). -/
def emitScan (h : Nat) (c : LineCap) : Prog := .ask fun s =>
  let ys := (List.range 3).map fun k => s.rowY h k c
  let (reg, regFlags) := s.register h c.number ys
  let rows := reg.map (averageRow (s.rdN .avg h))
  let dl := if (s.lineUnit h).seamOff then 0 else s.dropped h false
  let dr := if (s.lineUnit h).seamOff then 0 else s.dropped h true
  let keep (r : List Nat) : List Nat := (r.take (r.length - dr)).drop dl
  let actL := s.seamAct h false c.number
  let actR := s.seamAct h true c.number
  let blended (right : Bool) (a : SeamAct) (rs : List (List Nat)) : List (List Nat) := match a with
    | .blend d => (List.range 3).map fun k => blendRow right d.size (rs.getD k []) (d.rows.getD k [])
    | _ => rs
  let out := (blended true actR (blended false actL rows)).map keep
  let ownFlag (a : SeamAct) : Nat := match a with | .own _ _ => 0x100000 | _ => 0
  let edgeRow := keep (rows.getD (if s.colourOff h 1 then 0 else 1) [])
  let e := edgesOf (s.rdN .edgeThresh h) (s.rdB .edgePol h) edgeRow
  let flags := s.capFlags h c ||| regFlags ||| ownFlag actL ||| ownFlag actR ||| (if s.calOwned h then 0 else 0x80000)
  let sideEvents (right : Bool) (a : SeamAct) : Prog := match a with
    | .own late mism => .seq (when late (headOnce h .seamPartnerLate islLine (u32 h)))
        (when mism (headOnce h .seamMismatch islLine (pack [(8, h), (8, bit01 right)])))
    | _ => .nop
  let dropSide (right : Bool) (n : Nat) : Prog := when (n ≠ 0)
    (sendSeam h (s.seamOf h right).2.2.1 (!right)
      { line := c.number, size := n, rows := rows.map fun r => if right then r.drop (r.length - n) else r.take n })
  all [ joinCheck c.number,
        when (!s.calOwned h) (headOnce h .calBankLost islLine (u32 h)),
        capEvents h c, sideEvents false actL, sideEvents true actR, edgeStage h c e,
        modLineUnit h (fun u => { u with
          rows := ({ number := c.number, good := !rowBad c.flags, rows := ys } :: u.rows).take 129,
          lastPix := if bitAt c.flags 1 then u.lastPix else ys, seamGiveUp := false, emitted := some c.number }),
        dropSide false dl, dropSide true dr,
        openPage h c,
        .ask fun s =>
          let x : Header := { time := c.start, number := c.number, epoch := c.epoch, kind := 0, flags := flags,
                              rulingL := c.rulingL, pixels := (out.getD 0 []).length, exp := c.exp, edges := e,
                              calId := s.rdN .calId, temp := c.temp, clip := c.clip, avg := s.rdN .avg h, page := s.rdN .page h }
          let rcd := recordOf h s.self x (planes out)
          .seq (intoPage h c rcd) (route h c.number rcd),
        pageFull h ]

/-- Whether the stream that a head's records go to holds LINE back: the record before has not been taken (R649). -/
def State.heldBack (s : State) (h : Nat) : Bool := decide (s.rdN .lineRoute h ≤ 7) && (s.stream (s.rdN .lineRoute h)).coming ≠ []

/-- The oldest line of a head, or the close of its page, leaves LINE. -/
def emitFirst (h : Nat) : Prog := .ask fun s =>
  let pop : Prog := modLineUnit h fun u => { u with queue := u.queue.drop 1 }
  match (s.lineUnit h).queue with
  | [] => .nop
  | .close t :: _ => .seq pop (pageClosed h t)
  | .line c :: _ =>
    if c.unsettled then .nop
    else if c.kind ≠ 0 then .seq pop (emitCapture h c)
    else if s.seamAct h false c.number = .wait || s.seamAct h true c.number = .wait then .nop
    else .seq pop (emitScan h c)

/-- LINE_RECORD_EMIT: LINE completes the oldest line of a head, or the close of its page (R296, R334, R340). It waits where the stream holds
it back (R649), and a line whose exposure is not settled, which its lanes may still fill while a line start may come (R281), or which waits
for its partner's pixels, is not complete. -/
def execLineRecordEmit (h : Fin 4) (s : State) : Host.Outcome State Fault Refusal :=
  done (inIsland islLine (.ask fun s => when (!s.heldBack h && !((s.laneLine h).isSome && s.armedNow h)) (.seq (closeLanes h) (emitFirst h)))) s

/-- Whether line `a` comes after line `b` or is it; line numbers wrap (R228). -/
def notBefore (a b : Nat) : Bool := decide ((a + 4294967296 - b) % 4294967296 < 2147483648)

/-- The line for which LINE has given up waiting (R334). -/
def LineUnit.gaveUp (u : LineUnit) : Option Nat :=
  if u.seamGiveUp then match u.queue with | .line c :: _ => some c.number | _ => none else none

/-- SEAM_DATA_ARRIVAL: the oldest overlap pixels sent to the head enter its seam store; those for a line already emitted, or given up, are
discarded (R332, R334). -/
def execSeamDataArrival (h : Fin 4) (s : State) : Host.Outcome State Fault Refusal :=
  done (inIsland islLine (modLineUnit h fun u => match u.seamIn with
    | [] => u
    | (right, d) :: rest =>
      let own := (d.line + (s.seamOf h right).2.2.2) % 4294967296
      let late := (match u.emitted with | some n => notBefore n own | none => false)
        || (match u.gaveUp with | some n => notBefore n own | none => false)
      let u := { u with seamIn := rest }
      if late then u
      else if right then { u with seamR := (d :: u.seamR).take 64 } else { u with seamL := (d :: u.seamL).take 64 })) s

/-- SEAM_WAIT_EXPIRED for the line that waits (R334). -/
def execSeamWaitExpired (h : Fin 4) (s : State) : Host.Outcome State Fault Refusal :=
  done (inIsland islLine (.ask fun s => match (s.lineUnit h).queue with
    | .line c :: _ =>
      when (c.kind = 0 && (s.seamAct h false c.number = .wait || s.seamAct h true c.number = .wait))
        (modLineUnit h fun u => { u with seamGiveUp := true })
    | _ => .nop)) s

/-! ### Calibration -/

/-- A capture ends (calibration state table, R306, R310). -/
def execCalCaptureDone (h : Fin 4) (s : State) : Host.Outcome State Fault Refusal :=
  done (inIsland islLine (.ask fun s =>
    let u := s.lineUnit h
    when (u.capLeft = 0 && decide (s.rdN .calState h ∈ [1, 3])) (
      if s.rdN .calState h = 1 then .seq (disarm h hdIdle) (wr .calState h 2)
      else
        let t : Rat := u.tSum.foldl (fun a x => a + realRat x) 0 / (max 1 u.tSum.length : Nat)
        all [ disarm h hdIdle, wr .calState h 4,
              wr .tCal h (if 63 < s.rdN .lineTempSrc h then 0 else ratReal t) ]))) s

/-- Twice the median of a segment: the middle value, or the sum of the middle two. -/
def median2 (l : List Int) : Int :=
  let m := l.mergeSort
  m.getD ((m.length - 1) / 2) 0 + m.getD (m.length / 2) 0

/-- W̄ − D̄ of a pixel, and D̄ (R307). -/
def State.calPixel (s : State) (h c i : Nat) : Int × Int :=
  let n := s.rdN .calLines h
  let d := roundDiv (s.acc h false c i) n
  (roundDiv (s.acc h true c i) n - d, d)

/-- G_i and the defect mark of a pixel, with twice the median of its segment (R307, R308). -/
def State.calGain (s : State) (h c : Nat) (wd d m2 : Int) : Nat × Bool :=
  let g := if 0 < wd then roundDiv (s.rdN .whiteTarget h c * 16384 : Nat) wd.toNat else 0
  let bad := decide (wd ≤ 0) || decide (65535 < g) || decide ((s.rdN .darkMax h : Int) < d)
    || decide (m2 * (s.rdN .defectDev h : Nat) < (2 * wd - m2).natAbs * 256)
  (if bad then 16384 else g.toNat, bad)

/-- The tables of a colour: O_i, G_i and the defect marks. -/
def State.calRow (s : State) (h c : Nat) : List (Int × Nat × Bool) :=
  let pix := s.rdN .pixels h
  (List.range pix).map fun i =>
    let (wd, d) := s.calPixel h c i
    let seg := i / 64
    let m2 := median2 ((List.range (min 64 (pix - 64 * seg))).map fun k => (s.calPixel h c (64 * seg + k)).1)
    let (g, bad) := s.calGain h c wd d m2
    (d, g, bad)

def bitBytes (l : List Bool) : List Byte :=
  (List.range ((l.length + 7) / 8)).map fun k =>
    BitVec.ofNat 8 ((List.range 8).foldl (fun a b => a + 2 ^ b * bit01 (l.getD (8 * k + b) false)) 0)

/-- A calibration is completed when every enabled head is in DONE (R311). -/
def calCompleted : Prog := .ask fun s =>
  when ((List.range 4).all fun h => !s.rdB .headEn h || s.rdN .calState h = 6) (all
    [ emit .calDone 0 islLine, modCalTime (fun _ => some s.time.toNat), wr .calUsed 0 0 ])

/-- CAL_COMPUTE_DONE (R307, R308, R311). -/
def execCalComputeDone (h : Fin 4) (s : State) : Host.Outcome State Fault Refusal :=
  done (inIsland islLine (.ask fun s => when (s.rdN .calState h = 5) (
    let rows := (List.range 3).map fun c => s.calRow h c
    let count (c : Nat) : Nat := ((rows.getD c []).filter fun x => x.2.2).length
    let counts := (List.range 3).map count
    let most := counts.foldl max 0
    let base := s.calAddr h 0
    .seq
      (when (s.calOwned h) (all
        [ .op (.zero (base + 0x62000) 0x3000),
          each (List.range 3) fun c => all
            [ .op (.bytes (base + 0x10000 * c) ((rows.getD c []).flatMap fun x => leBytes 2 (x.1 % 65536).toNat)),
              .op (.bytes (base + 0x30000 + 0x10000 * c) ((rows.getD c []).flatMap fun x => leBytes 2 x.2.1)),
              .op (.bytes (base + 0x62000 + 4096 * c) (bitBytes ((rows.getD c []).map fun x => x.2.2))) ] ]))
      (.seq (each (List.range 3) fun c => wri .defects h c (u32 (counts.getD c 0)))
        (if s.rdN .defectMax h < most then .seq (wr .calState h 7) (emit .calFailed (unitHead h) islLine (pack [(8, h.val), (16, most)]))
         else .seq (wr .calState h 6) calCompleted))))) s

/-- CAL_CRC of the enabled heads at SCAN entry (R312); tables in a bank that the head does not own read as zeros (R573; DEDUCED, log 59). -/
def calCrcs : Prog := .ask fun s => each (List.range 4) fun h =>
  when (s.rdB .headEn h) (
    let b (off n : Nat) : List Byte := if s.calOwned h then s.bytesAt (s.calAddr h off) n else List.replicate n 0
    wr .calCrc h (crc32 (b 0 0x30000 ++ b 0x30000 0x30000 ++ b 0x60000 0x1800 ++ b 0x62000 0x3000)))

/-! ### Temperatures and covers -/

/-- TEMPERATURE_ARRIVAL_LINE: the temperature of a Heath scan-list entry arrives (R24, R30, R317, R346). -/
def execTemperatureArrivalLine (e : Fin 64) (s : State) : Host.Outcome State Fault Refusal :=
  done (inIsland islLine (.ask fun s => when (!s.fenced islHeath)
    (each (List.range 4) fun h => when (s.rdN .lineTempSrc h = e)
      (modLineUnit h fun u =>
        let now := lineCycle s.time.toNat
        let was := match u.tempWas with
          | some (c, x) => if c = now then some (c, x) else some (now, u.tempNext, s.tempOld h)
          | none => some (now, u.tempNext, s.tempOld h)
        { u with tempNext := s.rd .heathValue 0 e, aged := false, noTemp := false, tempWas := was })))) s

/-- TEMP_AGE_EXPIRED (R318). -/
def execTempAgeExpired (h : Fin 4) (s : State) : Host.Outcome State Fault Refusal :=
  done (inIsland islLine (.ask fun s => when (s.rdN .tempMaxAge h ≠ 0 && decide (s.rdN .lineTempSrc h ≤ 63))
    (modLineUnit h fun u => { u with aged := true }))) s

/-- COVER_INPUT_CHANGE: the level of HDh_COVER_N, `high` for not closed (R328). -/
def execCoverInputChange (h : Fin 4) (high : Bool) (s : State) : Host.Outcome State Fault Refusal :=
  done (live (.ask fun s => modHead h fun r =>
    { r with coverPin := high, coverRuns := s.rdB .coverEn h && high != s.rdB .coverState h })) s

/-- An opening declared outside PREPARE and PARK is reported (R329). -/
def coverReport (h : Nat) : Prog := emit .coverOpen (unitHead h) h (u32 h)

/-- COVER_DEBOUNCE_EXPIRED (R328 to R330). -/
def execCoverDebounceExpired (h : Fin 4) (s : State) : Host.Outcome State Fault Refusal :=
  done (inIsland h (.ask fun s =>
    let r := s.head h
    when (s.rdB .coverEn h && r.coverRuns) (.seq
      (.seq (modHead h fun r => { r with coverRuns := false }) (wr .coverState h (u32 (bit01 r.coverPin))))
      (if r.coverPin then when (s.modes.mode = .scan || s.modes.mode = .calibrate) (coverReport h)
       else when (s.isUncleared .coverOpen (unitHead h))
         (.seq (emit .coverClosed (unitHead h) h (u32 h)) (clearEvent .coverOpen (unitHead h) h)))))) s

/-- The cover of a head as COVER_EN is written: the input in use is debounced anew; out of use it declares nothing. -/
def coverEnWrite (h : Nat) (w : U32) : Prog := .ask fun s =>
  if w = 0 then .seq (wr .coverState h 0) (modHead h fun r => { r with coverRuns := false })
  else modHead h fun r => { r with coverRuns := r.coverPin != s.rdB .coverState h }

/-! ### The fence of LINE -/

/-- LINE is fenced: lines on their way are discarded and counted; the closing of pages waits (R190, R349). -/
def fenceLine : Prog := each (List.range 4) fun h => .ask fun s =>
  let lines := ((s.lineUnit h).queue.filter fun x => match x with | .line _ => true | .close _ => false).length
  .seq (modLineUnit h fun u => { u with queue := u.queue.filter fun x => match x with | .line _ => false | .close _ => true })
    (modHead h fun r => { r with skipping := true, skipped := r.skipped + lines })

/-! ### Writes of LINE entries -/

def lineValue (s : State) (n : Name) (h : Nat) (w : U32) : Status :=
  let v := w.toNat
  let bank (x : Nat) : Status := need (decide (x ≤ 23) || x = 0xFF) .range
  let partner : Status := need (v = 0xFFFF || (if bitAt v 15 then decide (v % 0x100 ≤ 3) && !(bits v 8 7 = s.self && v % 4 = h)
    else decide (v ≤ 3) && decide (v ≠ h))) .range
  match n with
  | .calBank => bank v
  | .calCmd => oneOf [1, 2, 3] v
  | .calLines => inRange 1 256 v
  | .whiteTarget => inRange 1 65535 v
  | .corrMode | .regOrder => oneOf [0, 1, 2] v
  | .lineTempSrc => need (decide (v ≤ 63) || v = 0xFF) .range
  | .regExtBank => within 0 23 v
  | .regExtCount => inRange 0 6 v
  | .avg => oneOf [1, 2, 3, 4, 6, 8] v
  | .skewLines => inRange 16 4096 v
  | .seamLRole | .seamRRole => within 0 2 v
  | .seamLPix | .seamRPix => within 1 256 v
  | .seamLPartner | .seamRPartner => partner
  | .seamLOffset | .seamROffset => within 0 64 v
  | .lineRoute => need (decide (v ≤ 7) || v = 0x10) .range
  | .coverDebounce => inRange 1 255 v
  | .fLimit => inRange 0 1023 v
  | _ => .ok

/-- CAL_CMD (R303, R304). -/
def calCheck (s : State) (h v : Nat) : Status :=
  let st := s.rdN .calState h
  firstBad
    [ need (s.modes.mode = .calibrate) .notInMode,
      need (s.calOwned h) .calNoBank,
      need (s.rdB .headEn h && (match v with
        | 1 => decide (st ∈ [0, 2, 4, 6, 7])
        | 2 => decide (st ∈ [2, 4, 6, 7])
        | _ => decide (st = 4))) .calOrder ]

/-- The action of an accepted CAL_CMD (calibration state table). -/
def calAct (h v : Nat) : Prog := .ask fun s =>
  let clear (white : Bool) : Prog := .op (.zero (s.calAddr h (accBase white)) accSize)
  let left : Prog := modLineUnit h fun u => { u with capLeft := s.rdN .calLines h, tSum := [] }
  let start : Prog := .ask fun s => .seq (arm h) (when (s.rdN .trigSrc h = 2) (startLine h false false))
  match v with
  | 1 => all [ clear false, clear true, left, wr .calState h 1, start ]
  | 2 => all [ clear true, left, wr .calState h 3, start ]
  | _ => wr .calState h 5

end Sys2Proof.Machine
end

