-- ==== Sys2Proof/Machine/Light.lean ====
section
/-! DEFINITION. LIGHT: the strings, Flourish, the faults of strings and lamps, and heat (*Illumination strings and Flourish*). -/
namespace Sys2Proof.Machine

open Prog

/-! ### String states -/

def lsOff : Nat := 0
def lsSoftStart : Nat := 1
def lsOn : Nat := 2
def lsFading : Nat := 3
def lsFault : Nat := 4
def lsHeld : Nat := 5

def State.stringState (s : State) (k : Nat) : Nat := s.rdN .stringState k
def State.lit (s : State) (k : Nat) : Bool := s.stringState k ∈ [1, 2, 3]

/-- A change of string state (R462). -/
def stringTo (k st : Nat) : Prog := .ask fun s =>
  when (s.stringState k ≠ st) (.seq (wrN .stringState k st) (bump (unitString k)))

/-- Gate and LSs_DIM off, no fade, no light. -/
def gateOff (k : Nat) : Prog := modLstr k fun x =>
  { x with gate := false, dimOut := false, onSteps := 0, fade := none, fadeWas := none, level := 0, residue := 0, carry := 0, learn := false }

/-- STRING_EN ← 0 by P6. -/
def stringEnZero (k : Nat) : Prog := .ask fun s => when (s.rdN .stringEn k ≠ 0) (p6Write .stringEn k 0)

/-- The level that a lit string runs at: DIM, or I_SET in DIM_MODE 1 (R450, R451). -/
def State.fullLevel (s : State) (k : Nat) : Nat := if s.rdN .dimMode k = 0 then s.rdN .dim k else s.rdN .iSet k

/-- The LIGHT cycle of a time (R174). -/
def lightCycle (t : Nat) : Nat := 2 * t / 25
def State.lightNow (s : State) : Nat := lightCycle s.time.toNat

/-- A fade to a level over a time in ms (R469 to R471). -/
def fadeTo (k stop ms : Nat) : Prog := .ask fun s => modLstr k fun x =>
  { x with made := s.lightNow, fadeWas := if x.made = s.lightNow then x.fadeWas else x.fade,
           fade := some { start := x.level, stop := stop, step := 0, curve := s.rdN .fadeShape k = 1,
                          total := (max 1 (roundDiv (ms * 320000 : Nat) (max 1 (s.rdN .lsPwmPeriod k)))).toNat } }

/-- L in period `step` of a fade (R469). -/
def fadeLevel (f : Fade) : Nat :=
  let u : Rat := mkRat f.step (max 1 f.total)
  let w := if f.curve then 3 * u * u - 2 * u * u * u else u
  (roundRat ((f.start : Rat) + ((f.stop : Int) - f.start : Int) * w)).toNat

/-- An immediate off (R463, R472). -/
def stringOffNow (k : Nat) : Prog := .ask fun s =>
  when (decide (s.stringState k ∈ [1, 2, 3])) (.seq (gateOff k) (stringTo k lsOff))

/-- An off with OFF_FADE. -/
def stringFade (k : Nat) : Prog := .ask fun s =>
  when (decide (s.stringState k ∈ [1, 2])) (.seq (fadeTo k 0 (s.rdN .offFade k)) (stringTo k lsFading))

/-- A disable that the X9 issues itself: at once, or fading (R50, R53, R465). -/
def stringDisable (k : Nat) (now : Bool) : Prog := .ask fun s =>
  if now then when (s.lit k) (.seq (stringOffNow k) (stringEnZero k))
  else when (decide (s.stringState k ∈ [1, 2])) (.seq (stringFade k) (stringEnZero k))

/-- The strings under the light policy of a PARK cause, and on the way to PREPARE (R50, R465). -/
def stringsOff (now : Bool) : Prog := each (List.range 8) fun k => stringDisable k now

/-! ### Faults -/

def State.groupOf (s : State) (k : Nat) : Nat := s.rdN .illumGroup k

/-- GROUP_HELD strings leave it once no string of their group is in FAULT. -/
def groupRelease : Prog := .ask fun s => each (List.range 8) fun k =>
  let g := s.groupOf k
  when (s.stringState k = lsHeld && !(decide (g ≤ 7) && (List.range 8).any fun j => s.groupOf j = g && s.stringState j = lsFault))
    (stringTo k lsOff)

/-- The integrity rule after a fault of string k (R482, R483, R485). -/
def groupFault (k : Nat) : Prog := .ask fun s =>
  let g := s.groupOf k
  let recent := (s.lstr g).groupAt = some s.lightNow
  when (decide (g ≤ 7) && !s.rdB .groupRelax g) (all
    [ each (List.range 8) (fun j => when (j ≠ k && s.groupOf j = g && s.stringState j ≠ lsFault)
        (all [ gateOff j, stringTo j lsHeld, stringEnZero j ])),
      when (!recent) (.seq (modLstr g fun x => { x with groupAt := some s.lightNow })
        (emit .groupOff (unitString k) islLight (pack [(8, g), (8, k)]))) ])

/-- A string fault, declared in any state but OFF (R462, R475), and where it was switched off at once in the same LIGHT cycle (R491). `ev` is its
event, with its emission apart where it waits. -/
def stringFault (k : Nat) (ev : Event) (emission : Prog) : Prog := .ask fun s =>
  when (s.stringState k ≠ lsOff || (s.lstr k).offAt = some s.lightNow) (all
    [ gateOff k, stringTo k lsFault, wrN .lsFaultCause k ev.code, stringEnZero k, emission, groupFault k ])

def faultNow (k : Nat) (ev : Event) (p1 : U32) (p2 : U32 := 0) : Prog :=
  stringFault k ev (emit ev (unitString k) islLight p1 p2)

def State.matrix (s : State) (k : Nat) : Bool := decide (k < 2) && s.rdB .matrixEn k
def State.pair64 (s : State) (n : Name) (k : Nat) : Nat := s.rdN n k 0 + 4294967296 * s.rdN n k 1

/-- 16 switching cycles in a row end at CS_LIMIT: `cs` holds the peak of LSs_CS in each (R447). -/
def State.tripping (s : State) (k : Nat) (cs : List (BitVec 12)) : Bool :=
  decide (16 ≤ cs.length) && cs.all fun x => decide (s.rdN .csLimit k ≤ x.toNat)

/-- STRING_SHORT_SS: LSs_VSNS at SS_TIME / 2 in mV, or 16 limit trips in a row. -/
def execStringShortSs (k : Fin 8) (vsns : BitVec 16) (cs : List (BitVec 12)) (s : State) : Host.Outcome State Fault Refusal :=
  done (inIsland islLight (.ask fun s =>
    when (s.stringState k = lsSoftStart && (s.tripping k cs || decide (10 * vsns.toNat < s.rdN .voutNom k)))
      (faultNow k .stringShortSs (u32 k)))) s

/-- STRING_OVERCURRENT: 16 limit trips in a row in ON or FADING. -/
def execStringOvercurrent (k : Fin 8) (cs : List (BitVec 12)) (s : State) : Host.Outcome State Fault Refusal :=
  done (inIsland islLight (.ask fun s => when (decide (s.stringState k ∈ [2, 3]) && s.tripping k cs) (faultNow k .stringOvercurrent (u32 k)))) s

/-- STRING_OPEN: LSs_VSNS in mV, on a plain string. -/
def execStringOpen (k : Fin 8) (vsns : BitVec 16) (s : State) : Host.Outcome State Fault Refusal :=
  done (inIsland islLight (.ask fun s =>
    when (!s.matrix k && decide (s.rdN .ovpV k < vsns.toNat)) (faultNow k .stringOpen (u32 k)))) s

/-- LAMP_OPEN: LSs_VSNS in mV, on a matrix string; the locate step finds the lamp (R479, R480). -/
def execLampOpen (k : Fin 8) (vsns : BitVec 16) (s : State) : Host.Outcome State Fault Refusal :=
  done (inIsland islLight (.ask fun s =>
    when (s.matrix k && decide (s.rdN .ovpV k < vsns.toNat) && !(s.lstr k).locating && s.stringState k ≠ lsOff)
      (stringFault k .lampOpen (modLstr k fun x => { x with locating := true })))) s

/-- The LAMP_OPEN event, with the lowest lamp marked; without one, the lamp is a free value. -/
def lampOpenEvent (k marks : Nat) : Prog := .ask fun s =>
  let lamp := ((List.range 64).find? fun j => bitAt marks j).getD (s.freeBelow 256)
  all [ modLstr k (fun x => { x with locating := false }), .op .free, emit .lampOpen (unitString k) islLight (pack [(8, k), (8, lamp)]) ]

/-- The lamps of LAMP_MASK, ascending, whose LSs_VSNS in mV reached OVP_V, one value for each lamp (R479). -/
def State.located (s : State) (k : Nat) (vsns : List (BitVec 16)) : Nat :=
  ((((List.range 64).filter fun j => bitAt (s.pair64 .lampMask k) j).zip vsns).filter fun x => decide (s.rdN .ovpV k ≤ x.2.toNat)).foldl
    (fun m x => m ||| 2 ^ x.1) 0

/-- LAMP_LOCATE_DONE: LSs_VSNS with only each lamp of LAMP_MASK unbypassed, in ascending order (R479, R480). -/
def execLampLocateDone (k : Fin 8) (vsns : List (BitVec 16)) (s : State) : Host.Outcome State Fault Refusal :=
  done (inIsland islLight (.ask fun s => when (s.lstr k).locating (
    let marks := s.located k vsns
    .seq (wr64 .lampFault k 0 (s.pair64 .lampFault k ||| marks)) (lampOpenEvent k marks)))) s

/-- LAMP_SHORT on a plain string: LSs_VSNS in mV over 64 switching cycles (R477). -/
def execLampShort (k : Fin 8) (vsns : List (BitVec 16)) (s : State) : Host.Outcome State Fault Refusal :=
  done (inIsland islLight (.ask fun s =>
    let x := s.lstr k
    when (!s.matrix k && decide (s.stringState k ∈ [2, 3]) && !x.learn
        && decide (64 ≤ vsns.length) && vsns.all fun v => decide (10 * 65536 * (v.toNat : Int) < 10 * x.base - 6 * 65536 * s.rdN .lampV k))
      (faultNow k .lampShort (pack [(8, k), (8, 0xFF)])))) s

/-- An on-time of at least 4 µs (R478): a string that is never off has one. -/
def State.longOn (s : State) (k : Nat) : Bool :=
  let x := s.lstr k
  s.rdN .dimMode k = 1 || decide (51200 ≤ x.onSteps) || decide (40 * x.period ≤ x.onSteps)

/-- LAMP_CHECK: LSs_VSNS before the bypass and at its end, in mV (R478, R480). -/
def execLampCheck (k : Fin 8) (before after : BitVec 16) (s : State) : Host.Outcome State Fault Refusal :=
  done (inIsland islLight (.ask fun s =>
    let x := s.lstr k
    let allowed := s.modes.mode = .calibrate || (s.modes.mode = .scan && s.rdB .checkScan k)
    let cand := (List.range 64).map (fun j => (x.lamp + j) % 64)
    match cand.find? fun j => bitAt (s.pair64 .lampMask k) j && !bitAt (s.pair64 .bypPattern k) j with
    | none => .nop
    | some j => when (s.matrix k && allowed && s.longOn k && decide (s.stringState k ∈ [2, 3])) (.seq
        (modLstr k fun x => { x with lamp := (j + 1) % 64 })
        (when (decide (10 * ((before.toNat : Int) - after.toNat) < 4 * s.rdN .lampV k)) (.seq
          (wr64 .lampFault k 0 (s.pair64 .lampFault k ||| 2 ^ j))
          (faultNow k .lampShort (pack [(8, k), (8, j)]))))))) s

/-- BASELINE_LEARN_END: the mean of LSs_VSNS over the interval, in mV (R476). -/
def execBaselineLearnEnd (k : Fin 8) (vsns : BitVec 16) (s : State) : Host.Outcome State Fault Refusal :=
  done (inIsland islLight (.ask fun s => when (s.lstr k).learn
    (modLstr k fun x => { x with learn := false, base := 65536 * vsns.toNat }))) s

/-! ### Heat -/

/-- D (R486). -/
def State.derateAt (s : State) (k : Nat) (temp : Option U32) : Rat :=
  match temp with
  | none => 1
  | some t =>
    if s.rdN .thermPolicy k = 0 || s.rdN .lsTempSrc k = 0xFF then 1
    else
      let q := (realRat (s.rd .tShut k) - realRat t) / (realRat (s.rd .tShut k) - realRat (s.rd .tKnee k))
      if q < 0 then 0 else if 1 < q then 1 else q

def State.derateOf (s : State) (k : Nat) : Rat := s.derateAt k (s.lstr k).temp

def derateEntry (k : Nat) : Prog := .ask fun s => wr .derate k (i32 (roundRat (s.derateOf k * 4096)))

/-- The cause of STRING_TSHUT is present (R488). -/
def State.hot (s : State) (k : Nat) : Bool :=
  match (s.lstr k).temp with
  | none => false
  | some t => s.rdN .lsTempSrc k ≠ 0xFF && decide (realRat (s.rd .tShut k) - realRat (s.rd .tHyst k) ≤ realRat t)

/-- STRING_TSHUT is declared while the temperature is at or above T_SHUT, in any state but OFF (R475, R488). -/
def tshutCheck (k : Nat) : Prog := .ask fun s => match (s.lstr k).temp with
  | none => .nop
  | some t => when (s.rdN .lsTempSrc k ≠ 0xFF && decide (realRat (s.rd .tShut k) ≤ realRat t) && s.stringState k ≠ lsFault)
      (faultNow k .stringTshut (u32 k) t)

/-- STRING_TEMPERATURE_ARRIVAL: the temperature of a Heath scan-list entry arrives (R486 to R488). -/
def execStringTemperatureArrival (e : Fin 64) (s : State) : Host.Outcome State Fault Refusal :=
  done (inIsland islLight (.ask fun s => when (!s.fenced islHeath)
    (each (List.range 8) fun k => when (s.rdN .lsTempSrc k = e) (
      let t := s.rd .heathValue 0 e
      all [ modLstr k (fun x => { x with temp := some t, stale := false,
                                          tempWas := match x.tempWas with | some (c, old) => if c = s.lightNow then some (c, old) else some (s.lightNow, x.temp)
                                                                          | none => some (s.lightNow, x.temp) }),
            derateEntry k, tshutCheck k ])))) s

/-- A stale episode begins (R490). -/
def tempStale (k : Nat) : Prog := .ask fun s => when (s.rdN .lsTempSrc k ≤ 63 && !(s.lstr k).stale)
  (.seq (modLstr k fun x => { x with stale := true }) (emit .stringTempStale (unitString k) islLight (u32 k)))

/-- STRING_TEMP_STALE: no new temperature for 2 s (R490). -/
def execStringTempStale (k : Fin 8) (s : State) : Host.Outcome State Fault Refusal :=
  done (inIsland islLight (tempStale k)) s

/-! ### Periods -/

/-- Steps of 78.125 ps over 65,535 · 65,536. -/
def dimUnit : Int := 65535 * 65536

/-- The on-time of a dimming period put out for a request, in steps; whether the period counts as skipped (R459). Edges lie on the grid of
78.125 ps (R453): the model puts out the whole steps of the request and carries the rest (DESIGN CHOICE, log 69). -/
def dimOut (req full : Int) : Nat × Bool :=
  if req < 256 * dimUnit then (0, decide (0 < req))
  else if full * dimUnit - req < 256 * dimUnit then (full.toNat, decide (req < full * dimUnit))
  else ((req / dimUnit).toNat, false)

def State.photonString (s : State) (k : Nat) : Bool := s.rdN .photonMode = 1 && bitAt (s.rdN .photonStrings) k

/-- The scale that a string multiplies by (R434); one that arrived in this LIGHT cycle counts from the next period (R456, R457). -/
def State.scaleFor (s : State) (k : Nat) : Nat :=
  if s.photonString k then (match s.pace.scaleWas with
    | some (c, old) => if c = s.lightNow then old else s.pace.scale
    | none => s.pace.scale) else 65536

/-- What the buffer keeps of an entry, by a number, when a value of this LIGHT cycle replaced it (R456): 0 DIM, 1 PWM_PERIOD, 2 I_SET, 3 and 4
BYP_PATTERN. -/
def lateWrite (k key old : Nat) : Prog := .ask fun s => modLstr k fun x =>
  let l := x.was.filter fun y => y.2.1 = s.lightNow
  { x with was := if l.any fun y => y.1 = key then l else (key, s.lightNow, old) :: l }

/-- An entry as the load of a period start takes it. -/
def State.buffered (s : State) (k key v : Nat) : Nat :=
  match (s.lstr k).was.find? fun y => y.1 = key && y.2.1 = s.lightNow with
  | some y => y.2.2
  | none => v

/-- The temperature that the loaded derating factor comes from. -/
def State.tempLoaded (s : State) (k : Nat) : Option U32 :=
  match (s.lstr k).tempWas with
  | some (c, old) => if c = s.lightNow then old else (s.lstr k).temp
  | none => (s.lstr k).temp

/-- LSs_DIM and the reference of a lit string in the period that starts (R450, R451, R454, R459 to R461). -/
def periodOutput (k : Nat) : Prog := .ask fun s =>
  let x := s.lstr k
  let d := s.derateAt k (s.tempLoaded k)
  let full := if s.rdN .dimMode k = 0 then 65535 else 4095
  let clip := decide (65536 * full < x.level * x.scale)
  let ref : Nat :=
    if s.rdN .dimMode k = 0 then (roundRat ((x.iSet : Rat) * d)).toNat
    else min 4095 (roundRat (mkRat (x.level * x.scale) 65536 * d)).toNat
  let steps : Int := 40 * x.period
  let req : Int := 40 * x.period * min (x.level * x.scale) (65535 * 65536) + x.residue
  let (out, skip) := dimOut req steps
  all [ modLstr k (fun x => { x with
          ref := ref, gate := true, dimOut := true, learn := x.learn || (ref ≠ x.ref && !s.matrix k),
          onSteps := if s.rdN .dimMode k = 0 then out else (40 * x.period),
          residue := if s.rdN .dimMode k = 0 then req - out * dimUnit else 0 }),
        when (s.rdN .dimMode k = 0 && skip) (countUp .lsSkipCount k),
        when (s.rdN .dimMode k = 0) (output (.dim k (s.rdN .pwmPhase k) x.period out)),
        when (s.photonString k) (wrN .photonScale 0 x.scale),
        when clip (.seq (countUp .photonClips k) (when (!x.clipped) (.seq
          (modLstr k fun x => { x with clipped := true }) (emit .photonClip (unitString k) islLight (u32 k))))),
        when (d < 1 && !x.derated) (emit .stringDerating (unitString k) islLight (pack [(8, k), (16, (roundRat (d * 4096)).toNat)])),
        when (d < 1) (modLstr k (fun x => { x with derated := true })) ]

/-- The load of R455, with the Flourish step, and BYP_PATTERN (R473, R474). -/
def periodLoad (k : Nat) : Prog := .ask fun s =>
  let pattern := s.buffered k 3 (s.rdN .bypPattern k 0) + 4294967296 * s.buffered k 4 (s.rdN .bypPattern k 1)
  let byp := if s.matrix k then pattern ||| (0xFFFFFFFFFFFFFFFF - s.pair64 .lampMask k) else 0
  modLstr k fun x =>
    let late := x.fade.isSome && x.made = s.lightNow
    let f := (if late then x.fadeWas else x.fade).map fun f => { f with step := f.step + 1 }
    let level := match f with | some f => fadeLevel f | none => x.level
    { x with dim := s.buffered k 0 (s.rdN .dim k), period := s.buffered k 1 (s.rdN .lsPwmPeriod k),
             iSet := s.buffered k 2 (s.rdN .iSet k), scale := s.scaleFor k, byp := byp, level := level,
             fade := if late then x.fade.map fun f => { f with start := level }
                     else match f with | some f => if f.total ≤ f.step then none else some f | none => none }

/-- The reference of a string in SOFT_START, on its way from 0 to I_SET / 16 over SS_TIME, rounded down (string state table; DESIGN CHOICE,
log 69). -/
def softStartRef (k : Nat) : Prog := .ask fun s => modLstr k fun x =>
  let ss := 4000 * s.rdN .ssTime k
  { x with ref := x.iSet * min ss (s.time.toNat - x.ssAt) / (16 * max 1 ss), onSteps := 40 * x.period }

/-- The switching cycles of a dimming period: the on-times requested, in steps, shorter than 40 ns with what is carried are skipped and carried
(R449, R460). -/
def switchCycles : List Nat → Nat × Nat → Nat × Nat
  | [], r => r
  | q :: l, (carry, skips) =>
    let on := q + carry
    if on < 512 then switchCycles l (on, skips + bit01 (on ≠ 0)) else switchCycles l (0, skips)

/-- A string that was fenced resumes, off, at its next period start (R494, R917). -/
def stringRejoin (k : Nat) : Prog := .ask fun s => when (s.lstr k).rejoin (all
  [ modLstr k (fun x => { x with rejoin := false }),
    when (s.lit k) (.seq (stringOffNow k) (wr .stringEn k 0)) ])

/-- DIMMING_PERIOD_START of string k, with LSs_VSNS in mV and the on-times that the switching cycles of the period that ends requested, in steps of
78.125 ps (R449, R455 to R461, R469, R473, R476, R481, R487). -/
def execDimmingPeriodStart (k : Fin 8) (vsns : BitVec 16) (requests : List (BitVec 32)) (s : State) : Host.Outcome State Fault Refusal :=
  done (inIsland islLight (all
    [ stringRejoin k, periodLoad k,
      .ask fun s => when (s.stringState k = lsFading && (s.lstr k).level = 0) (.seq (gateOff k) (stringTo k lsOff)),
      .ask fun s => when (s.stringState k = lsSoftStart) (softStartRef k),
      .ask fun s => when (decide (s.stringState k ∈ [2, 3])) (periodOutput k),
      .ask fun s => when (1 ≤ s.derateAt k (s.tempLoaded k)) (modLstr k fun x => { x with derated := false }),
      tshutCheck k,
      .ask fun s =>
        let (carry, skips) := switchCycles (requests.map fun q => q.toNat) ((s.lstr k).carry, 0)
        all
        [ modLstr k (fun x => { x with carry := carry }),
          wrN .lsSkipCount k (min 4294967295 (s.rdN .lsSkipCount k + skips)), wrN .voutMeas k vsns.toNat,
          when (!(s.lstr k).learn) (modLstr k fun x =>
            { x with base := x.base + (65536 * vsns.toNat - x.base) * x.period / 320000000 }) ] ])) s

/-- SOFT_START_DONE: SS_TIME has elapsed (R462, R476). -/
def execSoftStartDone (k : Fin 8) (s : State) : Host.Outcome State Fault Refusal :=
  done (inIsland islLight (.ask fun s => when (s.stringState k = lsSoftStart) (all
    [ stringTo k lsOn, fadeTo k (s.fullLevel k) (s.rdN .onFade k), modLstr k fun x => { x with learn := !s.matrix k } ]))) s

/-- LINE_DURATION_ARRIVAL: the predicted duration of a line of PACE_HEAD arrives (R434, R435). -/
def execLineDurationArrival (h : Fin 4) (s : State) : Host.Outcome State Fault Refusal :=
  done (inIsland islLight (.ask fun s => when (s.rdN .photonMode = 1 && s.paceHead = h && !s.fenced h)
    (modPace fun p => { p with scale := s.photonScaleOf (s.head h).predict,
                               scaleWas := match p.scaleWas with
                                 | some (c, old) => if c = s.lightNow then some (c, old) else some (s.lightNow, p.scale)
                                 | none => some (s.lightNow, p.scale) }))) s

/-! ### Writes of string entries -/

def lightValue (s : State) (n : Name) (k : Nat) (w : U32) : Status :=
  let v := w.toNat
  let r := realRat w
  match n with
  | .stringEn => within 0 2 v
  | .illumGroup => need (decide (v ≤ 7) || v = 0xFF) .range
  | .topology | .thermPolicy | .dimMode | .fadeShape => oneOf [0, 1] v
  | .fsw => within 100 2000 v
  | .iSet | .csLimit => inRange 0 4095 v
  | .ssTime => need (decide (100 ≤ v)) .tooLow
  | .lsFaultClr => oneOf [1] v
  | .lsPwmPeriod => firstBad [need (decide (32 ≤ v)) .tooLow]
  | .pwmPhase => need (decide (v < s.rdN .lsPwmPeriod k)) .tooHigh
  | .lsTempSrc => need (decide (v ≤ 63) || v = 0xFF) .range
  | .tKnee => need (realFinite w && decide (r < realRat (s.rd .tShut k))) .range
  | .tShut => need (realFinite w && decide (realRat (s.rd .tKnee k) < r)) .range
  | .tHyst => need (realFinite w && decide (0 < r)) .range
  | .checkInterval => inRange 1 65535 v
  | _ => .ok

/-- Function-state checks of STRING_EN and FAULT_CLR (R464, R466, R493). -/
def lightState (s : State) (n : Name) (k : Nat) (w : U32) : Status :=
  match n with
  | .stringEn => if w = 1 then firstBad
      [ need (s.modes.mode = .calibrate || s.modes.mode = .scan) .notInMode,
        need (!(decide (s.stringState k ∈ [4, 5]))) .stringFault ] else .ok
  | .lsFaultClr => need (!(s.stringState k = lsFault && s.rdN .lsFaultCause k = Event.code .stringTshut && s.hot k)) .stringFault
  | _ => .ok

/-- STRING_EN ← 1, 0 and 2 (string state table). -/
def stringOn (k : Nat) : Prog := .ask fun s => match s.stringState k with
  | 0 => .seq (modLstr k fun x => { x with gate := true, dimOut := true, level := 0, fade := none, fadeWas := none, residue := 0, carry := 0, ref := 0, ssAt := s.time.toNat }) (stringTo k lsSoftStart)
  | 3 => .seq (stringTo k lsOn) (fadeTo k (s.fullLevel k) (s.rdN .onFade k))
  | _ => .nop

def stringClear (k : Nat) : Prog := .ask fun s => when (s.stringState k = lsFault) (all
  [ when (s.lstr k).locating (lampOpenEvent k 0),
    wr .lsFaultCause k 0, when (decide (k < 2)) (wr64 .lampFault k 0 0), stringTo k lsOff,
    each [Event.stringShortSs, .stringOpen, .lampShort, .lampOpen, .stringOvercurrent, .stringTshut]
      (fun ev => clearEvent ev (unitString k) islLight),
    groupRelease ])

/-- What an accepted write of a string entry does beyond taking its value. -/
def lightEffect (n : Name) (k i : Nat) (w old : U32) : Prog :=
  match n with
  | .stringEn => all [ stringRejoin k, wr .stringEn k (if w = 1 then 1 else 0),
      match w.toNat with
      | 1 => stringOn k
      | 0 => stringFade k
      | _ => .ask fun s => .seq (when (s.lit k) (modLstr k fun x => { x with offAt := some s.lightNow })) (stringOffNow k) ]
  | .lsFaultClr => stringClear k
  | .dim => .seq (lateWrite k 0 old.toNat)
      (.ask fun s => when (s.stringState k = lsOn && s.rdN .dimMode k = 0) (fadeTo k w.toNat (s.rdN .dimFade k)))
  | .lsPwmPeriod => lateWrite k 1 old.toNat
  | .iSet => .seq (lateWrite k 2 old.toNat)
      (.ask fun s => when (s.stringState k = lsOn && s.rdN .dimMode k = 1) (fadeTo k w.toNat (s.rdN .dimFade k)))
  | .bypPattern => lateWrite k (3 + i) old.toNat
  | .illumGroup => groupRelease
  | .thermPolicy | .tKnee | .tShut | .tHyst => derateEntry k
  | .lsTempSrc => .seq (modLstr k fun x => { x with temp := none, tempWas := none, stale := false }) (derateEntry k)
  | _ => .nop

/-! ### Fences -/

/-- LIGHT is fenced: gates off at once; each string stays off until its next period start after readmission (R27, R494). -/
def fenceLight : Prog := each (List.range 8) fun k => .seq (gateOff k) (modLstr k fun x => { x with rejoin := true })

/-- HEATH is fenced: the strings keep their last temperature (R490). -/
def fenceHeathLight : Prog := each (List.range 8) tempStale

end Sys2Proof.Machine
end

