-- ==== Sys2Proof/Machine/Heath.lean ====
section
/-! DEFINITION. Heath: routing, the converters, the scan list, linearisation, plausibility and delivery (*Heath: housekeeping
measurement*). Converter k is 0 for SDC0, 1 for SDC1, 2 for MI. -/
namespace Sys2Proof.Machine

open Prog

/-! ### The scan list -/

def scanListAt : Nat := scratchBase + 0x18000
def userCurvesAt : Nat := scratchBase + 0x18800
def ntcCoefAt : Nat := scratchBase + 0x19000
def polySetsAt : Nat := scratchBase + 0x19400
def resultRingAt : Nat := scratchBase + 0x8000

/-- A field of entry e of SCAN_LIST (scan-list entry table). -/
def State.scan (s : State) (e off : Nat) : Nat := s.wordAt (scanListAt + 32 * e + off) 1
def State.scanReal (s : State) (e off : Nat) : U32 := u32 (s.wordAt (scanListAt + 32 * e + off) 4)
def State.scanConv (s : State) (e : Nat) : Nat := s.scan e 0
def State.scanSettle (s : State) (e : Nat) : Nat := s.wordAt (scanListAt + 32 * e + 8) 2
def State.scanWiring (s : State) (e : Nat) : Nat := bits (s.scan e 2) 1 2
/-- The entry's excitation kind: 0 none, 1 current source, 2 bridge, 3 sine. -/
def State.scanExc (s : State) (e : Nat) : Nat :=
  let x := s.scan e 3
  if x = 0 then 0 else if x ≤ 4 then 1 else if x ≤ 6 then 2 else 3

/-- The inputs that an entry uses. -/
def State.scanInputs (s : State) (e : Nat) : List Nat :=
  let i := s.scan e 1
  let main := if bitAt (s.scan e 2) 0 then [i] else [i, i + 1]
  if s.scanWiring e = 1 then main ++ [i + 2, i + 3] else main

/-- The points of a user curve in use (R519). -/
def usedPoints : List (Rat × Rat) → List (Rat × Rat)
  | [] => []
  | [p] => [p]
  | p :: q :: l => if q.1 ≤ p.1 then [p] else p :: usedPoints (q :: l)
def State.userCurve (s : State) (k : Nat) : List (Rat × Rat) :=
  let r (n : Nat) : Rat := realRat (u32 (s.wordAt (userCurvesAt + 256 * k + 4 * n) 4))
  usedPoints ((List.range 32).map fun n => (r (2 * n), r (2 * n + 1)))

/-- Validation of an entry (R509). -/
def State.scanGood (s : State) (e : Nat) : Bool :=
  let c := s.scanConv e
  let i := s.scan e 1
  let m := s.scan e 2
  let curve := s.scan e 6
  let named (x : Nat) : Bool := x = 0xFF || (decide (x ≤ 63) && s.scanConv x ≠ 0)
  let others := (List.range 64).filter fun o => s.scanConv o ≠ 0 && s.scanConv o ≠ c
  decide (c ≤ 3) && decide (i ≤ 31) && s.scanWiring e ≠ 3 && decide (s.scan e 3 ≤ 8)
    && decide (s.scan e 4 ≤ (if c = 3 then 4 else 12)) && decide (s.scan e 5 ≤ (if c = 3 then 2 else 7))
    && decide (curve ≤ 23) && curve ≠ 11 && (decide (s.scan e 7 ≤ 15) || s.scan e 7 = 0xFF)
    && (bitAt m 0 || i % 2 = 0) && !(s.scanWiring e = 1 && decide (30 ≤ i)) && !(c = 3 && decide (2 ≤ s.scanExc e))
    && others.all (fun o => (s.scanInputs o).all (fun x => !(decide (x ∈ s.scanInputs e)))
        && (s.scan e 3 = 0 || s.scan o 3 ≠ s.scan e 3))
    && named (s.scan e 10) && named (s.scan e 11)
    && (decide (curve < 16) || decide (2 ≤ (s.userCurve (curve - 16)).length))

/-- The lowest entry that fails validation. -/
def State.badScan (s : State) : Option Nat := (List.range 64).find? fun e => s.scanConv e ≠ 0 && !s.scanGood e

/-! ### Routing and conversion -/

def State.heathSt (s : State) : Nat := s.rdN .heathState
/-- The first entry of converter k at or after a list position. -/
def State.nextEntry (s : State) (k pos : Nat) : Option Nat :=
  (List.range 64).find? fun e => decide (pos ≤ e) && s.scanConv e = k + 1

/-- The time from the start of a routing to its step 5, in counts (R497). -/
def stepFive (discharge : Nat) : Nat := 4000 * (1 + discharge)

/-- What the routing of a converter takes up of the excitation settings (R499, R532). -/
def latchExc (k : Nat) : Prog := .ask fun s => modConv k fun c =>
  let q := s.scan c.entry 3
  { c with isrc := if 1 ≤ q ∧ q ≤ 4 then Config.isrcActual (q - 1) (s.rdN .isrcUa 0 (q - 1)) else 0,
           level := if q = 0 then 0 else if q ≤ 4 then s.rdN .isrcUa 0 (q - 1) else if q ≤ 6 then s.rdN .bxLevel 0 (q - 5) else s.rdN .sinAmpl 0 (q - 7),
           bxSettle := s.rdN .bxSettle, sinFreq := if 7 ≤ q then s.rdN .sinFreq 0 (q - 7) else 0 }

/-- The routing of an entry starts (R497). -/
def startRouting (k e : Nat) (urgent : Bool) : Prog := .ask fun s => .seq
  (modConv k fun c => { c with phase := 1, entry := e, urgent := urgent, since := s.time.toNat, discharge := s.rdN .heathDischarge })
  (latchExc k)

/-- A pass of a converter starts, if it has entries (R511). -/
def startPass (k : Nat) (first : Bool) : Prog := .ask fun s => match s.nextEntry k 0 with
  | none => .nop
  | some e => all
    [ countUp .passCount 0,
      modConv k fun c => { c with pass := if first then 0 else (c.pass + 1) % 4294967296, inPass := true, next := e, resume := 0 } ]

/-- The routing that follows on an idle converter: the urgent request, the next entry of the pass, or the first of the next pass
(R511, R512, R523). -/
def nextRouting (k : Nat) : Prog := .ask fun s => when (s.heathSt = 1 && (s.conv k).phase = 0) (all
  [ when (s.rdN .scanPeriod = 0 && !(s.conv k).inPass && (s.conv k).want.isNone) (startPass k false),
    .ask fun s =>
      let c := s.conv k
      match c.want with
      | some e => .seq (modConv k fun c => { c with want := none }) (startRouting k e true)
      | none => when c.inPass (match s.nextEntry k c.next with
        | some e => .seq (modConv k fun c => { c with next := e + 1 }) (startRouting k e false)
        | none => modConv k fun c => { c with inPass := false }) ])

/-- A change of Heath's state, which counts in its epoch (R95). -/
def heathTo (st : Nat) : Prog := .seq (wrN .heathState 0 st) (bump unitHeath)

/-- STOPPING ends once nothing runs and nothing awaits delivery (Heath state table). -/
def heathStopped : Prog := .ask fun s =>
  when (s.heathSt = 2 && (List.range 3).all fun k => (s.conv k).phase = 0 && (s.conv k).results = [])
    (.seq (heathTo 0) (each (List.range 8) fun q => output (.excitation (q + 1) false 0 0)))

/-- The mains period that MI uses, in ns, and whether it is that of MAINS_NOMINAL (R506, R507). -/
def State.mainsPeriod (s : State) : Nat × Bool :=
  let p := s.heath.periods
  if s.heath.lost || p = [] then ((roundDiv 1000000000 (s.rdN .mainsNominal)).toNat, true)
  else ((roundDiv (p.foldl (· + ·) 0 : Nat) p.length).toNat, false)

/-- t_s of an SDC rate in µs (SDC-rate table). -/
def settledTime (rate : Nat) : Rat :=
  ([2000000, 1000000, 500000, 300000, 200000, 100000, mkRat 250000 3, 50000, 12500, 5000, 2500, mkRat 4000 3, mkRat 2000 3]).getD rate 0

/-- The least integer not below a rational number. -/
def ceilRat (q : Rat) : Int := -((-q).num / (-q).den)

/-- t_c of an entry in µs (conversion-time table). -/
def State.convTime (s : State) (c : Conv) : Rat :=
  let e := c.entry
  let t := settledTime (s.scan e 4)
  if s.scanConv e = 3 then mkRat (2 ^ s.scan e 4 * c.period : Nat) 1000 + 2000
  else match s.scanExc e with
    | 2 => 2 * t + (c.bxSettle : Int)
    | 3 => mkRat (ceilRat (t * (c.sinFreq : Int) / 1000000) * 1000000) (max 1 c.sinFreq)
    | 1 => if s.scanWiring e = 1 then 2 * t + 1 + (s.scanSettle e : Int) else t
    | _ => t

/-- HEATH_ROUTING_DONE on converter k: the conversion starts (R497, R506, R523). -/
def execHeathRoutingDone (k : Fin 3) (s : State) : Host.Outcome State Fault Refusal :=
  done (inIsland islHeath (.ask fun s => when ((s.conv k).phase = 1 && s.heathSt ≠ 0) (
    let (p, free) := s.mainsPeriod
    let c := s.conv k
    let q := s.scan c.entry 3
    .seq (modConv k fun c => { c with phase := 2, period := p, free := free })
      (when (q ≠ 0) (output (.excitation q true c.level c.sinFreq)))))) s

/-- The codes of a converter, at either end where the input leaves the span (R504, R505, R508). -/
def State.codeMax (s : State) (e : Nat) : Int := if s.scanConv e = 3 then 2097152 else 8388608
def State.codeOf (s : State) (e : Nat) (z : Int) : Int := clampZ (-(s.codeMax e)) (s.codeMax e - 1) z

/-- HEATH_CONVERSION_END on converter k: its code; for a bridge the second half's code and the excitations measured at the balls in
µV, with 3 wires the code of the lead, for a sine the quadrature code; the highest output of the current source in mV, whose compliance is 10 V
(R498, R500 to R505, R515, R523). -/
def execHeathConversionEnd (k : Fin 3) (code code2 quad : Int) (e1 e2 : BitVec 32) (source : BitVec 16) (s : State) :
    Host.Outcome State Fault Refusal :=
  done (inIsland islHeath (.ask fun s =>
    let c := s.conv k
    let e := c.entry
    when (c.phase = 2) (all
      [ modConv k (fun c => { c with
          phase := 0, inPass := c.inPass && (s.nextEntry k c.next).isSome,
          results := c.results ++ [
            { entry := e, time := (s.stamp islHeath).toNat, pass := c.pass, urgent := c.urgent, late := s.heathSt = 2,
              code := s.codeOf e code, code2 := s.codeOf e code2, quad := s.codeOf e quad, e1 := e1.toNat, e2 := e2.toNat,
              opened := decide (10000 < source.toNat) && s.scanExc e = 1, free := c.free && s.scanConv e = 3, isrc := c.isrc,
              tconv := i32 (roundRat (s.convTime c)) }] }),
        .op .free,
        when (s.scan e 3 ≠ 0 && !(s.heathSt = 1 && bitAt (s.scan e 2) 3)) (output (.excitation (s.scan e 3) false 0 0)),
        nextRouting k ]))) s

/-- SCAN_PERIOD_TICK (R512). -/
def execScanPeriodTick (s : State) : Host.Outcome State Fault Refusal :=
  done (inIsland islHeath (.ask fun s => when (s.heathSt = 1 && s.rdN .scanPeriod ≠ 0) (
    let late := (List.range 3).find? fun k => (s.conv k).inPass
    .seq
      (each (List.range 3) fun k => when (!(s.conv k).inPass) (.seq (startPass k false) (nextRouting k)))
      (match late with
        | some k => when (!s.heath.overrun) (.seq (modHeath fun x => { x with overrun := true })
            (emit .scanOverrun unitHeath islHeath (u32 (k + 1))))
        | none => .nop)))) s

/-- MAINS_ZERO_CROSSING: a rising crossing of MAINS_REF, `period` ns after the last (R506, R507). -/
def execMainsZeroCrossing (period : BitVec 32) (s : State) : Host.Outcome State Fault Refusal :=
  done (inIsland islHeath (all
    [ modHeath (fun x =>
        let p := period.toNat
        let good := decide (1000000000 ≤ 65 * p) && decide (45 * p ≤ 1000000000)
        { x with periods := (p :: x.periods).take 8, bad := if good then 0 else x.bad + 1,
                 lost := x.lost && !good }),
      .ask fun s =>
        let l := s.heath.periods
        wr .mainsFreq 0 (ratReal (mkRat (1000000000 * l.length : Nat) (max 1 (l.foldl (· + ·) 0)))),
      .ask fun s => when (decide (8 ≤ s.heath.bad) && !s.heath.lost) (.seq
        (modHeath fun x => { x with lost := true }) (emit .mainsLost unitHeath islHeath)) ])) s

/-! ### Linearisation -/

/-- A quotient; one by 0 is a value that the spec does not state. -/
def quot (a b : Rat) (free : Nat) : Rat := if b = 0 then (free : Int) else a / b

/-- The voltage of a code (R504, R505). -/
def State.volts (s : State) (e : Nat) (code : Int) : Rat :=
  if s.scanConv e = 3 then mkRat (10 * code) (2097152 * 10 ^ s.scan e 5)
  else mkRat (5 * code) (2 * 8388608 * 2 ^ s.scan e 5)

/-- PHYS (R501, R502, R515). -/
def State.phys (s : State) (r : HResult) (free : Nat) : Rat :=
  let e := r.entry
  let v := s.volts e r.code
  let i := realRat r.isrc / 1000000
  match s.scanExc e with
  | 1 => match s.scanWiring e with
    | 0 => quot v i free - realRat (s.scanReal e 20)
    | 1 => quot (v - s.volts e r.code2) i free
    | _ => quot v i free
  | 2 => 1000 * (quot v (mkRat r.e1 1000000) free - quot (s.volts e r.code2) (mkRat r.e2 1000000) free) / 2
  | _ => v

/-- The resistances of curves 1 to 3, in Ω at a temperature (curve table). -/
def curveR (curve : Nat) (t : Rat) : Rat :=
  if curve ≤ 2 then
    (if curve = 1 then 100 else 1000) *
      (1 + mkRat 39083 10000000 * t - mkRat 5775 10000000000 * t * t
        + (if t < 0 then - mkRat 4183 1000000000000000 * (t - 100) * t * t * t else 0))
  else 1000 * (1 + mkRat 5485 1000000 * t + mkRat 665 100000000 * t * t + mkRat 2805 100000000000000 * t * t * t * t
    - mkRat 20 1000000000000000000 * t * t * t * t * t * t)

/-- The temperature at which a rising function reaches a value, between two bounds in 2⁻¹² K. -/
def invert (f : Rat → Rat) (y : Rat) : Nat → Int → Int → Int
  | 0, lo, _ => lo
  | n + 1, lo, hi =>
    let m := (lo + hi) / 2
    if f (mkRat m 4096) ≤ y then invert f y n m hi else invert f y n lo m

/-- The valid range of curves 1 to 10, in °C (curve table; for the thermocouples that of their reference functions:
PRESUMED, log 16). -/
def curveRange (curve : Nat) : Int × Int :=
  ([(0, 0), (-200, 850), (-200, 850), (-60, 250), (0, 1820), (-270, 1000), (-210, 1200), (-270, 1372), (-270, 1300), (-50, 1768),
    (-270, 400)]).getD curve (0, 0)

/-- A numerical inversion comes within 0.005 K of its function (R517): how near is a free value (DESIGN CHOICE, log 17). -/
def nearBy (t : Rat) (free : Nat) : Rat := t + mkRat ((free % 9001 : Nat) - 4500 : Int) 1000000

/-- Between two points of a user curve. -/
def piecewise : List (Rat × Rat) → Rat → Rat
  | [], _ => 0
  | [p], _ => p.2
  | p :: q :: l, x => if x ≤ q.1 then p.2 + (q.2 - p.2) * (x - p.1) / (q.1 - p.1) else piecewise (q :: l) x

/-- The curve's output, and whether PHYS lies outside its range (R516 to R519). `cj` is the cold-junction temperature. -/
def State.curveOut (s : State) (e : Nat) (phys cj : Rat) (free : Nat) : Rat × Bool :=
  let curve := s.scan e 6
  let (lo, hi) := curveRange curve
  if curve = 0 then (realRat (s.scanReal e 12) * phys + realRat (s.scanReal e 16), false)
  else if curve ≤ 3 then
    if phys < curveR curve lo then (lo, true) else if curveR curve hi < phys then (hi, true)
    else (nearBy (mkRat (invert (curveR curve) phys 24 (4096 * lo) (4096 * hi)) 4096) free, false)
  else if curve ≤ 10 then
    let emf := phys + Config.thermoEmf (curve - 4) cj
    if emf < Config.thermoEmf (curve - 4) lo then (lo, true) else if Config.thermoEmf (curve - 4) hi < emf then (hi, true)
    else (nearBy (Config.thermocouple (curve - 4) emf) free, false)
  else if curve ≤ 15 then
    let k (n : Nat) : Rat := realRat (u32 (s.wordAt (ntcCoefAt + 12 * (curve - 12) + 4 * n) 4))
    let l := Config.ln phys
    let x := k 0 + k 1 * l + k 2 * l * l * l
    if phys ≤ 0 || x ≤ 0 then (if free % 2 = 0 then -55 else 200, true)
    else
      let t := 1 / x - mkRat 27315 100
      if t < -55 then (-55, true) else if 200 < t then (200, true) else (t, false)
  else
    let pts := s.userCurve (curve - 16)
    let a := pts.headD (0, 0)
    let b := pts.getLastD (0, 0)
    if phys < a.1 then (a.2, true) else if b.1 < phys then (b.2, true) else (piecewise pts phys, false)

/-- Powers by repeated products. -/
def powRat (x : Rat) (n : Nat) : Rat := (List.replicate n x).foldl (· * ·) 1

/-- Σ c(4i + j) xⁱ yʲ (R520). -/
def State.polynomial (s : State) (set : Nat) (x y : Rat) : Rat :=
  (List.range 16).foldl (fun a n =>
    a + realRat (u32 (s.wordAt (polySetsAt + 64 * set + 4 * n) 4)) * powRat x (n / 4) * powRat y (n % 4)) 0

/-! ### Delivery -/

/-- The latest VALUE that an entry names, or 0, and whether it is stale (R517, R520, R521). -/
def State.latest (s : State) (x : Nat) : U32 × Bool :=
  if x = 0xFF then (0, false) else if x ∈ s.heath.seen then (s.rd .heathValue 0 x, false) else (0, true)

/-- A pair's entries (R526). -/
def State.pairOf (s : State) (p : Nat) : Option (Nat × Nat) :=
  let v := s.rdN .plausEntries 0 p
  if v = 0xFFFF then none else some (v % 256, v / 256)

/-- The comparison of a pair after the delivery of e, if one is made: whether it disagrees, and A − B (R526). -/
def State.plausCompare (s : State) (p e : Nat) : Option (Bool × U32) :=
  match s.pairOf p with
  | none => none
  | some (a, b) =>
    if (e = a ∨ e = b) ∧ a ∈ s.heath.seen ∧ b ∈ s.heath.seen then
      let d := realRat (s.rd .heathValue 0 a) - realRat (s.rd .heathValue 0 b)
      some (decide (realRat (s.rd .plausTol 0 p) < d) || decide (realRat (s.rd .plausTol 0 p) < -d), ratReal d)
    else none

def State.plausBit (s : State) (p : Nat) : Bool := bitAt (s.rdN .plausState) p

/-- PLAUS_COMPARE of a pair (R526, R527). -/
def plausStep (p e : Nat) : Prog := .ask fun s => match s.plausCompare p e with
  | none => .nop
  | some (bad, d) =>
    let n := if bad then s.heath.counts.getD p 0 + 1 else 0
    .seq (modHeath fun x => { x with counts := x.counts.set p n, last := x.last.set p bad })
      (if !bad then wrN .plausState 0 (s.rdN .plausState - (if s.plausBit p then 2 ^ p else 0))
       else when (decide (s.rdN .plausLimit 0 p ≤ n) && !s.plausBit p) (.seq
         (wrN .plausState 0 (s.rdN .plausState + 2 ^ p))
         (if s.rdN .plausAction 0 p = 0 then emit .plausWarn unitHeath islHeath (u32 p) d
          else .seq (modHeath fun x => { x with halts := if p ∈ x.halts then x.halts else p :: x.halts })
            (emit .plausHalt unitHeath islHeath (u32 p)))))

/-- A record that its stream or ring cannot take (R529). -/
def heathDrop (k : Nat) : Prog := .ask fun s => .seq (countUp .heathDropped 0)
  (when (!s.heath.dropping) (.seq (modHeath fun x => { x with dropping := true })
    (emit .heathDropped unitHeath islHeath (u32 k))))
def heathTaken : Prog := modHeath fun x => { x with dropping := false }

/-- A record goes to its stream, or to the slot RING_HEAD of RESULT_RING (R528). The DEVICE_SEQ of a record in the ring is assigned
as it is written; while HOST is fenced it is a free value. -/
def heathRecord (rcd : List Byte) : Prog := .ask fun s =>
  let k := s.rdN .heathRoute
  if k ≠ 0xFF then modStream k fun x => { x with coming := x.coming ++ [rcd] }
  else if s.fenced islStore then heathDrop 0xFF
  else all
    [ heathTaken,
      if s.fenced islHost then .op .free else .op .nextSeq,
      .op (.bytes (resultRingAt + 64 * s.rdN .ringHead)
        (leBytes 4 (if s.fenced islHost then Config.free s.fresh else s.rep.seq.toNat + 1) ++ rcd.drop 4)),
      wrN .ringHead 0 ((s.rdN .ringHead + 1) % 1024) ]

/-- HEATH_RESULT_DELIVERY on converter k (R500, R508, R515 to R522, R526 to R529). -/
def execHeathResultDelivery (k : Fin 3) (s : State) : Host.Outcome State Fault Refusal :=
  done (inIsland islHeath (.ask fun s => match (s.conv k).results with
    | [] => .nop
    | r :: rest =>
      let e := r.entry
      let f := Config.free s.fresh
      let (cj, cjStale) := if 4 ≤ s.scan e 6 ∧ s.scan e 6 ≤ 10 then s.latest (s.scan e 11) else (0, false)
      let (y, yStale) := if s.scan e 7 ≤ 15 then s.latest (s.scan e 10) else (0, false)
      let phys := s.phys r f
      let (x, outside) := s.curveOut e phys (realRat cj) f
      let value := ratReal (if s.scan e 7 ≤ 15 then s.polynomial (s.scan e 7) x (realRat y) else x)
      let atEnd (c : Int) : Bool := c = -(s.codeMax e) || c = s.codeMax e - 1
      let two := s.scanExc e = 2 || (s.scanExc e = 1 && s.scanWiring e = 1)
      let ranged := atEnd r.code || (two && atEnd r.code2) || (s.scanExc e = 3 && atEnd r.quad)
      let raw := if s.scanExc e = 2 then roundDiv (r.code - r.code2) 2 else r.code
      all
        [ .op .free,
          modConv k (fun c => { c with results := rest,
                                       resume := if !r.urgent && r.pass = c.pass then e + 1 else c.resume }),
          wri .heathValue 0 e value,
          modHeath (fun h => { h with seen := if e ∈ h.seen then h.seen else e :: h.seen }),
          .ask fun s =>
            let held (p : Nat) : Bool := s.plausBit p && (match s.pairOf p with | some (a, b) => a = e || b = e | none => false)
              && (match s.plausCompare p e with | some (bad, _) => bad | none => true)
            let flags := bit01 r.late + 2 * bit01 r.urgent + 4 * bit01 ranged + 8 * bit01 r.opened + 16 * bit01 outside
              + 32 * bit01 cjStale + 64 * bit01 yStale + 128 * bit01 r.free + 256 * bit01 ((List.range 4).any held)
            .seq (each (List.range 4) fun p => plausStep p e)
              (heathRecord (padTo 64 (leBytes 4 0 ++ leBytes 8 r.time ++ leBytes 4 r.pass ++ leBytes 2 (s.epochOf unitHeath)
                ++ leBytes 1 e ++ leBytes 1 4 ++ leBytes 4 flags ++ leBytes 4 (raw % 4294967296).toNat
                ++ leBytes 4 (ratReal phys).toNat ++ leBytes 4 value.toNat
                ++ leBytes 4 (if s.scanExc e = 3 then ratReal (s.volts e r.quad) else 0).toNat ++ leBytes 4 y.toNat
                ++ leBytes 4 r.tconv.toNat ++ leBytes 1 (k.val + 1)))),
          when (r.opened && !(decide (e ∈ s.heath.opened))) (.seq (modHeath fun h => { h with opened := e :: h.opened })
            (emit .sensorOpen unitHeath islHeath (u32 e))),
          when (ranged && !s.heath.ranged) (.seq (modHeath fun h => { h with ranged := true })
            (emit .heathOverrange unitHeath islHeath (u32 e))),
          heathStopped ])) s

/-! ### Writes of Heath entries -/

def heathEntValue (s : State) (n : Name) (w : U32) : Status :=
  let v := w.toNat
  match n with
  | .heathRoute => need (decide (v ≤ 7) || v = 0xFF) .range
  | .urgent => need (decide (v ≤ 63) && s.scanConv v ≠ 0) .range
  | .mainsNominal => oneOf [50, 60] v
  | .isrcUa => within 10 2000 v
  | .bxLevel | .plausAction => oneOf [0, 1] v
  | .sinFreq => inRange 1000 20000 v
  | .sinAmpl => inRange 100 2000 v
  | .plausLimit => inRange 1 255 v
  | _ => .ok

/-- The pairs that a PLAUS_CLR concerns (R527). -/
def State.plausHalts (s : State) (v : Nat) : List Nat := s.heath.halts.filter fun p => bitAt v p

def heathEntState (s : State) (n : Name) (w : U32) : Status :=
  match n with
  | .heathEn => if w = 0 ∨ s.heathSt = 1 then .ok
      else if s.heathSt = 2 then .busy else need s.badScan.isNone .scanInvalid
  | .urgent => firstBad [need (s.heathSt = 1) .heathOff, need (s.conv (s.scanConv w.toNat - 1)).want.isNone .busy]
  | .plausClr => need ((s.plausHalts w.toNat).all fun p => !(s.heath.last.getD p false)) .plausActive
  | _ => .ok

/-- A refused HEATH_EN leaves the failing entry in BAD_ENTRY (R509). -/
def heathInvalid : Prog := .ask fun s => wrN .badEntry 0 (s.badScan.getD 0xFF)

/-- HEATH_EN ← 1 (Heath state table). -/
def heathStart : Prog := .ask fun s => when (s.heathSt = 0) (all
  [ wr .badEntry 0 0xFF, heathTo 1,
    modHeath fun h => { h with seen := [], opened := [], ranged := false, overrun := false },
    each (List.range 3) fun k => all
      [ modConv k fun _ => {}, startPass k true, nextRouting k ] ])

/-- HEATH_EN ← 0: routings end at once, running conversions go on (R534). -/
def heathStop : Prog := .ask fun s => when (s.heathSt = 1) (all
  [ heathTo 2,
    each (List.range 3) fun k => modConv k fun c =>
      { c with want := none, inPass := false, phase := if c.phase = 1 then 0 else c.phase },
    heathStopped ])

/-- The settings that a routing takes up at its step 5, or at its step 3 (R532). -/
def relatch : Prog := .ask fun s => each (List.range 3) fun k =>
  let c := s.conv k
  when (c.phase = 1 && decide (s.time.toNat < c.since + stepFive c.discharge)) (latchExc k)
def redischarge : Prog := .ask fun s => each (List.range 3) fun k => modConv k fun c =>
  if c.phase = 1 && decide (s.time.toNat < c.since + 2000) then { c with discharge := s.rdN .heathDischarge } else c

/-- What an accepted write of a Heath entry does beyond taking its value. -/
def heathEntEffect (n : Name) (w : U32) : Prog :=
  match n with
  | .heathEn => if w = 0 then heathStop else heathStart
  | .scanPeriod => when (w = 0) (each (List.range 3) nextRouting)
  | .urgent => .ask fun s =>
    let k := s.scanConv w.toNat - 1
    .seq (modConv k fun c => { c with want := some w.toNat }) (nextRouting k)
  | .isrcUa | .bxLevel | .bxSettle | .sinFreq | .sinAmpl => relatch
  | .heathDischarge => redischarge
  | .plausClr => .ask fun s =>
    let l := s.plausHalts w.toNat
    when (l ≠ []) (.seq (modHeath fun h => { h with halts := h.halts.filter fun p => !(decide (p ∈ l)) })
      (.ask fun s => when (s.heath.halts = []) (clearEvent .plausHalt unitHeath islHeath)))
  | _ => .nop

/-- Whether excitation q (1 to 8 as EXC codes) is on (R498). -/
def State.excitationOn (s : State) (q : Nat) : Bool :=
  !s.fenced islHeath && s.heathSt ≠ 0 && (
    ((List.range 3).any fun k =>
      let c := s.conv k
      s.scan c.entry 3 = q && (c.phase = 2 || (c.phase = 1 && decide (c.since + stepFive c.discharge ≤ s.time.toNat))))
    || (s.heathSt = 1 && (List.range 64).any fun e =>
      s.scanConv e ≠ 0 && s.scan e 3 = q && bitAt (s.scan e 2) 3))

/-! ### Fences -/

/-- HEATH is fenced: the routes open; the conversion in the modulators is discarded (readmission table). -/
def fenceHeath : Prog := each (List.range 3) fun k => modConv k fun c =>
  { c with phase := 0, results := [] }

/-- HEATH is readmitted: the scan list resumes after the last delivered entry. -/
def readmitHeath : Prog := .ask fun s => if s.heathSt = 1 then each (List.range 3) fun k => .seq
    (modConv k fun c => { c with next := c.resume, inPass := c.inPass || decide (c.resume < c.next) })
    (nextRouting k)
  else heathStopped

end Sys2Proof.Machine
end

