-- ==== Sys2Proof/Machine/Timers.lean ====
section
/-! DEFINITION. The timer channels and the trigger bus (*Timers and the trigger bus*). -/
namespace Sys2Proof.Machine

open Prog

/-! ### Counting -/

def tmStopped : Nat := 0
def tmArmed : Nat := 1
def tmRunning : Nat := 2

/-- The TIMER cycle, of 2.5 ns. -/
def State.cycle (s : State) : Nat := s.time.toNat / 10

/-- A quantity of 48 bits in two entries. -/
def State.rd48 (s : State) (lo hi : Name) (c : Nat) : Nat := s.rdN lo c + 4294967296 * s.rdN hi c
def State.cmpA (s : State) (c : Nat) : Nat := s.rd48 .cmpALo .cmpAHi c
def State.cmpB (s : State) (c : Nat) : Nat := s.rd48 .cmpBLo .cmpBHi c
def State.periodShadow (s : State) (c : Nat) : Nat := s.rd48 .periodLo .periodHi c

/-- The live period length P (R540). -/
def State.livePeriod (s : State) (c : Nat) : Nat := if (s.timer c).period = 0 then 2 ^ 48 else (s.timer c).period

/-- The length of an input clock in counts of 250 ps, for the clocks that the time base gives (R538). -/
def State.clockStep (s : State) (c : Nat) : Option Nat :=
  match s.rdN .clkSrc c with | 0 => some 10 | 1 => some 160 | _ => none

/-- The input clocks since the anchor: by the time base, or the rollovers of channel c − 1; `none` for TCLK0 to TCLK3. -/
def State.clocks (s : State) (c : Nat) : Option Nat :=
  match s.clockStep c with
  | some d => some (s.time.toNat / d - (s.timer c).since / d)
  | none => if s.rdN .clkSrc c = 6 then some (s.timer c).clks else none

/-- The ticks in k input clocks from an accumulator (R539). -/
def ticksIn (n f acc k : Nat) : Nat := (65536 * (k + 1) - 1 - acc) / (65536 * n + f)
/-- The input clocks that so many ticks last. -/
def clocksFor (n f acc ticks : Nat) : Nat := ticks * n + (acc + ticks * f) / 65536

def State.ticks (s : State) (c : Nat) : Option Nat :=
  (s.clocks c).map (ticksIn (s.rdN .prescN c) (s.rdN .prescF c) (s.timer c).acc)

/-- Whether ticks are counted: RUNNING, not fenced and, in gate mode, the source active (R556). -/
def State.slaveActive (s : State) (c : Nat) : Bool := (s.timer c).level == decide (s.rdN .slaveEdgeSel c = 0)
def State.counting (s : State) (c : Nat) : Bool :=
  s.rdN .tmrState c = tmRunning && !s.fenced islTimer && (s.rdN .slaveMode c ≠ 3 || s.slaveActive c)

/-- The count, without its wrap at P; a free value from the anchor to P − 1 on an external clock. -/
def State.rawCount (s : State) (c : Nat) : Nat :=
  let t := s.timer c
  if s.counting c then
    match s.ticks c with
    | some n => t.count + n
    | none => t.count + Config.free s.fresh % (max 1 (s.livePeriod c - t.count))
  else t.count
/-- The count (R540). -/
def State.timerCount (s : State) (c : Nat) : Nat := min (s.rawCount c) (s.livePeriod c - 1)

/-- The anchor moves on by so many ticks, the count becoming `count`. -/
def anchorAt (c ticks count : Nat) : Prog := .ask fun s => modTimer c fun t =>
  let n := s.rdN .prescN c
  let f := s.rdN .prescF c
  let used := clocksFor n f t.acc ticks
  { t with count := count, acc := (t.acc + ticks * f) % 65536, clks := t.clks - used,
           since := match s.clockStep c with | some d => (t.since / d + used) * d | none => s.time.toNat }

/-- The anchor moves to the last tick. -/
def reanchor (c : Nat) : Prog := .ask fun s => .seq (anchorAt c ((s.ticks c).getD 0) (s.timerCount c)) (.op .free)

/-- The count becomes 0 now, with the prescaler started afresh; `bar` where that is no change of the count (R543). -/
def countZero (c : Nat) (bar : Bool) : Prog := .ask fun s => modTimer c fun t =>
  { t with count := 0, acc := 0, clks := 0, since := s.time.toNat,
           barA := if bar then some 0 else none, barB := if bar then some 0 else none }

/-- A change of channel state (R537). -/
def timerTo (c st : Nat) : Prog := .ask fun s =>
  when (s.rdN .tmrState c ≠ st) (.seq (wrN .tmrState c st) (bump (unitTimer c)))

/-- The shadow of the period is loaded (R541). -/
def loadPeriod (c : Nat) (late : Bool) : Prog := .ask fun s => modTimer c fun t =>
  { t with period := match t.wrP with
      | some (k, old) => if late && k = s.cycle then old else s.periodShadow c
      | none => s.periodShadow c }

/-! ### Outputs -/

/-- The output of a channel takes a level one TIMER cycle later (R551, R552). -/
def pinTo (c : Nat) (level : Bool) : Prog := .ask fun s => .seq
  (modTimer c fun t => { t with pin := level })
  (when (s.rdN .outMode c ≠ 0 && decide (s.rdN .outPin c ≤ 15) && (s.timer c).pin != level)
    (output (.tio (s.rdN .outPin c) level (s.cycle + 1))))

/-- The pulse that an event of a channel now puts on its trigger-bus line, in the cycle after it. -/
def State.busOut (s : State) (c : Nat) : Output := .triggerBus (s.rdN .tbLine c) (s.cycle + 1)

/-- Whether an event of a channel adds a pulse to its trigger-bus line; pulses of one cycle form one (R553, R554). -/
def State.pulses (s : State) (c ev : Nat) : Bool :=
  s.rdN .tbEvent c = ev && decide (s.rdN .tbLine c ≤ 15) && !(decide (s.busOut c ∈ s.out))

/-- The trigger-bus line of a channel carries a pulse for an event (R553, R554). -/
def busPulse (c ev : Nat) : Prog := .ask fun s => when (s.pulses c ev) (output (s.busOut c))

/-! ### Events of a channel -/

/-- TIMER_ROLLOVER of channel c: the tick after P − 1 (R540, R541, R553, R558, R559, channel state table). -/
def execTimerRollover (c : Fin 32) (s : State) : Host.Outcome State Fault Refusal :=
  done (inIsland islTimer (.ask fun s =>
    let t := s.timer c
    let p := s.livePeriod c
    let due := match s.ticks c with | some n => decide (p ≤ t.count + n) | none => true
    when (s.counting c && due) (all
      [ anchorAt c (match s.ticks c with | some _ => p - t.count | none => 0) 0,
        loadPeriod c true,
        modTimer c (fun t => { t with barA := none, barB := none, rollAt := some s.cycle, rollsWas := s.rdN .rollovers c, rollPulse := s.pulses c 1 }),
        countUp .rollovers c,
        busPulse c 1,
        when (decide (c.val + 1 < 32) && s.rdN .clkSrc (c + 1) = 6) (modTimer (c + 1) fun t => { t with clks := t.clks + 1 }),
        when (s.rdN .slaveMode c = 1 && s.rdN .slaveWatch c ≠ 0) (.seq
          (modTimer c fun t => { t with turns := t.turns + 1 })
          (when (!t.lost && decide (s.rdN .slaveWatch c ≤ t.turns + 1)) (.seq
            (modTimer c fun t => { t with lost := true }) (emit .slaveLost (unitTimer c) islTimer (u32 c))))),
        when (s.rdB .oneShot c) (.seq (countZero c true)
          (if s.rdN .slaveMode c = 2 then timerTo c tmArmed else .seq (timerTo c tmStopped) (p6Write .tmrRun c 0))) ]))) s

/-- The compare value in force in this cycle: the old one where a write completes in the cycle of a rollover (R547). -/
def inForce (now cur : Nat) (rollAt : Option Nat) (wr : Option (Nat × Nat)) : Nat :=
  match wr with
  | some (k, old) => if k = now ∧ rollAt = some now then old else cur
  | none => cur

/-- Whether the count changes to a value now (R545, R548). -/
def State.reaches (s : State) (c v : Nat) (bar : Option Nat) : Bool :=
  s.counting c && decide (v < s.livePeriod c) && bar ≠ some v
    && (if (s.ticks c).isSome then decide (s.rawCount c = v) else decide ((s.timer c).count ≤ v))

/-- TIMER_MATCH of compare A or B of channel c (R545 to R549, R551 to R555). -/
def execTimerMatch (c : Fin 32) (isB : Bool) (s : State) : Host.Outcome State Fault Refusal :=
  done (inIsland islTimer (.ask fun s =>
    let t := s.timer c
    let v := if isB then inForce s.cycle (s.cmpB c) t.rollAt t.wrB else inForce s.cycle (s.cmpA c) t.rollAt t.wrA
    let mode := s.rdN .outMode c
    when (s.reaches c v (if isB then t.barB else t.barA)) (all
      [ modTimer c (fun t =>
          let t := if (s.ticks c).isSome then t else { t with count := v }
          if isB then { t with barB := some v, lowAt := some s.cycle } else { t with barA := some v }),
        if isB then when (mode = 1) (pinTo c false)
        else if mode = 2 then pinTo c (!t.pin)
        else when (mode = 1 && t.lowAt ≠ some s.cycle) (pinTo c true),
        busPulse c (if isB then 3 else 2),
        when (!isB && c.val = 31) (output (.frameSync s.cycle)) ]))) s

/-- A slave reset replaces a rollover of its own cycle (R558). -/
def undoRollover (c : Nat) : Prog := .ask fun s =>
  let t := s.timer c
  when (t.rollAt = some s.cycle) (all
    [ wrN .rollovers c t.rollsWas, when t.rollPulse (.op (.recall (s.busOut c))),
      when (decide (c + 1 < 32) && s.rdN .clkSrc (c + 1) = 6) (modTimer (c + 1) fun t => { t with clks := t.clks - 1 }),
      modTimer c fun t => { t with rollAt := none } ])

/-- Whether a level that has held so many counts at a source passes CAP_FILTER, which acts on pins (R557, R561). -/
def State.filtered (s : State) (c src held : Nat) : Bool := 0x20 ≤ src || decide (10 * s.rdN .capFilter c ≤ held)

/-- SLAVE_EDGE: an edge of channel c's slave source to a level, which has held for so many counts, acts (R556 to R559, R561). -/
def execSlaveEdge (c : Fin 32) (level : Bool) (held : BitVec 16) (s : State) : Host.Outcome State Fault Refusal :=
  done (inIsland islTimer (.ask fun s =>
    let mode := s.rdN .slaveMode c
    let chosen := level == decide (s.rdN .slaveEdgeSel c = 0)
    let st := s.rdN .tmrState c
    when (s.rdN .slaveSrc c ≠ 0 && s.filtered c (s.rdN .slaveSrc c) held.toNat) (all
      [ when (mode = 3 && st = tmRunning) (reanchor c),
        modTimer c (fun t => { t with level := level }),
        when chosen (match mode with
          | 1 => .seq (modTimer c fun t => { t with turns := 0, lost := false })
              (when (st = tmRunning) (all
                [ undoRollover c, modTimer c (fun t => { t with resetAt := some (s.cycle, s.timerCount c) }),
                  countZero c false, loadPeriod c false ]))
          | 2 => when (st = tmArmed) (.seq (countZero c true) (timerTo c tmRunning))
          | _ => .nop) ]))) s

/-- The capture entries of a channel, which a RUN ← 0 may take back (R566). -/
def captureEntries : List (Name × Nat) :=
  [(.capRiseLo, 0), (.capRiseHi, 0), (.capFallLo, 0), (.capFallHi, 0), (.capWidth, 0), (.capPeriod, 0), (.capSeq, 0), (.capTime, 0), (.capTime, 1)]

/-- What a capture is about to change is kept for its cycle (R566). -/
def keepCapture (c : Nat) : Prog := .ask fun s => modTimer c fun t =>
  if t.capAt = some s.cycle then t
  else { t with capAt := some s.cycle, capOld := captureEntries.map fun x => s.rd x.1 c x.2, edgesWas := t.edges, riseWas := t.lastRise }

/-- A capture of this cycle is taken back (R566). -/
def undoCapture (c : Nat) : Prog := .ask fun s =>
  let t := s.timer c
  when (t.capAt = some s.cycle) (.seq
    (each (captureEntries.zip t.capOld) fun x => wri x.1.1 c x.1.2 x.2)
    (modTimer c fun t => { t with capAt := none, edges := t.edgesWas, lastRise := t.riseWas }))

/-- CAPTURE_EDGE: an edge of channel c's capture source, accepted now and stamped `ago` counts earlier at the pin, where the level has held
since (R560 to R566). Of two edges less than 2.0 ns apart only the first is stamped (R870). -/
def execCaptureEdge (c : Fin 32) (rising : Bool) (ago : BitVec 16) (s : State) : Host.Outcome State Fault Refusal :=
  done (inIsland islTimer (.ask fun s =>
    let t := s.timer c
    let mode := s.rdN .capEdge c
    let n := if s.rdN .capPresc c = 0 then 256 else s.rdN .capPresc c
    let now := s.time.toNat - ago.toNat
    let counted := if mode = 1 then !rising else rising
    let taken := if counted then decide (n ≤ t.edges + 1) else (mode = 2 && t.openRise.isSome)
    let count := s.timerCount c
    let store (lo hi : Name) : Prog := .seq (wrN lo c count) (wrN hi c (count / 4294967296))
    let sat (d : Nat) : Nat := min d 4294967295
    let near := decide (s.rdN .capSrc c ≤ 0x11) && (match t.lastEdge with | some e => decide (now < e + 8) | none => false)
    when (s.rdN .tmrState c ≠ tmStopped && s.rdN .capSrc c ≠ 0 && s.filtered c (s.rdN .capSrc c) ago.toNat && !near) (all
      [ keepCapture c, modTimer c (fun t => { t with lastEdge := some now }),
        when counted (modTimer c fun t => { t with edges := if taken then 0 else t.edges + 1 }),
        when taken (all
          [ if rising then store .capRiseLo .capRiseHi else store .capFallLo .capFallHi,
            .op .free,
            wr64 .capTime c 0 now,
            when (mode = 2) (if rising then .seq
                (match t.lastRise with | some r => wrN .capPeriod c (sat (now - r)) | none => .nop)
                (modTimer c fun t => { t with lastRise := some now, openRise := some now })
              else .seq (wrN .capWidth c (sat (now - t.openRise.getD now)))
                (modTimer c fun t => { t with openRise := none })),
            wrN .capSeq c ((s.rdN .capSeq c + 1) % 4294967296) ]) ]))) s

/-! ### Writes of timer entries -/

def sourceCode (v : Nat) : Bool := decide (v ≤ 0x11) || (decide (0x20 ≤ v) && decide (v ≤ 0x2F))

def timerValue (s : State) (n : Name) (c : Nat) (w : U32) : Status :=
  let v := w.toNat
  match n with
  | .clkSrc => need (decide (v ≤ 6) && !(v = 6 && c = 0)) .range
  | .prescN => need (decide (1 ≤ v)) .tooLow
  | .outPin => need (v = 0xFF || (decide (v ≤ 15) && (List.range 32).all fun o => o = c || s.rdN .outPin o ≠ v)) .range
  | .outMode => oneOf [0, 1, 2] v
  | .tbLine => need (decide (v ≤ 15) || v = 0xFF) .range
  | .tbEvent => oneOf [0, 1, 2, 3] v
  | .capSrc | .slaveSrc => need (sourceCode v) .range
  | .capEdge => oneOf [0, 1, 2] v
  | .slaveMode => within 0 3 v
  | .slaveEdgeSel => oneOf [0, 1] v
  | _ => .ok

/-- The entries that only a STOPPED channel takes (R542). -/
def timerState (s : State) (n : Name) (c : Nat) : Status :=
  match n with
  | .clkSrc | .prescN | .prescF | .oneShot | .outPin | .slaveMode | .slaveSrc | .slaveEdgeSel | .slaveWatch | .capSrc | .capEdge
  | .capFilter | .capPresc => need (s.rdN .tmrState c = tmStopped) .timerRunning
  | _ => .ok

/-- What is kept of the value before a compare or period write (R541, R547). -/
def timerBefore (n : Name) (c : Nat) : Prog := .ask fun s =>
  let note (o : Option (Nat × Nat)) (cur : Nat) : Option (Nat × Nat) :=
    match o with | some (k, old) => if k = s.cycle then some (k, old) else some (s.cycle, cur) | none => some (s.cycle, cur)
  match n with
  | .cmpALo | .cmpAHi => modTimer c fun t => { t with wrA := note t.wrA (s.cmpA c) }
  | .cmpBLo | .cmpBHi => modTimer c fun t => { t with wrB := note t.wrB (s.cmpB c) }
  | .periodLo | .periodHi => modTimer c fun t => { t with wrP := note t.wrP (s.periodShadow c) }
  | _ => .nop

/-- What an accepted write of a timer entry does beyond taking its value (R543, R548, R566, channel state table). -/
def timerEffect (n : Name) (c : Nat) (w : U32) : Prog := .ask fun s =>
  let known := (s.ticks c).isSome || !s.counting c
  match n with
  | .tmrRun =>
    if w = 0 then when (s.rdN .tmrState c ≠ tmStopped) (all
      [ reanchor c, undoCapture c,
        modTimer c (fun t => { t with openRise := none, count := match t.resetAt with
          | some (k, n) => if k = s.cycle then n else t.count
          | none => t.count }),
        timerTo c tmStopped ])
    else when (s.rdN .tmrState c = tmStopped) (all
      [ countZero c true, loadPeriod c false, pinTo c false, modTimer c (fun t => { t with turns := 0, lost := false }),
        timerTo c (if s.rdN .slaveMode c = 2 then tmArmed else tmRunning) ])
  | .cmpALo | .cmpAHi => when (known && s.cmpA c = s.timerCount c) (modTimer c fun t => { t with barA := some (s.cmpA c) })
  | .cmpBLo | .cmpBHi => when (known && s.cmpB c = s.timerCount c) (modTimer c fun t => { t with barB := some (s.cmpB c) })
  | _ => .nop

/-! ### Fences -/

/-- TIMER is fenced: the counters freeze and captures are lost (fenced-behaviour table). -/
def fenceTimer : Prog := each (List.range 32) fun c => .seq (reanchor c) (modTimer c fun t => { t with openRise := none })

/-- TIMER is readmitted: each running channel restarts at count 0. -/
def readmitTimer : Prog := each (List.range 32) fun c => .ask fun s =>
  when (s.rdN .tmrState c = tmRunning) (countZero c true)

end Sys2Proof.Machine
end

