-- ==== Sys2Proof/Machine/Banks.lean ====
section
/-! DEFINITION. The banks, their owners and states, ECC, the background test, and the secure bank (*Memory banks, Blotter and the
secure bank*). -/
namespace Sys2Proof.Machine

open Prog

/-! ### Bank states -/

def bkOff : Nat := 0
def bkBlot : Nat := 1
def bkOn : Nat := 2
def bkDrain : Nat := 3
def bkFallow : Nat := 4

def State.bankSt (s : State) (b : Nat) : Nat := s.rdN .bankState b % 8

/-- A master's owner code (owner-code table). -/
def masterCode : Master → Nat
  | .path p => p.num | .line h => 0x10 + h | .stream k => 0x20 + k | .hmac => 0xFE

/-- Whether a master owns a bank (R573). -/
def State.owns (s : State) (b code : Nat) : Bool := decide (b < 24) && s.bankSt b = bkOn && s.rdN .owner b = code

/-- The records in the store of a stream whose bank leaves it are lost (R647). -/
def stageLost (b : Nat) : Prog := each (List.range 8) fun k => .ask fun s =>
  let x := s.stream k
  when (s.rdN .stageBank k = b && s.rdN .streamState k ≠ 0 && !x.storeLost) (all
    [ wrN .streamDropped k (min 4294967295 (s.rdN .streamDropped k + x.store.length)),
      modStream k fun x => { x with store := [], storeLost := true },
      emit .stageLost (unitStream k) islHost (pack [(8, k), (16, x.store.length)]) ])

/-- The row test of a bank is abandoned (R595). -/
def abandonTest (b : Nat) : Prog := .ask fun s => match s.rowTest.testing with
  | some (b', _) => when (b' = b) (.seq (modRowTest fun r => { r with testing := none })
      (when (decide (b < 24)) (wrN .bankState b (s.rdN .bankState b &&& 0xBF))))
  | none => .nop

/-- A change of bank state (R574, R575, R578). The mark clears with the state that ends a transition. -/
def bankTo (b st : Nat) : Prog := all
  [ abandonTest b,
    .ask fun s => wrN .bankState b ((s.rdN .bankState b &&& 0xB8) + st),
    bump (unitBank b),
    modBank b (fun x => { x with foreignR := false, foreignW := false, mark := x.mark && decide (st ∈ [1, 3]) }),
    when (st = bkDrain) (stageLost b) ]

def bankLost (b : Nat) : Prog := .seq (.op (.zero (bankBase b) 0x200000)) (wr .owner b 0xFF)

/-- A drain ends (bank-state table). -/
def drainEnd (b : Nat) : Prog := .ask fun s => when (s.bankSt b = bkDrain) (match (s.bank b).goal with
  | 1 => bankTo b bkBlot
  | 2 => bankTo b bkFallow
  | _ => .seq (bankLost b) (bankTo b bkOff))

/-- BANK_DRAIN_DONE (R580). -/
def execBankDrainDone (b : Fin 24) (s : State) : Host.Outcome State Fault Refusal :=
  done (inIsland islStore (drainEnd b)) s

/-- BANK_BLOT_DONE (R581, R582). -/
def execBankBlotDone (b : Fin 24) (s : State) : Host.Outcome State Fault Refusal :=
  done (inIsland islStore (.ask fun s => when (s.bankSt b = bkBlot) (all
    [ .op (.zero (bankBase b) 0x200000), bankTo b bkOn,
      when (s.rdN .owner b ≠ 0xFF) (emit .bankGranted (unitBank b) islStore (pack [(8, b), (8, s.rdN .owner b)])) ]))) s

/-- BANK_POWER_UP_DONE: an OFF bank that POWER_REQ turns on is powered. -/
def execBankPowerUpDone (b : Fin 24) (s : State) : Host.Outcome State Fault Refusal :=
  done (inIsland islStore (.ask fun s => when (s.bankSt b = bkOff && s.rdN .bankPowerReq b = 2) (bankTo b bkBlot))) s

/-- BANK_RETENTION_EXIT: a FALLOW bank that POWER_REQ turns on keeps its content and owner. -/
def execBankRetentionExit (b : Fin 24) (s : State) : Host.Outcome State Fault Refusal :=
  done (inIsland islStore (.ask fun s => when (s.bankSt b = bkFallow && s.rdN .bankPowerReq b = 2) (bankTo b bkOn))) s

/-! ### Writes of OWNER and POWER_REQ -/

def ownerCodes : List Nat := [0, 1, 2, 3, 4, 5, 0x10, 0x11, 0x12, 0x13, 0x20, 0x21, 0x22, 0x23, 0x24, 0x25, 0x26, 0x27, 0xFF]

/-- The status of an OWNER or POWER_REQ write (R576 to R578). -/
def bankWriteStatus (s : State) (n : Name) (b v : Nat) : Status :=
  let st := s.bankSt b
  if (s.bank b).mark then .busy
  else if v = s.rdN n b then .ok
  else if st = bkDrain ∨ st = bkBlot then .busy
  else match n with
    | .owner => need (st = bkOn) .bankPower
    | _ => need (!(st = bkOff && v = 1)) .bankPower

/-- A write that has no effect at all (R577). -/
def bankNoEffect (s : State) (n : Name) (b v : Nat) : Bool := decide (n ∈ [.owner, .bankPowerReq]) && v = s.rdN n b

/-- What an accepted change of OWNER or POWER_REQ does (R575, R578). -/
def bankEffect (n : Name) (b v : Nat) : Prog := .ask fun s =>
  let drain (goal : Nat) : Prog := .seq (modBank b fun x => { x with mark := true, goal := goal }) (bankTo b bkDrain)
  match n with
  | .owner => drain 1
  | _ =>
    if v = 2 then modBank b fun x => { x with mark := true }
    else if s.bankSt b = bkOn then drain (if v = 1 then 2 else 3)
    else when (s.bankSt b = bkFallow) (.seq (bankLost b) (bankTo b bkOff))

def bankValue (n : Name) (w : U32) : Status :=
  match n with
  | .owner => oneOf ownerCodes w.toNat
  | .bankPowerReq => oneOf [0, 1, 2] w.toNat
  | .bgtInterval => inRange 20 65535 w.toNat
  | _ => .ok

/-! ### Accesses -/

/-- A row is tested ahead of the rotation (R588). -/
def testAhead (b word : Nat) : Prog := modRowTest fun r => { r with ahead := r.ahead ++ [(b, word / 8192)] }

/-- A corrected error of a word, at its byte offset (R587). -/
def eccCorrected (b off : Nat) : Prog := .ask fun s => .seq (countUp .ceCount b)
  (when (!(s.bank b).corrected) (.seq (modBank b fun x => { x with corrected := true })
    (emit .eccCorrected (unitBank b) islStore (u32 b) (u32 off))))

/-- An uncorrectable word (R588). -/
def eccUncorrectable (b off : Nat) : Prog := all
  [ countUp .ueCount b, wrN .lastUeAddr b off, emit .eccUncorrectable (unitBank b) islStore (u32 b) (u32 off), testAhead b off ]

/-- A foreign access (R573, R574). -/
def foreign (b code : Nat) (write : Bool) : Prog := .ask fun s =>
  let x := s.bank b
  all
    [ countUp .foreignCount b,
      when (!(if write then x.foreignW else x.foreignR)) (.seq
        (modBank b fun x => if write then { x with foreignW := true } else { x with foreignR := true })
        (emit (if write then .bankForeignWrite else .bankForeignRead) (unitBank b) islStore (pack [(8, b), (8, code)]))) ]

/-- The words of a range of a bank, in ascending order. -/
def wordsIn (off n : Nat) (l : List (BitVec 18)) : List Nat :=
  (l.map fun w => 8 * w.toNat).filter fun w => decide (off < w + 8) && decide (w < off + n)

/-- The bytes that a master reads, words with an uncorrectable error as zero (R573, R588). -/
def State.bankData (s : State) (b code off n : Nat) (ue : List (BitVec 18)) : List Byte :=
  if s.fenced islStore || !s.owns b code then List.replicate n 0
  else (List.range n).map fun k =>
    if ue.any fun w => (off + k) / 8 = w.toNat then 0 else s.byteAt (bankBase b + (off + k) % 0x200000)

/-- A byte of SCRATCH: the journal lies at its start, entry k of the reset in slot k mod 1,024 (R152, R569, R597; DEDUCED, log 59). -/
def State.scratchByte (s : State) (off : Nat) : Byte :=
  if off < 0x8000 then
    match s.rep.journal[(s.rep.written + 1023 - off / 32 % 1024) % 1024]? with
    | some e => e.bytes.getD (off % 32) 0
    | none => 0
  else s.byteAt (scratchBase + off)

/-- What a read leaves behind. -/
def bankReadEffect (b code off n : Nat) (ce ue : List (BitVec 18)) : Prog := .ask fun s =>
  if s.fenced islStore then .nop
  else if !s.owns b code then foreign b code false
  else .seq (each (wordsIn off n ce) (eccCorrected b)) (each (wordsIn off n ue) (eccUncorrectable b))

/-- A write of a master: dropped where foreign; a word written in part is read first (R573, R589). -/
def bankWrite (b code off : Nat) (data : List Byte) (ce ue : List (BitVec 18)) : Prog := .ask fun s =>
  let n := data.length
  let part (l : List (BitVec 18)) : List Nat := (wordsIn off n l).filter fun w => decide (w < off) || decide (off + n < w + 8)
  if s.fenced islStore then .nop
  else if !s.owns b code then foreign b code true
  else all
    [ each (part ce) (eccCorrected b),
      each (part ue) (fun w => .seq (.op (.zero (bankBase b + w) 8)) (eccUncorrectable b w)),
      .op (.bytes (bankBase b + off) (data.take (0x200000 - off))) ]

/-- Whether the PCI Express link is up. -/
def State.linkUp (s : State) : Bool := bitAt (s.rdN .linkStatus) 12

/-- The wipe engine starts (R601, R602). -/
def wipe (cause : Nat) : Prog := all
  [ modSecure (fun x => { x with causes := x.causes ++ [cause] }), wr .keyState 0 2, wr .keyId 0 0 ]

/-- BANK_ACCESS_READ: a master reads `n` bytes at an address of the map of BAR2; `ce` and `ue` are the words of the bank with a
single-bit and with an uncorrectable error. The HMAC unit reads the key slot (R569 to R574, R587, R588, R602, R622, R624). -/
def execBankAccessRead (m : Master) (addr : BitVec 26) (n : BitVec 13) (ce ue : List (BitVec 18)) (s : State) :
    Host.Outcome State Fault Refusal :=
  done (live (.ask fun s =>
    let a := addr.toNat
    let b := a / 0x200000
    let off := a % 0x200000
    let n := n.toNat
    let data : List Byte := if b < 24 then s.bankData b (masterCode m) off n ue
      else (List.range n).map fun k =>
        if decide (a + k < 0x3080000) && !s.fenced islStore && !(ue.any fun w => (a + k - scratchBase) / 8 = w.toNat) then s.scratchByte (a + k - scratchBase)
        else 0
    match m with
    | .hmac => when (ue ≠ []) (wipe 4)
    | .path .p0 =>
      if !s.linkUp then .nop
      else if s.fenced islHost then output (.pcieReply (List.replicate n 0xFF))
      else .seq (output (.pcieReply data)) (when (decide (b < 24)) (bankReadEffect b 0 off n ce ue))
    | m => when (decide (b < 24)) (.seq (output (.busData data)) (bankReadEffect b (masterCode m) off n ce ue)))) s

/-- BANK_ACCESS_WRITE: a master writes bytes at an address of the map of BAR2 (R569, R570, R573, R589, R622, R624). -/
def execBankAccessWrite (m : Master) (addr : BitVec 26) (data : List Byte) (ce ue : List (BitVec 18)) (s : State) :
    Host.Outcome State Fault Refusal :=
  done (live (.ask fun s =>
    let b := addr.toNat / 0x200000
    let reaches : Bool := match m with | .path .p0 => s.linkUp && !s.fenced islHost | .hmac => false | _ => true
    when (reaches && decide (b < 24)) (bankWrite b (masterCode m) (addr.toNat % 0x200000) data ce ue))) s

/-! ### The background test -/

/-- Rows with their spares: 260 a bank, 68 for SCRATCH (bank 24). -/
def rotation : Nat := 24 * 260 + 68
def placeOf (pos : Nat) : Nat × Nat := if pos < 6240 then (pos / 260, pos % 260) else (24, pos - 6240)
def rowsOf (b : Nat) : Nat := if b < 24 then 256 else 64

/-- Whether a row is tested now: its bank is ON, and a spare row is not in use. -/
def State.testable (s : State) (b r : Nat) : Bool :=
  (b = 24 || s.bankSt b = bkOn) && !((s.retired b).any fun p => p.1 + rowsOf b = r)
def State.nextPlace (s : State) (pos : Nat) : Option Nat :=
  (List.range rotation).find? fun p => decide (pos ≤ p) && s.testable (placeOf p).1 (placeOf p).2

/-- ROW_TEST_START (R588, R590). -/
def execRowTestStart (s : State) : Host.Outcome State Fault Refusal :=
  done (inIsland islStore (.ask fun s =>
    let begin' (b r : Nat) : Prog := .seq (modRowTest fun x => { x with testing := some (b, r) })
      (when (decide (b < 24)) (wrN .bankState b (s.rdN .bankState b ||| 0x40)))
    when (s.rdB .bgtEn && s.rowTest.testing.isNone) (
      match s.rowTest.ahead.find? fun p => s.testable p.1 p.2 with
      | some (b, r) => .seq (modRowTest fun x => { x with ahead := x.ahead.erase (b, r) }) (begin' b r)
      | none => match s.nextPlace s.rowTest.pos with
        | some p => .seq (modRowTest fun x => { x with pos := p + 1 }) (begin' (placeOf p).1 (placeOf p).2)
        | none => .nop))) s

/-- ROW_TEST_DONE: the March test of the row under test passed or failed (R590, R592, R593, R596). -/
def execRowTestDone (failed : Bool) (s : State) : Host.Outcome State Fault Refusal :=
  done (inIsland islStore (.ask fun s => match s.rowTest.testing with
    | none => .nop
    | some (b, r) =>
      let used := s.retired b
      let spare := (List.range 4).find? fun k => !(used.any fun p => p.1 = k)
      let unit := if b < 24 then unitBank b else 0
      all
        [ modRowTest (fun x => { x with testing := none }),
          when (decide (b < 24)) (wrN .bankState b (s.rdN .bankState b &&& 0xBF)),
          when failed (
            if rowsOf b ≤ r then .seq
              (modRetired b fun l => l ++ [(r - rowsOf b, r)]) (emit .rowRepaired unit islStore (pack [(8, b), (16, r)]))
            else match spare with
            | some k => .seq (modRetired b fun l => l ++ [(k, r)]) (emit .rowRepaired unit islStore (pack [(8, b), (16, r)]))
            | none => .seq (when (decide (b < 24)) (.ask fun s => wrN .bankState b (s.rdN .bankState b ||| 0x80)))
                (emit .spareExhausted unit islStore (pack [(8, b), (16, r)]))),
          .ask fun s => when (s.nextPlace s.rowTest.pos).isNone (all
            [ modRowTest (fun x => { x with pos := 0 }), countUp .bgtPasses 0,
              each (List.range 24) fun b => modBank b fun x => { x with corrected := false } ]) ])) s

/-! ### The secure bank -/

/-- A stamp of SAFE and an event of it, while the X9 is in service (R609). -/
def emitSafe (ev : Event) (p1 : U32) : Prog := live (emit ev 0 islSafe p1)

/-- KEY_SLOT_WIPED (R601, R603). -/
def execKeySlotWiped (s : State) : Host.Outcome State Fault Refusal :=
  done (.ask fun s => when (s.secure.causes ≠ []) (.seq (.op (.zero secureBase 32))
    (each (List.range 4) fun h => .ask fun s => when (s.lineUnit h).page.isSome
      (.seq (modLineUnit h fun u => { u with queue := u.queue ++ [.close (s.stamp islLine).toNat] }) (.op .free))))) s

/-- SECURE_WIPE_DONE (R601). -/
def execSecureWipeDone (s : State) : Host.Outcome State Fault Refusal :=
  done (.ask fun s => when (s.secure.causes ≠ []) (all
    [ .op (.zero secureBase 0x40000), wr .keyState 0 0, modSecure (fun x => { x with causes := [] }),
      each s.secure.causes fun c => emitSafe .keyWiped (u32 c) ])) s

/-- LC_FUSES_BLOWN (R605, R610). -/
def execLcFusesBlown (s : State) : Host.Outcome State Fault Refusal :=
  done (.ask fun s => match s.secure.blow with
    | none => .nop
    | some v => all
      [ modSecure (fun x => { x with blow := none }), wrN .lifeCycle 0 v,
        when (decide (2 ≤ v)) (wr .tamperEn 0 0x0F), emitSafe .lcChanged (u32 v) ]) s

/-- Detectors that see their conditions set their bits; the first produces TAMPER (R607 to R609). -/
def tamperSet (seen : Nat) : Prog := .ask fun s =>
  let old := s.rdN .tamperState
  let new := seen &&& s.rdN .tamperEn
  let both := old ||| new
  when (both ≠ old) (all
    [ wrN .tamperState 0 both, when (old = 0) (emitSafe .tamper (u32 both)), wipe 1 ])

/-- TAMPER_DETECTED: the conditions that the detectors see now, and whether VDD_AON has just returned from a dip below 1.62 V
(R606 to R608). -/
def execTamperDetected (conds : BitVec 4) (dip : Bool) (s : State) : Host.Outcome State Fault Refusal :=
  done (.ask fun s => .seq
    (modSecure fun x => { x with present := conds.toNat })
    (tamperSet (conds.toNat ||| (if dip && s.secure.armed then 4 else 0)))) s

/-- LOW_VOLTAGE_CHECK_ARMED (R606). -/
def execLowVoltageCheckArmed (s : State) : Host.Outcome State Fault Refusal :=
  done (.ask fun s => when (s.phase ≠ .unpowered) (modSecure fun x => { x with armed := true })) s

/-! ### Writes of SAFE's entries -/

def safeValue (s : State) (n : Name) (w : U32) : Status :=
  match n with
  | .wipe => need (w = 0x77697065) .range
  | .lcAdvance => need (decide (w.toNat ≤ 3) && w.toNat = s.rdN .lifeCycle + 1) .range
  | _ => .ok

def safeState (s : State) (n : Name) (w : U32) : Status :=
  match n with
  | .tamperEn => need (decide (s.rdN .lifeCycle < 2)) .lcState
  | .tamperClr => need (s.secure.present &&& w.toNat &&& s.rdN .tamperState = 0) .tamperPresent
  | _ => .ok

/-- KEY_LOAD (R598, R599). -/
def keyLoadStatus (s : State) (len : Nat) : Status := firstBad
  [ need (len = 32) .length, need (decide (s.rdN .lifeCycle ∈ [1, 2])) .lcState, need (s.rdN .keyState = 0) .keyPresent ]
def keyLoaded (key : List Byte) : Prog :=
  let id := u32 (leNat ((sha256 key).take 4))
  all [ .op (.bytes secureBase key), wr .keyState 0 1, wr .keyId 0 id, emitSafe .keyLoaded id ]

def safeEffect (n : Name) (w : U32) : Prog :=
  match n with
  | .wipe => wipe 3
  | .lcAdvance => .seq (modSecure fun x => { x with blow := some w.toNat }) (wipe 2)
  | .tamperEn => .ask fun s => tamperSet s.secure.present
  | .tamperClr => .ask fun s =>
    let left := s.rdN .tamperState &&& (0xFF - w.toNat % 256)
    .seq (wrN .tamperState 0 left) (when (left = 0) (clearEvent .tamper 0 islSafe))
  | _ => .nop

/-! ### Fences -/

/-- STORE is fenced: the row test is abandoned (R595, R612). -/
def fenceStore : Prog := .ask fun s => match s.rowTest.testing with
  | some (b, _) => abandonTest b
  | none => .nop

/-- STORE is readmitted: drains complete at once (R612). -/
def readmitStore : Prog := each (List.range 24) drainEnd

end Sys2Proof.Machine
end

