-- ==== Sys2Proof/Machine/LinkIn.lean ====
section
/-! DEFINITION. What LINK receives: enumeration, ports, bursts and their acknowledgement, time alignment, absence and admission
(*Adevex Link: rings of up to 128*). A burst arrives with its bytes; its CRC is checked here. -/
namespace Sys2Proof.Machine

open Prog

def frame (port : Nat) (f : LinkFrame) : Prog := output (.link port f)
/-- The repeater runs outside the LINK island (R748). -/
def inLink (p : Prog) : Prog := inIsland islLink p

def State.aligned (s : State) : Bool := bitAt (s.rdN .tbStatus) 2
def alignedTo (on : Bool) : Prog := .ask fun s => wrN .tbStatus 0 (s.rdN .tbStatus % 4 + 4 * bit01 on)

/-! ### Enumeration -/

/-- An enumeration starts on a member (R756, R778). -/
def enumStart : Prog := all
  [ wr .member 0 0xFF, wrN .memberState 0 msUnenumerated,
    modLink (fun l => { l with tentative := none, waiting := [], nextSeq := [], acked := [], expect := [], naked := [], ackDue := [], logE := [],
                               logW := [], fwdSeq := [], fwdPend := [], absent := [], fenced := [], joins := [], grant := none,
                               firstAlign := true, enumerating := false }),
    pathReset .p5 ]

/-- The root sends the ENUM frame (R752, R753). -/
def enumerate : Prog := all
  [ enumStart, modLink (fun l => { l with enumerating := true, enumerated := true, tentative := some 0 }), frame 0 (.enum 1) ]

/-- A numbered member becomes ACTIVE (R753). -/
def numbered (size : Nat) : Prog := .ask fun s => match s.link.tentative with
  | some m => all
    [ wrN .member 0 m, wrN .ringSize 0 size, wrN .memberState 0 msActive, wrN .repeatCause 0 0,
      modLink (fun l => { l with tentative := none }),
      emit .linkEnumerated 0 islLink (pack [(8, m), (8, size)]) ]
  | none => .nop

/-- ENUM_FRAME_RECEIVE (R753 to R755). A fenced LINK repeats the frame unchanged. -/
def execEnumFrameReceive (v : BitVec 16) (s : State) : Host.Outcome State Fault Refusal :=
  done (live (.ask fun s =>
    if s.fenced islLink then frame 0 (.enum v.toNat)
    else if s.isRoot then
      if s.link.enumerating then all
        [ modLink (fun l => { l with enumerating := false }), frame 0 (.ringSize v.toNat), numbered v.toNat ]
      else emit .linkEnumFailed 0 islLink (pack [(8, 2)])
    else .seq enumStart (if v.toNat < 128 then
        .seq (modLink fun l => { l with tentative := some v.toNat }) (frame 0 (.enum (v.toNat + 1)))
      else .seq (emit .linkTooMany 0 islLink) (frame 0 (.enum v.toNat))))) s

/-- RING_SIZE_BROADCAST (R753). -/
def execRingSizeBroadcast (size : Byte) (s : State) : Host.Outcome State Fault Refusal :=
  done (live (.ask fun s => when (!s.isRoot) (.seq (frame 0 (.ringSize size.toNat))
    (when (!s.fenced islLink) (numbered size.toNat))))) s

/-- ENUM_TIMEOUT (R755). -/
def execEnumTimeout (s : State) : Host.Outcome State Fault Refusal :=
  done (inLink (.ask fun s => when s.link.enumerating
    (.seq (modLink fun l => { l with enumerating := false }) (emit .linkEnumFailed 0 islLink (pack [(8, 1)]))))) s

/-! ### Ports -/

/-- LINK_PORT_UP: EAST (0) or WEST (1) (R752, R758). -/
def execLinkPortUp (port : Fin 2) (s : State) : Host.Outcome State Fault Refusal :=
  done (inLink (.ask fun s => when (s.rdN .portState port ≠ 2) (all
    [ wrN .portState port 2, wrN .laneLock port 0xFF,
      when (s.isRoot && !s.link.enumerated && s.rdN .portState (1 - port) = 2) enumerate ]))) s

/-- LINK_PORT_DOWN, with the lanes that stay locked (R758, R773). -/
def execLinkPortDown (port : Fin 2) (locked : Byte) (s : State) : Host.Outcome State Fault Refusal :=
  done (inLink (.ask fun s => when (s.rdN .portState port = 2) (all
    [ wrN .portState port 0, wrN .laneLock port locked.toNat,
      when (s.rdN .linkRingState = 0 && s.rdN .portState (1 - port) = 2)
        (.seq (wrN .linkRingState 0 1) (emit .linkBreak 0 islLink (pack [(8, s.self), (8, port)]))) ]))) s

/-- RING_UNWRAP of a port that has been UP for 1 ms (R774). -/
def execRingUnwrap (port : Fin 2) (s : State) : Host.Outcome State Fault Refusal :=
  done (inLink (.ask fun s => when (s.rdN .linkRingState = 1 && s.rdN .portState 0 = 2 && s.rdN .portState 1 = 2)
    (.seq (wrN .linkRingState 0 0) (emit .linkRestored 0 islLink (pack [(8, port)]))))) s

/-! ### Acceptance of bursts -/

/-- The fields of a burst (link header table). -/
structure Burst where
  seq : Nat
  kind : Nat
  void : Bool
  src : Nat
  dst : Nat
  head : Nat
  line : Nat
  payload : List Byte
deriving DecidableEq, Repr

/-- A burst with a good length and CRC (R759, R762). -/
def burstOf (b : List Byte) : Option Burst :=
  let byte (i : Nat) : Nat := (b.getD i 0).toNat
  let n := 8 * (byte 6 + 256 * byte 7)
  let body := b.take (16 + n)
  if b.length = 24 + n ∧ leNat ((b.drop (16 + n)).take 4) = (crc32 body).toNat then
    some { seq := byte 0 + 256 * byte 1, kind := byte 2 % 128, void := bitAt (byte 2) 7, src := byte 3, dst := byte 4,
           head := byte 5, line := leNat ((b.drop 8).take 4), payload := body.drop 16 }
  else none

/-- A burst of an origin, under its sequence at this destination (R762): the next one is taken; a later one is answered by one NAK; an
earlier one is acknowledged again. -/
def accept (port : Nat) (src : Nat) (bcast : Bool) (seq : Nat) (take : Prog) : Prog := .ask fun s =>
  let key := if bcast then 256 + src else src
  let e := Store.get 0 s.link.expect key
  if seq = e then all
    [ modLink (fun l => { l with expect := Store.put 0 l.expect key ((e + 1) % 65536), naked := l.naked.filter (· ≠ key),
                                 ackDue := if key ∈ l.ackDue then l.ackDue else l.ackDue ++ [key] }),
      take ]
  else .seq (modLink fun l => { l with ackDue := if key ∈ l.ackDue then l.ackDue else l.ackDue ++ [key] })
    (when (decide ((seq + 65536 - e) % 65536 < 32768 ∧ key ∉ s.link.naked))
      (.seq (modLink fun l => { l with naked := key :: l.naked }) (frame port (.nak s.self src e))))

/-- A burst with its bytes reaches this member on a port; `take` is its effect when it is accepted. -/
def receive (port : Nat) (bytes : List Byte) (take : Burst → Prog) : Prog := inLink (match burstOf bytes with
  | none => countUp .crcErrors port
  | some b => accept port b.src (decide (b.dst = 0xFF)) b.seq (take b))

/-! ### Records at the collector -/

/-- A record whose halves have both come (R765, R768). -/
def completeRecord (src head : Nat) (a b : Half) : Prog :=
  let hdr := a.bytes.take 64
  let units := leNat ((hdr.drop 30).take 2) - 1
  let na := 64 * ((units + 1) / 2)
  let body (lost : Bool) (n : Nat) (h : Half) : List Byte := if lost then List.replicate n 0 else (h.bytes.drop 64).take n
  let lost := bit01 a.lost + bit01 b.lost
  let flags := leNat ((hdr.drop 20).take 4) ||| (if lost = 0 then 0 else 4096)
  let line := u32 (leNat ((hdr.drop 12).take 4))
  all [ each (List.range lost) (fun _ => .seq (countUp .lostHalves 0)
          (emit .linkLostHalf 0 islLink (pack [(8, src), (8, head)]) line)),
        collect (hdr.take 20 ++ leBytes 4 flags ++ hdr.drop 24 ++ body a.lost na a ++ body b.lost (64 * units - na) b) ]

/-- LINE_A or LINE_B at the collector. -/
def lineHalf (b : Burst) : Prog := .ask fun s =>
  let key := 4 * b.src + b.head % 4
  let half : Half := { bytes := b.payload, lost := b.void }
  if b.kind = kLineA then modLink fun l => { l with halves := Store.put none l.halves key (some half) }
  else match Store.get none s.link.halves key with
    | some a => .seq (modLink fun l => { l with halves := Store.put none l.halves key none }) (completeRecord b.src b.head a half)
    | none => .nop

/-- The half-received records of a member complete without their other half (R789). -/
def dropHalves (m : Nat) : Prog := each (List.range 4) fun h => .ask fun s =>
  match Store.get none s.link.halves (4 * m + h) with
  | some a => .seq (modLink fun l => { l with halves := Store.put none l.halves (4 * m + h) none })
      (completeRecord m h a { bytes := [], lost := true })
  | none => .nop

/-- LINE_BURST_RECEIVE (R762, R765, R768). -/
def execLineBurstReceive (port : Fin 2) (bytes : List Byte) (s : State) : Host.Outcome State Fault Refusal :=
  done (receive port bytes lineHalf) s

/-- SEAM_BURST_RECEIVE: the pixels go to the head whose BLEND side names the origin (R332, R787). -/
def execSeamBurstReceive (port : Fin 2) (bytes : List Byte) (s : State) : Host.Outcome State Fault Refusal :=
  done (receive port bytes fun b => when (!b.void) (.ask fun s =>
    let size := leNat (b.payload.take 2)
    let right := bitAt (b.payload.getD 2 0).toNat 0
    let partner := 0x8000 + 256 * b.src + b.head
    let row (c : Nat) : List Nat := (List.range size).map fun i => leNat ((b.payload.drop (8 + 2 * (c * size + i))).take 2)
    each (List.range 4) fun h =>
      when ((s.seamOf h right).1 = 1 && (s.seamOf h right).2.2.1 = partner)
        (modLineUnit h fun u => { u with seamIn := u.seamIn ++ [(right, { line := b.line, size := size, rows := [row 0, row 1, row 2] })] }))) s

/-- The port on which traffic of a direction leaves: next to a break it turns back (R773). -/
def State.leaves (s : State) (dir : Nat) : Nat :=
  if s.rdN .linkRingState = 1 && s.rdN .portState dir ≠ 2 then 1 - dir else dir

/-- A burst that turns back has WRAPPED set or cleared, as it enters or leaves the wrapped path (link header table; DEDUCED, log 33). -/
def turned (b : List Byte) (port : Nat) : List Byte :=
  if (burstOf b).isSome then withTrailer (b.take 12 ++ leBytes 1 port ++ (b.take (b.length - 8)).drop 13) else b

/-- THROUGH_BURST: downstream (0) or upstream (1) of the repeater (R748 to R750, R773). -/
def execThroughBurst (dir : Fin 2) (bytes : List Byte) (s : State) : Host.Outcome State Fault Refusal :=
  done (live (.ask fun s =>
    let port := s.leaves dir
    if (bytes.getD 3 0).toNat = s.self && !s.fenced islLink then countUp .undelivered 0
    else if 131072 < s.fifoNow dir + bytes.length then countUp .swallowed dir
    else .seq (.op (.link { s.link with
        fill := (List.range 2).map fun d => s.fifoNow d + (if d = dir.val && decide (s.time.toNat < s.link.busyUntil) then bytes.length else 0),
        fillAt := s.time.toNat }))
      (.seq (frame port (.burst (if port = dir.val then bytes else turned bytes port))) insertWaiting))) s

/-! ### Acknowledgement -/

/-- The sequences of a destination: a member, or 0xFF for the broadcasts. -/
def dstKey (m : Nat) : Nat := if m = 0xFF then 256 else m

/-- ACK_RECEIVE: every burst up to a sequence has arrived at a destination (R762). -/
def execAckReceive (dst : Byte) (seq : BitVec 16) (s : State) : Host.Outcome State Fault Refusal :=
  done (inLink (modLink fun l => { l with acked := Store.put 0 l.acked (dstKey dst.toNat) ((seq.toNat + 1) % 65536) })) s

/-- The burst in transmission is cut (R764). -/
def cutBurst : Prog := .ask fun s => when (decide (s.time.toNat < s.link.busyUntil))
  (.seq (modLink fun l => { l with busyUntil := s.time.toNat }) (frame s.outPort .cut))

/-- NAK_RECEIVE (R764). -/
def execNakReceive (dst : Byte) (seq : BitVec 16) (s : State) : Host.Outcome State Fault Refusal :=
  done (inLink (.seq cutBurst (resendFrom (dstKey dst.toNat) seq.toNat))) s

/-- ACK_TIMEOUT (R764). -/
def execAckTimeout (dst : Byte) (s : State) : Host.Outcome State Fault Refusal :=
  done (inLink (.ask fun s =>
    let key := dstKey dst.toNat
    let q := Store.get 0 s.link.acked key
    when (q ≠ Store.get 0 s.link.nextSeq key) (.seq cutBurst (resendFrom key q)))) s

/-- ACK_SEND_TIMER: a cumulative ACK to every origin that is due one (R762). -/
def execAckSendTimer (s : State) : Host.Outcome State Fault Refusal :=
  done (inLink (.ask fun s =>
    let port := if s.rdN .portState 1 = 2 then 1 else 0
    .seq (each s.link.ackDue fun key =>
        frame port (.ack s.self (key % 256) ((Store.get 0 s.link.expect key + 65535) % 65536)))
      (modLink fun l => { l with ackDue := [] }))) s

/-! ### Time alignment -/

/-- ALIGN_EXCHANGE_TICK (R776). -/
def execAlignExchangeTick (s : State) : Host.Outcome State Fault Refusal :=
  done (inLink (.ask fun s =>
    .seq (each (List.range 2) fun p => when (s.rdN .portState p = 2) (frame p (.align s.time))) insertWaiting)) s

/-- The alignment error of an exchange, in ps, moves LINK_ALIGNED (R779). -/
def alignError (err : Int) : Prog := .ask fun s =>
  let a := err.natAbs
  let good := if a ≤ 250 then s.link.good + 1 else 0
  let bad := if 500 < a then s.link.bad + 1 else 0
  all [ wr .alignErr 0 (i32 err), modLink (fun l => { l with good := good, bad := bad }),
        when (decide (16 ≤ good) && !s.aligned) (.seq (alignedTo true) (emit .linkAligned 0 islLink (i32 err))),
        when (decide (4 ≤ bad) && s.aligned) (.seq (alignedTo false) (emit .linkAlignLost 0 islLink (i32 err))),
        .ask fun s => when (s.aligned && !s.isRoot) (.seq (.op .free)
          (wr .rateAdj 0 (i32 ((Config.free s.fresh % 200001 : Nat) - 100000)))) ]

/-- ALIGN_FRAME_RECEIVE on a port: the round trip and the turnaround time of the exchange and the neighbour's ring time at departure with
the arrival stamp, in counts of 250 ps; whether the frame originates at the root (R775 to R779). The upstream neighbour is at WEST, or
at EAST while the ring is wrapped at WEST. -/
def execAlignFrameReceive (port : Fin 2) (trip turn : BitVec 32) (ring arrival : U64) (fromRoot : Bool) (s : State) :
    Host.Outcome State Fault Refusal :=
  done (inLink (.ask fun s =>
    let hop := (trip.toNat - turn.toNat) * 125
    let up := if s.rdN .portState 1 = 2 then 1 else 0
    let ideal : Int := ring.toNat * 250 + hop - arrival.toNat * 250
    let off : Int := sign64 (s.rd64 .ringOffset)
    all
      [ wrN .hopDelay port hop,
        when (fromRoot && s.rdN .linkRingState = 2)
          (wrN .linkRingState 0 (if s.rdN .portState 0 = 2 && s.rdN .portState 1 = 2 then 0 else 1)),
        when (port.val = up && s.memberState ≠ msUnenumerated)
          (if s.isRoot then alignError 0
           else if s.link.firstAlign then
             let o := roundDiv ideal 250
             all [ modLink (fun l => { l with firstAlign := false }), wr64 .ringOffset 0 0 ((o % 18446744073709551616).toNat),
                   alignError ((if Config.alignPositive then 1 else -1) * (ideal - o * 250)) ]
           else alignError ((if Config.alignPositive then 1 else -1) * (ideal - off * 250))) ])) s

/-- The member enters REPEAT with a cause (member-state table); a fenced one is reported by its neighbour (R789). -/
def toRepeat (cause : Nat) : Prog := .ask fun s => all
  [ wrN .memberState 0 msRepeat, wrN .repeatCause 0 cause, modLink (fun l => { l with grant := none }),
    when (cause ≠ 2) (frame s.outPort (.absent s.self)), emit .memberRepeat 0 islLink (pack [(8, s.self), (8, cause)]) ]

/-- ROOT_ALIGN_ABSENT (R775). -/
def execRootAlignAbsent (s : State) : Host.Outcome State Fault Refusal :=
  done (inLink (.ask fun s => when (!s.isRoot) (.seq (wrN .linkRingState 0 2)
    (when (decide (s.memberState ∈ [msActive, msJoining])) (toRepeat 3))))) s

/-- ALIGN_LOST_TIMEOUT (R779). -/
def execAlignLostTimeout (s : State) : Host.Outcome State Fault Refusal :=
  done (inLink (.ask fun s => when (s.aligned && !s.isRoot) (all
    [ alignedTo false, modLink (fun l => { l with good := 0, bad := 0 }), emit .linkAlignLost 0 islLink (s.rd .alignErr) ]))) s

/-! ### Absence and admission -/

/-- MEMBER_OUT (R788, R789). -/
def memberOut (w : U32) : Prog := .ask fun s => when (w ≠ 0)
  (if s.memberState = msActive then toRepeat 1
   else when (s.memberState = msJoining) (.seq (wrN .memberState 0 msRepeat) (modLink fun l => { l with grant := none })))

/-- ADMISSION_REQUEST (member-state table). -/
def execAdmissionRequest (s : State) : Host.Outcome State Fault Refusal :=
  done (inLink (.ask fun s => when (s.memberState = msRepeat && !s.rdB .memberOut && s.rdN .linkRingState ≠ 2)
    (.seq (wrN .memberState 0 msJoining) (frame s.outPort (.admitRequest s.self))))) s

/-- Line N of a member's admission is known (R790, R791). -/
def admitted (m n : Nat) : Prog := .ask fun s => all
  [ wrN .admitLine 0 n,
    modLink (fun l => { l with absent := l.absent.filter (· ≠ m), fenced := l.fenced.filter (· ≠ m), joins := Store.put none l.joins m (some n) }),
    when (m = s.self && s.memberState = msJoining)
      (if n = 0 then joinNow 0 else modLink fun l => { l with grant := some n }) ]

/-- ADMISSION_GRANT of the root to a joining member that reports LINK_ALIGNED (R790, R794, R797). -/
def execAdmissionGrant (m : Fin 128) (s : State) : Host.Outcome State Fault Refusal :=
  done (inLink (.ask fun s => when (s.isRoot && s.memberState ≠ msUnenumerated && decide (m.val < s.rdN .ringSize)) (
    let h := s.rdN .ringRefHead
    let n := if s.armedNow h then (s.rdN .lineNumber h + s.rdN .admitLead) % 4294967296 else 0
    let dsts := (List.range (s.rdN .ringSize)).filter fun k => k ≠ s.self && (k = m.val || s.memberActive k)
    .seq (each dsts fun k => .seq (.op .free) (.ask fun s => .seq
        (sendBurst kCtrl k 0 0 (leBytes 8 (Config.free (s.fresh - 1)))) (frame s.outPort (.admitted m n))))
      (admitted m n)))) s

/-- CTRL_BURST_RECEIVE: an accepted CTRL burst of an origin announces the admission line of a member; a VOID one announces none
(R790). -/
def execCtrlBurstReceive (port : Fin 2) (src : Fin 128) (seq : BitVec 16) (void : Bool) (m : Fin 128) (n : U32) (s : State) :
    Host.Outcome State Fault Refusal :=
  done (inLink (accept port src false seq.toNat (when (!void) (admitted m n.toNat)))) s

/-- JOINING_TIMEOUT (member-state table). -/
def execJoiningTimeout (s : State) : Host.Outcome State Fault Refusal :=
  done (inLink (.ask fun s => when (s.memberState = msJoining && !s.aligned) (all
    [ wrN .memberState 0 msRepeat, modLink (fun l => { l with grant := none }),
      emit .linkAdmitFailed 0 islLink (pack [(8, s.self)]) ]))) s

/-- NEIGHBOUR_LINK_ABSENT: a member is absent, with its LINK fenced or not, found at this member or told by the root (R789). -/
def execNeighbourLinkAbsent (m : Fin 128) (linkFenced : Bool) (s : State) : Host.Outcome State Fault Refusal :=
  done (inLink (.ask fun s => all
    [ modLink (fun l => { l with absent := if m.val ∈ l.absent then l.absent else l.absent ++ [m.val],
                                 fenced := if linkFenced && decide (m.val ∉ l.fenced) then l.fenced ++ [m.val] else l.fenced,
                                 joins := Store.put none l.joins m none }),
      frame s.outPort (.absent m), dropHalves m ])) s

/-! ### The collector's free space -/

def State.isCollector (s : State) : Bool := s.memberState = msActive && s.rdN .collector = s.self && decide (s.rdN .collectStream ≤ 7)

/-- COLLECTOR_FREE_BROADCAST: the collector sends FREE_RECORDS of COLLECT_STREAM; another member receives the value (R772). -/
def execCollectorFreeBroadcast (v : U32) (s : State) : Host.Outcome State Fault Refusal :=
  done (inLink (.ask fun s =>
    if s.isCollector then frame s.outPort (.free (s.rdN .freeRecords (s.rdN .collectStream)))
    else modLink fun l => { l with collFree := v.toNat })) s

/-- COLLECTOR_FREE_TIMEOUT: F is 0 from the next planning cycle on (R772). -/
def execCollectorFreeTimeout (s : State) : Host.Outcome State Fault Refusal :=
  done (inLink (.ask fun s => when (!s.isCollector)
    (.seq (modLink fun l => { l with collFree := 0 }) (freeArrives 8 0)))) s

/-! ### The fence of LINK -/

/-- LINK is fenced: its ports repeat, and an ACTIVE member leaves (R748, member-state table). -/
def fenceLink : Prog := .ask fun s => when (s.memberState = msActive) (toRepeat 2)

/-- LINK is readmitted: it aligns anew (R778), and what waited is inserted. -/
def readmitLink : Prog := .seq (modLink fun l => { l with firstAlign := true, good := 0, bad := 0 }) insertWaiting

/-! ### Writes of Link entries -/

def linkValue (s : State) (n : Name) (w : U32) : Status :=
  let v := w.toNat
  match n with
  | .memberOut => need (!(v = 1 && s.isRoot)) .range
  | .enumReq => oneOf [1] v
  | .collector | .p5Source => within 0 127 v
  | .collectStream => oneOf [0, 1, 2, 3, 4, 5, 6, 7, 0xFF] v
  | .admitLead => inRange 64 65535 v
  | .ringRefHead => within 0 3 v
  | .ackTimeout => inRange 5 1000 v
  | _ => .ok

def linkState (s : State) (n : Name) : Status :=
  match n with
  | .enumReq => firstBad [need s.isRoot .notRoot, need (decide (s.modes.mode ∈ [.prepare, .park])) .notInMode]
  | _ => .ok

def linkEffect (n : Name) (w : U32) : Prog :=
  match n with
  | .memberOut => memberOut w
  | .enumReq => enumerate
  | _ => .nop

end Sys2Proof.Machine
end

