-- ==== Sys2Proof/Machine/Streams.lean ====
section
/-! DEFINITION. The DMA streams of PCI Express (*PCI Express and line delivery*). -/
namespace Sys2Proof.Machine

open Prog

def stStopped : Nat := 0
def stRunning : Nat := 1
def stStopping : Nat := 2

def State.streamSt (s : State) (k : Nat) : Nat := s.rdN .streamState k
/-- Whether the X9 may initiate requests: link up and Bus Master Enable set. -/
def State.canInitiate (s : State) : Bool := s.linkUp && bitAt (s.rdN .linkStatus) 13
/-- The HOST cycle, of 2 ns. -/
def State.hostCycle (s : State) : Nat := s.time.toNat / 8

/-- The configuration values that are the X9's own: Device ID, Revision ID and Class Code; the Subsystem Vendor ID and Subsystem ID equal the
Vendor ID and Device ID, and the Device Serial Number is [1018.04] (configuration values table). -/
def pcieDeviceId : BitVec 16 := 0x0E59
def pcieRevisionId : BitVec 8 := 0x20
def pcieClassCode : BitVec 24 := 0x118000
def pcieSerialNumber : BitVec 64 := Config.serialNumber.setWidth 64

/-! ### Space -/

/-- The modulus of the pointers and the units of the buffer (R639). -/
def State.ptrMod (s : State) (k : Nat) : Nat := 2 ^ (s.rdN .bufLog2 k - 5)
def State.bufUnits (s : State) (k : Nat) : Nat := 2 ^ (s.rdN .bufLog2 k - 6)
def State.unitsUsed (s : State) (k rd : Nat) : Nat := (s.rdN .wrPtr k + s.ptrMod k - rd) % s.ptrMod k
/-- RD_PTR as it takes part in the decisions of this HOST cycle (R662). -/
def State.rdNow (s : State) (k : Nat) : Nat :=
  match (s.stream k).rdWas with
  | some (c, old) => if c = s.hostCycle then old else s.rdN .rdPtr k
  | none => s.rdN .rdPtr k

def bytesIn (l : List (List Byte)) : Nat := l.foldl (fun a r => a + r.length) 0

/-- Room in the buffer, in bytes, beyond the records already placed (R645). -/
def State.bufRoom (s : State) (k : Nat) : Nat :=
  64 * (s.bufUnits k - s.unitsUsed k (s.rdNow k)) - bytesIn (s.stream k).flight
/-- Room in the staging store (R645). -/
def State.storeRoom (s : State) (k : Nat) : Nat :=
  if s.rdN .stageBank k ≤ 23 ∧ !(s.stream k).storeLost then 0x200000 - bytesIn (s.stream k).store else 0

/-- REC_MAX (R650, R770). -/
def State.recMax (s : State) (k : Nat) : Nat :=
  let heads := (List.range 4).filter fun h => s.rdB .headEn h && s.rdN .lineRoute h = k
  let m := heads.foldl (fun m h => max m (max (recordBytes (s.outPixels h)) (if s.rdB .tagEn h then 256 else 0))) 64
  if s.rdN .collectStream = k then max m (s.rdN .collectRecMax) else m

/-- FREE_RECORDS (R658). -/
def State.freeRecordsNow (s : State) (k : Nat) : Nat :=
  if s.streamSt k = stStopped then 0
  else (64 * (s.bufUnits k - s.unitsUsed k (s.rdN .rdPtr k)) + s.storeRoom k) / s.recMax k

/-- FREE_RECORDS of every stream is sent over the paced-feed coupling (R659). -/
def sendFree : Prog := each (List.range 8) fun k => .ask fun s => wrN .freeRecords k (s.freeRecordsNow k)

/-! ### States -/

/-- A change of stream state (R653, R659). -/
def streamTo (k st : Nat) : Prog := .ask fun s =>
  when (s.streamSt k ≠ st) (all [ wrN .streamState k st, bump (unitStream k), sendFree ])

def discardCount (k n : Nat) : Prog := .ask fun s =>
  wrN .streamDiscarded k (min 4294967295 (s.rdN .streamDiscarded k + n))

/-- STOPPING ends: records in the store are discarded (stream state table, R655). -/
def streamStopped (k : Nat) : Prog := .ask fun s => when (s.streamSt k = stStopping && (s.stream k).flight = []) (all
  [ discardCount k (s.stream k).store.length,
    modStream k (fun x => { x with store := [] }),
    streamTo k stStopped,
    .ask fun s => emit .streamStopped (unitStream k) islHost (u32 k) (s.rd .streamDiscarded k) ])

/-- A stream stops: the record in flight completes, unless it began in this HOST cycle; those not begun are discarded (R655, R661). -/
def streamStop (k : Nat) : Prog := .ask fun s => when (s.streamSt k = stRunning) (
  let x := s.stream k
  let kept := if x.begun = s.hostCycle then [] else x.flight.take 1
  all [ modStream k (fun x => { x with flight := kept }), discardCount k (x.flight.length - kept.length),
        streamTo k stStopping, streamStopped k ])

/-- Every running stream stops on the park line (R50). -/
def streamsPark : Prog := each (List.range 8) streamStop

/-- A link loss stops a stream at once; the record in flight is abandoned (R621). -/
def streamLoss (k : Nat) : Prog := .ask fun s => when (s.streamSt k ≠ stStopped) (all
  [ discardCount k ((s.stream k).store.length + ((s.stream k).flight.drop 1).length),
    modStream k (fun x => { x with flight := [], store := [] }), streamTo k stStopped ])

/-! ### Records -/

/-- The line number of a record, or the number at its place. -/
def recordLine (r : List Byte) : U32 := u32 (leNat ((r.drop 12).take 4))
def isHeath (r : List Byte) : Bool := r.getD 19 0 = 4

/-- A record is dropped and counted (R648, R529). -/
def streamDrop (k : Nat) (r : List Byte) : Prog := .seq (countUp .streamDropped k)
  (.ask fun s => when (isHeath r && !s.fenced islHeath) (heathDrop k))

/-- A record joins those placed in the buffer. -/
def place (k : Nat) (r : List Byte) : Prog := .ask fun s => modStream k fun x =>
  { x with flight := x.flight ++ [r], begun := if x.flight = [] then s.hostCycle else x.begun }

/-- Whether stream k does not take a record now: it would place it in the buffer, but still writes another at the rate of the link, and holds its
source back meanwhile (R645, R649). -/
def State.streamBusy (s : State) (k : Nat) (r : List Byte) : Bool :=
  !s.fenced islHost && s.streamSt k = stRunning && (s.stream k).flight ≠ [] && (s.stream k).store = [] && decide (r.length ≤ s.bufRoom k)

/-- STREAM_RECORD_ARRIVAL: the oldest record on its way to stream k reaches it (R644, R645, R648, R649, R652, R655, R657). A record that the
mode does not let out (R36) counts in DISCARDED (DESIGN CHOICE, log 68). -/
def execStreamRecordArrival (k : Fin 8) (s : State) : Host.Outcome State Fault Refusal :=
  done (live (.ask fun s => match (s.stream k).coming with
    | [] => .nop
    | r :: rest => when (!s.streamBusy k r) (.seq (modStream k fun x => { x with coming := rest }) (
      if s.fenced islHost then .seq
        (modStream k fun x => { x with lost := some (x.lost.getD (recordLine r)) }) (streamDrop k r)
      else .seq (.op .nextSeq) (.ask fun s =>
        let r := leBytes 4 s.rep.seq.toNat ++ r.drop 4
        let x := s.stream k
        let taken : Prog := .seq (modStream k fun x => { x with overflow := false }) (when (isHeath r) heathTaken)
        if s.streamSt k ≠ stRunning || !s.modes.mode.delivers (recordKind r) then
          .seq (discardCount k 1) (when (isHeath r && !s.fenced islHeath) (heathDrop k))
        else if 2 ^ s.rdN .bufLog2 k < r.length then all
          [ streamDrop k r, emit .streamRecTooLong (unitStream k) islHost (u32 k), streamStop k ]
        else if x.store = [] ∧ r.length ≤ s.bufRoom k then .seq (place k r) taken
        else if r.length ≤ s.storeRoom k then .seq (modStream k fun x => { x with store := x.store ++ [r] }) taken
        else .seq (streamDrop k r) (when (!x.overflow) (.seq (modStream k fun x => { x with overflow := true })
          (emit .streamOverflow (unitStream k) islHost s.rep.seq (recordLine r))))))))) s

/-- STAGE_TRANSFER: the oldest record of the store moves to the buffer as room appears (R645). -/
def execStageTransfer (k : Fin 8) (s : State) : Host.Outcome State Fault Refusal :=
  done (inIsland islHost (.ask fun s => match (s.stream k).store with
    | [] => .nop
    | r :: rest => when (s.streamSt k = stRunning && (s.stream k).flight = [] && decide (r.length ≤ s.bufRoom k))
      (.seq (modStream k fun x => { x with store := rest }) (place k r)))) s

/-- The vector of a stream is signalled (R660). -/
def streamSignal (k : Nat) : Prog := .seq (modStream k fun x => { x with since := 0 }) (.op (.signal (5 + k)))
def streamCount (k : Nat) : Prog := .ask fun s =>
  let n := s.rdN .irqRecords k
  when (n ≠ 0 && decide (n ≤ (s.stream k).since)) (streamSignal k)

/-- Memory writes of at most `size` bytes, each within its block of that size; `fuel` bounds their number (R619; the cut at multiples of the
payload size is a DESIGN CHOICE, log 61). -/
def payloads (size : Nat) : Nat → Nat → List Byte → List Output
  | 0, _, _ => []
  | fuel + 1, a, l =>
    if l = [] then []
    else let n := size - a % size; .hostWrite a (l.take n) :: payloads size fuel (a + n) (l.drop n)

/-- Bytes are written to host memory within the payload size in force (R619). -/
def hostWrites (a : Nat) (l : List Byte) : Prog := .ask fun s => each (payloads (max 1 s.ring.maxPayload) l.length a l) output

/-- STREAM_RECORD_WRITTEN: the last write of the record in flight is issued (R628, R639 to R642, R655, R660). -/
def execStreamRecordWritten (k : Fin 8) (s : State) : Host.Outcome State Fault Refusal :=
  done (inIsland islHost (.ask fun s => match (s.stream k).flight with
    | [] => .nop
    | r :: rest => when s.canInitiate (
      let base := s.rd64 .bufBase k
      let size := 64 * s.bufUnits k
      let off := 64 * (s.rdN .wrPtr k % s.bufUnits k)
      let shadow := s.rd64 .wrShadow k
      all
        [ hostWrites (base + off) (r.take (size - off)),
          when (decide (size - off < r.length)) (hostWrites base (r.drop (size - off))),
          wrN .wrPtr k ((s.rdN .wrPtr k + r.length / 64) % s.ptrMod k),
          countUp .streamRecords k,
          modStream k (fun x => { x with flight := rest, begun := s.hostCycle, since := x.since + 1 }),
          when (shadow ≠ 0) (.ask fun s => output (.hostWrite shadow (leBytes 4 (s.rdN .wrPtr k)))),
          streamCount k, sendFree, streamStopped k ]))) s

/-- STREAM_IRQ_TIMEOUT (R660). -/
def execStreamIrqTimeout (k : Fin 8) (s : State) : Host.Outcome State Fault Refusal :=
  done (inIsland islHost (.ask fun s => when (s.rdN .irqTime k ≠ 0 && (s.stream k).since ≠ 0) (streamSignal k))) s

/-- MSIX_HOLDOFF_EXPIRED of vectors 0 to 4 (R627). -/
def execMsixHoldoffExpired (v : Fin 5) (s : State) : Host.Outcome State Fault Refusal :=
  done (live (.ask fun s =>
    let again := (s.vector v).again
    .seq (modVector v fun _ => {}) (when again (.op (.signal v))))) s

/-! ### Writes of stream entries -/

def streamValue (n : Name) (i : Nat) (w : U32) : Status :=
  let v := w.toNat
  match n with
  | .streamEn => oneOf [0, 1] v
  | .bufBase => need (i = 1 || v % 4096 = 0) .range
  | .bufLog2 => within 12 32 v
  | .stageBank => need (decide (v ≤ 23) || v = 0xFF) .range
  | _ => .ok

def streamState (s : State) (n : Name) (k : Nat) (w : U32) : Status :=
  let v := w.toNat
  match n with
  | .bufBase | .bufLog2 | .stageBank | .wrShadow => need (s.streamSt k = stStopped) .streamActive
  | .rdPtr =>
    let m := s.ptrMod k
    let rd := s.rdN .rdPtr k
    need (decide (v < m) && decide ((v + m - rd) % m ≤ s.unitsUsed k rd)) .range
  | .streamEn =>
    if v = 0 ∨ s.streamSt k = stRunning then .ok
    else if s.streamSt k = stStopping then .busy
    else firstBad
      [ need (decide (s.recMax k ≤ 2 ^ s.rdN .bufLog2 k)) .streamTooSmall,
        need (s.rdN .stageBank k = 0xFF || s.owns (s.rdN .stageBank k) (0x20 + k)) .stageNoBank ]
  | _ => .ok

/-- What is kept of RD_PTR before its write (R662). -/
def streamBefore (n : Name) (k : Nat) : Prog := .ask fun s =>
  when (n = .rdPtr) (modStream k fun x => { x with rdWas := some (s.hostCycle, s.rdNow k) })

/-- What an accepted write of a stream entry does beyond taking its value. -/
def streamEffect (n : Name) (k : Nat) (w : U32) : Prog :=
  match n with
  | .streamEn => if w = 0 then streamStop k else .ask fun s => when (s.streamSt k = stStopped)
      (.seq (modStream k fun x => { x with store := [], storeLost := false, flight := [] }) (streamTo k stRunning))
  | .bufBase | .bufLog2 => .seq (wr .wrPtr k 0) (wr .rdPtr k 0)
  | .rdPtr => sendFree
  | .irqRecords => streamCount k
  | _ => .nop

/-- Each stream that lost records while HOST was fenced produces one STREAM_OVERFLOW; the device sequence of a record that HOST did
not number is a free value (R657). -/
def streamsReadmit : Prog := each (List.range 8) fun k => .ask fun s => match (s.stream k).lost with
  | none => .nop
  | some line => all
    [ modStream k (fun x => { x with lost := none }),
      .op .free, emit .streamOverflow (unitStream k) islHost (u32 (Config.free s.fresh)) line ]

end Sys2Proof.Machine
end

