-- ==== Sys2Proof/Machine/Deliver.lean ====
section
/-! DEFINITION. Completion records and how each path delivers them (*The completion record*, *The command ring*). -/
namespace Sys2Proof.Machine

open Prog

/-- A completion record (completion record table). -/
def completionBytes (seq : U32) (p : Path) (r : CmdRecord) (st : Status) (time : U64) (epoch : Nat) (data : List Byte) : List Byte :=
  let head := leBytes 4 seq.toNat ++ leBytes 2 r.hostSeq.toNat ++ leBytes 1 st.code ++ leBytes 1 p.num ++ leBytes 8 time.toNat
    ++ leBytes 2 epoch ++ leBytes 1 r.opcode.toNat ++ leBytes 1 data.length ++ leBytes 2 r.index.toNat ++ leBytes 1 r.sub.toNat ++ [0]
    ++ data
  (head ++ List.replicate 64 0).take 64

/-- A posted entry leaves its queue; a write that PAR_WAIT_N held is captured (R678, R679). -/
def portPop (k : Nat) : Prog := modPort k fun x =>
  { x with queue := x.queue.drop 1 ++ x.waiting.toList, waiting := none, dropped := false }

/-- The present write or record of a path has been applied or refused. -/
def finishPath (p : Path) : Prog := .ask fun s => when (s.cmd p.num).running (all
  [ modCmd p.num (fun c => { c with running := false }),
    when (p = .p1 || p = .p2) (portPop p.num) ])

def rgOff : Nat := 0
def rgRunning : Nat := 1
def rgHalted : Nat := 2

/-- Nothing of the ring is outstanding. -/
def ringIdle : Prog := modRing fun r => { r with fetching := false, stopping := false }

/-- The ring goes OFF once nothing of it is outstanding (R632, R663). -/
def ringSettle : Prog := .ask fun s =>
  when (s.ring.stopping && !s.ring.fetching && !(s.cmd 0).running) (.seq (wrN .ringState 0 rgOff) ringIdle)

/-- The host address of a ring entry pair (R81). -/
def State.host64 (s : State) (n : Name) : Nat := s.rdN n 0 0 + 4294967296 * s.rdN n 0 1

/-- A completion leaves on its path (R166, R635, R665, R782). -/
def deliver (p : Path) (src : Nat) (bytes : List Byte) : Prog := .ask fun s =>
  match p with
  | .p0 => when s.canInitiate (
    let head := s.rdN .cplHead
    let next := (head + 1) % 65536
    let shadow := s.host64 .cplShadow
    all [ output (.hostWrite (s.host64 .cplBase + 64 * (head % 2 ^ s.rdN .cmdLog2)) bytes),
          wrN .cplHead 0 next,
          when (shadow ≠ 0) (output (.hostWrite shadow (leBytes 4 next))),
          .op (.signal 0) ])
  | .p5 => sendBurst kFwdRet src 0 0 bytes
  | p => modUnread p.num fun l => l ++ [bytes]

/-- A record that was taken completes (R135, R911): a refusal also leaves its status in LAST_STATUS (R117). `unit` is the target's unit,
`isl` the island that stamps TIME; `rep` is where LAST_STATUS points. -/
def complete (p : Path) (src : Nat) (r : CmdRecord) (st : Status) (unit epoch isl : Nat) (data : List Byte) (rep : Nat × Nat) : Prog := all
  [ when (decide (st ≠ .ok ∧ st ≠ .journalLost)) (refuse p st rep.1 rep.2),
    .op .nextSeq,
    .ask fun s => .seq (.op .free)
      (deliver p src (completionBytes s.rep.seq p r st (s.stamp isl) (if unit = 0 then 0 else epoch) data)),
    finishPath p,
    when (p = .p0) ringSettle ]

end Sys2Proof.Machine
end

