-- ==== Sys2Proof/Machine/Modes.lean ====
section
/-! DEFINITION. The operating modes: requests, transitions and PARK (*PREPARE, CALIBRATE, SCAN, PARK*). -/
namespace Sys2Proof.Machine

open Prog

/-! ### The field network follows the mode -/

/-- The NMT state that a mode gives (NMT table). -/
def nmtOfMode : Mode → Nat
  | .prepare | .calibrate => 0x7F | .scan => 0x05 | .park => 0x04

/-- A heartbeat of a controller (R733). -/
def heartbeat (x : Nat) : Prog := .ask fun s => when (s.canUp x)
  (output (.can x (0x700 + s.rdN .nodeIdNow x) (leBytes 1 (s.rdN .nmtState x))))

/-- NMT_STATE follows MODE; each change sends a heartbeat (R715, R721). -/
def nmtFollow (x : Nat) : Prog := .ask fun s =>
  let st := nmtOfMode s.modes.mode
  when (!s.fenced islNet && s.rdN .nmtState x ≠ 0 && s.rdN .nmtState x ≠ st) (.seq (wrN .nmtState x st) (heartbeat x))

/-! ### Completion of requests -/

/-- The first refused entry of an RPDO since its last change of mapping (R731). -/
def rpdoRefused (k : Nat) (st : Status) : Prog := .ask fun s => when (!(s.pdo (12 + k)).refused) (.seq
  (modPdo (12 + k) fun x => { x with refused := true })
  (emit .rpdoRefused 0 islNet (pack [(8, k + 1), (8, st.code)])))

/-- A mode request completes in the form of its path (R57, R117, R717, R722). -/
def completeMode (q : ModeReq) (st : Status) : Prog := .ask fun s =>
  if s.fenced islHost then modModes fun m => { m with due := m.due ++ [(q, st)] }
  else
    let note := when (decide (st ≠ .ok)) (refuse q.path st 0x2000 1)
    match q.origin with
    | .plain => note
    | .port => .seq note (finishPath q.path)
    | .rpdo k => .seq note (when (decide (st ≠ .ok)) (rpdoRefused k st))
    | .record r src => complete q.path src r st 0 0 islHost [] (0x2000, 1)
    | .sdo x => all
      [ note, modCtrl x fun c => match c.applying with
          | some a => { c with applying := none, replies := c.replies ++ [{ a with abort := st.abort }] }
          | none => c ]
    | .nmt x => .seq note (when (decide (st ≠ .ok)) (emitBy q.path .nmtOverruled 0 islNet (pack [(8, x), (8, st.code)])))

/-- The completions that waited for HOST. -/
def completeDue : Prog := .ask fun s => .seq (modModes fun m => { m with due := [] })
  (each s.modes.due fun d => completeMode d.1 d.2)

/-! ### Requests -/

/-- A MODE_REQ write of the present request takes its value and is journalled (R923). -/
def acceptMode (q : ModeReq) : Prog :=
  commit { path := q.path, hostSeq := match q.origin with | .record r _ => some r.hostSeq.toNat | _ => none } .modeReq 0 0 (u32 q.mode.code)

/-- The calibration is valid for an entry to SCAN (R46, R47). -/
def State.calValid (s : State) : Bool :=
  match s.calTime with
  | none => false
  | some t => if s.rdN .calMaxAge = 0 then !s.rdB .calUsed
      else decide (min 4294967294 ((s.time.toNat - t) / 4000000) ≤ s.rdN .calMaxAge)

/-- Whether a PARK cause is active or a HALT event uncleared (PARK-cause table, R54, R59). -/
def State.parkHeld (s : State) : Bool :=
  s.modes.haltLines ≠ [] || s.unclearedNow.any (fun p => p.1.severity = .halt) || s.rdN .tamperState ≠ 0

/-- The condition of a transition (transitions table, R40, R924). Where a request for SCAN from PREPARE meets neither condition, the
table names both statuses and no order: the sequencer is asked first (DESIGN CHOICE, log 39). -/
def modeCheck (s : State) (m : Mode) : Status :=
  if s.fenced islSeq then .unitAbsent
  else if m = s.modes.mode then .ok
  else
    let seqOn := s.rdN .seqState = 3
    match s.modes.mode, m with
    | .prepare, .calibrate => need (decide seqOn) .modeRefused
    | .prepare, .scan => firstBad [need (decide seqOn) .modeRefused, need s.calValid .calInvalid]
    | .calibrate, .scan => need s.calValid .calInvalid
    | .calibrate, .prepare | .scan, .prepare => .ok
    | .park, .prepare => need (!s.parkHeld) .modeRefused
    | _, _ => .modeRefused

/-- The place of a path in the order of requests of one HOST cycle (R56). -/
def pathRank (p : Path) : Nat := if p = .p6 then 0 else p.num + 1

/-- `old` reached arbitration in the same HOST cycle as `new` and its path is the later one in the order of R56. -/
def outranks (old new : ModeReq) : Bool := decide (old.since / 8 = new.since / 8) && decide (pathRank new.path < pathRank old.path)

/-- The status that PARK gives to a request that reaches it in the same SEQ cycle (R32). -/
def parkWins (m : Modes) : Status := if m.mode = .park then .modeRefused else .modeSuperseded

/-- A request reaches arbitration: PARK is taken up at once, any other becomes the pending one, but for one that a request of the same
HOST cycle from a path later in the order outranks (R55, R56, R58, R923). -/
def modeRequest (q : ModeReq) : Prog := .ask fun s =>
  let q := { q with since := s.time.toNat }
  let take : Prog := if q.mode = .park then .seq (acceptMode q)
      (if s.modes.mode = .park && s.modes.target.isNone then completeMode q .ok
       else modModes fun m => { m with parkReq := m.parkReq ++ [q] })
    else modModes fun m => { m with pendingReq := some q }
  match s.modes.pendingReq with
  | some old =>
    if q.mode ≠ .park && outranks old q then completeMode q .modeSuperseded
    else all [ modModes fun m => { m with pendingReq := none }, completeMode old .modeSuperseded, take ]
  | none => take

/-! ### Transitions -/

/-- The covers that are open as MODE leaves PREPARE (R329). -/
def coversAtLeave : Prog := each (List.range 4) fun h => .ask fun s =>
  when (!s.fenced h && s.rdB .coverEn h && s.rdB .coverState h) (coverReport h)

def heads (p : Nat → Prog) : Prog := each (List.range 4) fun h => inIsland h (p h)

/-- The island actions before MODE changes (transitions table). -/
def leaveMode (from' nxt : Mode) : Prog := all
  [ when (from' = .calibrate) (.seq (each (List.range 4) abandonCal) (heads leaveScan)),
    when (from' = .scan) (heads leaveScan),
    when (from' = .scan || from' = .calibrate) (each (List.range 4) staleArm),
    when (nxt = .prepare && from' ≠ .park)
      (.seq (inIsland islMotion stopAxes) (inIsland islLight (stringsOff false))),
    when (nxt = .scan) (heads fun h => .ask fun s => when (s.headState' h = hdIdle) (arm h)) ]

/-- The pending request is taken up once nothing is in flight (R57, R60, R923). While a halt line is up PARK goes before it (R32, R59). -/
def takeUpMode : Prog := .ask fun s => match s.modes.pendingReq with
  | none => .nop
  | some q => when (s.modes.inFlight.isNone && s.modes.target.isNone && s.modes.parkReq = [])
    (.seq (modModes fun m => { m with pendingReq := none })
      (match if s.modes.haltLines ≠ [] then parkWins s.modes else modeCheck s q.mode with
       | .ok =>
         if q.mode = s.modes.mode then .seq (acceptMode q) (completeMode q .ok)
         else all
           [ acceptMode q, modModes (fun m => { m with inFlight := some q, target := some q.mode }),
             leaveMode s.modes.mode q.mode ]
       | st => completeMode q st))

/-- Whether every island has completed its part of a transition into a mode (R39); a fenced island has none to complete. -/
def State.transitionReady (s : State) (nxt : Mode) : Bool :=
  let headsDone := (List.range 4).all fun h => s.fenced h || s.headState' h ∉ [hdArmed, hdPlaying, hdPending]
  let capsDone := (List.range 4).all fun h => s.fenced h || !(s.head h).leaving
  let axesDone := s.fenced islMotion || (List.range 6).all fun a => !s.inMotion a && (s.axis a).pend.isNone
  let stringsDone := s.fenced islLight || (List.range 8).all fun k => !s.lit k
  let streamsDone := s.fenced islHost || (List.range 8).all fun k => (s.stream k).flight = [] && (s.stream k).coming = []
  let linesDone := s.fenced islLine || (List.range 4).all fun h => (s.lineUnit h).queue = []
  match nxt with
  | .prepare => headsDone && (s.modes.mode = .park || linesDone) && (s.modes.mode = .calibrate || streamsDone) && (s.modes.mode = .park || (axesDone && stringsDone))
  | _ => capsDone

/-- MODE takes TARGET (R39, R44, R46). -/
def transitionDone : Prog := .ask fun s => match s.modes.target with
  | none => .nop
  | some nxt => when (s.transitionReady nxt) (all
    [ modModes (fun m => { m with mode := nxt, target := none, inFlight := none }),
      when (nxt = .scan) (all
        [ wr .calUsed 0 1, inIsland islLine calCrcs,
          when (s.rdN .photonMode = 1 && !s.rdB .paceEn) (wrN .tNom 0 (min s.tNomOf 4294967295)), heads fun h => .ask fun s => when (s.headState' h = hdIdle) (arm h) ]),
      when (s.modes.mode = .scan && nxt ≠ .scan) (heads leaveDone),
      emit .modeChanged 0 islSeq (pack [(8, s.modes.mode.code), (8, nxt.code)]),
      when (s.modes.mode = .prepare) coversAtLeave,
      nmtFollow 0, nmtFollow 1,
      match s.modes.inFlight with | some q => completeMode q .ok | none => .nop ])

/-! ### PARK -/

/-- The PARK action of each island that is in service (PARK-action table). -/
def parkIslands (fade : Bool) : Prog := all
  [ heads parkHead, each (List.range 4) staleArm, inIsland islMotion parkAxes, inIsland islLight (stringsOff (!fade)), inIsland islHost streamsPark ]

/-- SEQ asserts the park line (R32, R50 to R53, R58, R918, R919). A pending request that reached arbitration in the SEQ cycle in which the
halt line asserted is resolved with it. -/
def parkEntry : Prog := .ask fun s =>
  let m := s.modes
  let fade := m.haltLines = []
  let finish : Prog := all
    [ match m.inFlight with
      | some q => completeMode q (parkWins m)
      | none => .nop,
      match m.pendingReq with
      | some q => when (m.haltLines ≠ [] && decide (q.since / 250 = m.haltAt / 250))
        (.seq (modModes fun x => { x with pendingReq := none }) (completeMode q (parkWins m)))
      | none => .nop,
      each m.parkReq fun q => completeMode q .ok ]
  when (m.haltLines ≠ [] || m.parkReq ≠ [])
    (if m.mode = .park then all
      [ modModes (fun x => { x with target := none, inFlight := none, haltLines := [], parkReq := [],
                                    parkFade := x.parkFade && decide fade }),
        when (m.parkReq ≠ [] && m.target.isSome) (emit .parkRequested 0 islSeq),
        when (!decide fade && m.parkFade) (inIsland islLight (stringsOff true)),
        finish ]
     else all
      [ modModes (fun x => { x with mode := .park, target := none, inFlight := none, haltLines := [], parkReq := [],
                                    parkFade := decide fade }),
        wrN .parkCause 0 (match m.haltLines with | ev :: _ => ev.code | [] => Event.code .parkRequested),
        when (m.parkReq ≠ []) (emit .parkRequested 0 islSeq),
        emit .modeChanged 0 islSeq (pack [(8, m.mode.code), (8, Mode.code .park)]),
        when (m.mode = .prepare) coversAtLeave,
        parkIslands (decide fade), nmtFollow 0, nmtFollow 1, finish ])

/-- [2000.02] MODE_NOW. -/
def State.modeNow (s : State) : Nat :=
  match s.modes.target with
  | some t => 128 + 4 * t.code + s.modes.mode.code
  | none => 5 * s.modes.mode.code

end Sys2Proof.Machine
end

