-- ==== Sys2Proof/Machine/Power.lean ====
section
/-! DEFINITION. The rails, the sequencer, resets and the junction temperature (*Rails, power sequencing and reset*). Each interval of
the chapter ends with a command of its own; the rail that it names is an operand. -/
namespace Sys2Proof.Machine

open Prog

/-! ### Levels -/

def sqOff : Nat := 0
def sqRising : Nat := 1
def sqPartial : Nat := 2
def sqOn : Nat := 3
def sqFalling : Nat := 4
def sqCollapsing : Nat := 5
def sqOffDirty : Nat := 6

/-- B, the number of boot rails (R803). -/
def State.bootN (s : State) : Nat := s.rdN .bootRails

/-- The managed rails in use, in ascending order (R805). -/
def State.managed (s : State) : List Nat :=
  (List.range 12).filter fun r => decide (s.bootN ≤ r) && bitAt (s.rdN .railMask) r

/-- The level that a POWER_REQ value asks for (R808). -/
def State.railLevel (s : State) (req : Nat) : Nat :=
  match req with | 0 => 0 | 1 => min (s.rdN .partialCount) s.managed.length | _ => s.managed.length

/-- The target in force (R813, R814). -/
def State.seqTarget (s : State) : Nat := if s.seqr.forced then 0 else s.railLevel (s.rdN .seqPowerReq)

/-- The state of a level reached (R921). -/
def State.levelState (s : State) : Nat :=
  let n := s.managed.length
  if n = 0 then (if s.rdN .seqPowerReq = 0 then sqOff else sqOn)
  else if s.seqr.level = 0 then sqOff else if s.seqr.level = n then sqOn else sqPartial

/-- An event of SEQ; none while device reset is held (R920). -/
def seqEmit (ev : Event) (p1 : U32) : Prog := live (emit ev unitSeq islSeq p1)
def seqClear (ev : Event) : Prog := live (clearEvent ev unitSeq islSeq)

/-- A change of SEQ_STATE (R823). -/
def seqTo (st : Nat) : Prog := .ask fun s => when (s.rdN .seqState ≠ st) (.seq (wrN .seqState 0 st) (bump unitSeq))

/-- A loss of a rail ends (R822). -/
def lossEnd (r : Nat) : Prog := .ask fun s => when (s.rail r).lost (.seq (modRail r fun x => { x with lost := false })
  (.ask fun s => when ((List.range 12).all fun q => !(s.rail q).lost) (seqClear .railLost)))

/-- EN of a rail (R811, R812). A rail whose EN is low is not good; one whose EN is high is not discharged. -/
def enSet (r : Nat) (on : Bool) : Prog :=
  if on then modRail r fun x => { x with en := true, dis := false }
  else .seq (modRail r fun x => { x with en := false, good := false }) (lossEnd r)

/-- P6 writes 0 to POWER_REQ (R814, R815, R821), as a value alone while no report can be numbered. -/
def p6Zero : Prog := .ask fun s => when (s.rdN .seqPowerReq ≠ 0)
  (if s.live then p6Write .seqPowerReq 0 0 else wr .seqPowerReq 0 0)

def upStart (r : Nat) : Prog := all
  [ modSeqr fun q => { q with step := some { rail := r, up := true } }, wrN .seqStep 0 r, seqTo sqRising ]

def downStart (r : Nat) : Prog := all
  [ modSeqr fun q => { q with step := some { rail := r, up := false } }, wrN .seqStep 0 r, enSet r false, seqTo sqFalling ]

/-- Level 0 is reached: a forced descent ends, and RAIL_PG_TIMEOUT clears (R843, R874). -/
def seqAtZero : Prog := .seq (modSeqr fun q => { q with forced := false }) (seqClear .railPgTimeout)

/-- The level reached is compared with the target in force, and the next step starts (R813, R921, R922). -/
def seqAdvance : Prog := .ask fun s =>
  let k := s.seqr.level
  let t := s.seqTarget
  let was := s.rdN .seqState
  when (s.seqr.step.isNone && was ≠ sqCollapsing && was ≠ sqOffDirty)
    (if k < t then upStart (s.managed.getD k 0)
     else if t < k then downStart (s.managed.getD (k - 1) 0)
     else if k = 0 && was = sqFalling && s.rdN .dirtyMask ≠ 0 then .seq (seqTo sqOffDirty) seqAtZero
     else all
       [ seqTo s.levelState,
         when (was = sqRising || was = sqFalling || (s.managed = [] && was ≠ s.levelState))
           (seqEmit .seqDone (pack [(8, k)])),
         when (k = 0) seqAtZero ])

def stepDone (level : Nat → Nat) : Prog := all
  [ modSeqr fun q => { q with step := none, level := level q.level }, wrN .seqStep 0 0xFF, seqAdvance ]

/-- A rail is marked dirty (R817, R821). -/
def markDirty (r : Nat) : Prog := .ask fun s => .seq (wrN .dirtyMask 0 (s.rdN .dirtyMask ||| 2 ^ r))
  (seqEmit .railNoDischarge (pack [(8, r)]))

/-- DIRTY_MASK changes; OFF_DIRTY ends with its last bit (R818). -/
def dirtyTo (mask : Nat) : Prog := .seq (wrN .dirtyMask 0 mask)
  (.ask fun s => when (mask = 0 && s.rdN .seqState = sqOffDirty) (.seq (seqTo sqOff) seqAdvance))

/-- A descent to level 0 that no write changes (R814 to R816, R843). -/
def forceDescent : Prog := all
  [ modSeqr fun q => { q with forced := true }, p6Zero, seqAdvance,
    .ask fun s => when (s.seqr.level = 0 && s.seqr.step.isNone) (modSeqr fun q => { q with forced := false }) ]

/-- A down step ends (R812, R815, R817). -/
def downEnd (r : Nat) (dirty : Bool) : Prog := .seq
  (when dirty (.seq (markDirty r) (.ask fun s => when (s.rdN .seqState = sqFalling)
    (.seq (modSeqr fun q => { q with forced := true }) p6Zero))))
  (stepDone (· - 1))

/-! ### Collapse -/

/-- The drops and the watches of a collapse have ended (R821). -/
def collapseCheck : Prog := .ask fun s =>
  when (s.rdN .seqState = sqCollapsing && s.seqr.drops = [] && s.seqr.watch = []) (all
    [ modSeqr fun q => { q with level := 0 },
      seqTo (if s.rdN .dirtyMask ≠ 0 then sqOffDirty else sqOff), seqAtZero, seqAdvance ])

/-- The next rail of a collapse has its EN driven low (R821). -/
def collapseDrop : Prog := .ask fun s => match s.seqr.drops with
  | [] => .nop
  | r :: rest => all
    [ enSet r false,
      modSeqr fun q => { q with drops := rest, level := q.level - 1,
                                watch := if (s.rail r).dis then q.watch else q.watch ++ [r] },
      collapseCheck ]

/-- A collapse starts (R819 to R821); its first rail is dropped at once. -/
def collapse : Prog := .ask fun s =>
  let drops := s.managed.reverse.filter fun r => (s.rail r).en
  let stepped := match s.seqr.step with
    | some st => if !st.up && !(s.rail st.rail).dis then [st.rail] else []
    | none => []
  when (s.rdN .seqState ≠ sqCollapsing) (all
    [ modSeqr fun q => { q with step := none, drops := drops, watch := stepped }, wrN .seqStep 0 0xFF,
      seqTo sqCollapsing, p6Zero, collapseDrop, collapseCheck ])

/-! ### Boot rails -/

def bootUp (r : Nat) : Prog := modSeqr fun q => { q with bstep := some { rail := r, up := true } }

/-- The boot rails are powered down in reverse for a retry (R829, R830). -/
def bootDown : Prog := .ask fun s =>
  match ((List.range s.bootN).filter fun r => (s.rail r).en).getLast? with
  | some r => .seq (modSeqr fun q => { q with bstep := some { rail := r, up := false }, bootDown := true }) (enSet r false)
  | none => modSeqr fun q => { q with bstep := none, bootDown := true }

/-! ### Rows of the steps -/

def upEnd (r : Nat) : Prog := .ask fun s =>
  .seq (when (s.seqr.step = some { rail := r, up := true, enOn := true }) (stepDone (· + 1)))
    (when (s.seqr.bstep = some { rail := r, up := true, enOn := true })
      (if r + 1 < s.bootN then bootUp (r + 1) else modSeqr fun q => { q with bstep := none }))

/-- A down step of a rail ends if DISCHARGE has elapsed and the rail is discharged. -/
def downCheck (r : Nat) : Prog := .ask fun s => when (s.rail r).dis
  (.seq (when (s.seqr.step = some { rail := r, up := false, elapsed := true }) (downEnd r false))
    (when (s.seqr.bstep = some { rail := r, up := false, elapsed := true }) bootDown))

/-- The thresholds of PG in mV (R802, R804). -/
def State.goodAbove (s : State) (r : Nat) : Nat := if r < s.bootN then 600 else s.rdN .goodTh r
def State.offBelow (s : State) (r : Nat) : Nat := if r < s.bootN then 100 else s.rdN .offTh r

def powered (p : Prog) : Prog := .ask fun s => when (s.phase ≠ .unpowered) p

/-- ON_DELAY_EXPIRED (R811). -/
def execOnDelayExpired (r : Fin 12) (s : State) : Host.Outcome State Fault Refusal :=
  done (powered (.ask fun s =>
    let wait : Option SeqStep := some { rail := r, up := true }
    let high : Option SeqStep := some { rail := r, up := true, enOn := true }
    when (s.seqr.step = wait || s.seqr.bstep = wait) (all
      [ modSeqr fun q => { q with step := if q.step = wait then high else q.step,
                                  bstep := if q.bstep = wait then high else q.bstep },
        enSet r true, .ask fun s => when (s.rail r).good (upEnd r) ]))) s

/-- A rail is good. -/
def railGoodNow (r : Nat) : Prog := all [ modRail r fun x => { x with good := true, dis := false }, lossEnd r, upEnd r ]

/-- RAIL_GOOD: PG in mV has stayed above GOOD_TH for 1 µs (R802, R811, R822). -/
def execRailGood (r : Fin 12) (pg : BitVec 16) (s : State) : Host.Outcome State Fault Refusal :=
  done (powered (.ask fun s => when (decide (s.goodAbove r < pg.toNat)) (railGoodNow r))) s

/-- PG_TIMEOUT_EXPIRED, with PG in mV: a rail that becomes good in this SEQ cycle is taken as good (R814, R830, R839). -/
def execPgTimeoutExpired (r : Fin 12) (pg : BitVec 16) (s : State) : Host.Outcome State Fault Refusal :=
  done (powered (.ask fun s =>
    let high : Option SeqStep := some { rail := r, up := true, enOn := true }
    if s.goodAbove r < pg.toNat then when (s.seqr.step = high || s.seqr.bstep = high) (railGoodNow r)
    else .seq (when (s.seqr.step = high) (all
        [ seqEmit .railPgTimeout (pack [(8, r)]),
          modSeqr fun q => { q with step := none, forced := true, level := q.level + 1 },
          p6Zero, downStart r ]))
      (when (s.seqr.bstep = high) bootDown))) s

/-- DISCHARGE_EXPIRED (R812). -/
def execDischargeExpired (r : Fin 12) (s : State) : Host.Outcome State Fault Refusal :=
  done (powered (.seq
    (modSeqr fun q =>
      let low : Option SeqStep := some { rail := r, up := false }
      let el : Option SeqStep := some { rail := r, up := false, elapsed := true }
      { q with step := if q.step = low then el else q.step, bstep := if q.bstep = low then el else q.bstep })
    (downCheck r))) s

/-- RAIL_DISCHARGED: PG in mV has stayed below OFF_TH for 1 µs (R802, R812, R818, R821). -/
def execRailDischarged (r : Fin 12) (pg : BitVec 16) (s : State) : Host.Outcome State Fault Refusal :=
  done (powered (.ask fun s => when (decide (pg.toNat < s.offBelow r)) (all
    [ modRail r fun x => { x with dis := true, good := false },
      .ask fun s => when (bitAt (s.rdN .dirtyMask) r) (dirtyTo (s.rdN .dirtyMask - 2 ^ r.val)),
      downCheck r,
      .ask fun s => when (r.val ∈ s.seqr.watch)
        (.seq (modSeqr fun q => { q with watch := q.watch.filter (· ≠ r.val) }) collapseCheck) ]))) s

/-- OFF_TIMEOUT_EXPIRED, with PG in mV: a rail that becomes discharged in this SEQ cycle is taken as discharged (R812, R817, R821, R840). -/
def execOffTimeoutExpired (r : Fin 12) (pg : BitVec 16) (s : State) : Host.Outcome State Fault Refusal :=
  done (powered (.seq (.ask fun s => when (decide (pg.toNat < s.offBelow r)) (modRail r fun x => { x with dis := true, good := false })) (.ask fun s =>
    let here (st : Option SeqStep) : Bool := match st with | some st => decide (st.rail = r) && !st.up | none => false
    let dirty := !(s.rail r).dis
    all
      [ when (here s.seqr.step) (downEnd r dirty),
        when (here s.seqr.bstep) (.seq (when dirty (markDirty r)) bootDown),
        when (r.val ∈ s.seqr.watch)
          (all [ when dirty (markDirty r), modSeqr fun q => { q with watch := q.watch.filter (· ≠ r.val) }, collapseCheck ]) ]))) s

/-- RAIL_LOST: PG in mV has stayed at or below GOOD_TH for 1 µs (R802, R819 to R822, R841). -/
def execRailLost (r : Fin 12) (pg : BitVec 16) (s : State) : Host.Outcome State Fault Refusal :=
  done (powered (.ask fun s =>
    let x := s.rail r
    let st := s.rdN .seqState
    when (r.val ∈ s.managed && x.en && x.good && decide (pg.toNat ≤ s.goodAbove r)) (.seq (modRail r fun x => { x with good := false })
      (if st = sqFalling then .seq (seqEmit .railLostDown (pack [(8, r)])) collapse
       else when (st ∈ [sqRising, sqPartial, sqOn]) (all
         [ modRail r fun x => { x with lost := true },
           seqEmit .railLost (pack [(8, r)]),
           when (s.rdN .lossPolicy = 1) collapse ]))))) s

/-- COLLAPSE_STEP (R821). -/
def execCollapseStep (s : State) : Host.Outcome State Fault Refusal :=
  done (powered (.ask fun s => when (s.rdN .seqState = sqCollapsing) collapseDrop)) s

/-! ### Resets -/

/-- The entries that a device reset keeps (R66, R885). -/
def resetKeeps (key : Nat) : Bool :=
  let idx := key / 256
  (decide (idx = 0x2200) && decide (key ≠ 0x220001)) || (decide (0x2210 ≤ idx) && decide (idx ≤ 0x221B)) || decide (idx = 0x2220)
    || key = 0x223001 || key = 0x223002 || key = 0x223003 || decide (idx = 0x2B02) || decide (idx = 0x2B03)
    || key = keyOf .resetCount 0 0 || key = keyOf .tbStatus 0 0

/-- Every memory but SECURE is zeroed. -/
def zeroMemories : Prog := .seq (.op (.zero 0 secureBase)) (.op (.zero (patternBase 0) 0x10000))

/-- Everything that a device reset resets (R66, R73, R142, R149, R158, R579, R825, R885, R913). RESET_COUNT saturates (R150 does not say
whether it wraps: DESIGN CHOICE, log 70). -/
def clearForReset : Prog := .ask fun s => all
  [ .op (.resetReports fun ev => decide (ev.code / 256 = 0x22) || ev = .tamper),
    .op (.clearState resetKeeps),
    zeroMemories,
    wr .tjPeak 0 (s.rd .tj),
    wrN .tbStatus 0 (s.rdN .tbStatus % 4),
    wrN .resetCount 0 (min 4294967295 (s.rdN .resetCount + 1)),
    modSeqr fun q => { q with tjArmed := true, locks := [], retried := false },
    .op (.phase .held) ]

/-- A device reset of a source (R825, R826, R828), also while one is held. -/
def deviceResetBy (bit : Nat) (collapses : Bool) : Prog := powered (.ask fun s => all
  [ if s.phase = .held then wrN .resetCause 0 (s.rdN .resetCause ||| 2 ^ bit)
    else .seq clearForReset (wrN .resetCause 0 (2 ^ bit)),
    .ask fun s =>
      if collapses && (s.seqr.step.isSome || s.managed.any fun r => (s.rail r).en) then collapse else forceDescent ])

/-- RESET_N_ASSERTED (R825). -/
def execResetNAsserted (s : State) : Host.Outcome State Fault Refusal := done (deviceResetBy 1 false) s

/-- SUPPLY_LOW (R825). -/
def execSupplyLow (s : State) : Host.Outcome State Fault Refusal := done (deviceResetBy 3 true) s

/-- BOOT_RAIL_LOST, with PG in mV (R802, R804, R829): the boot rails keep EN high. -/
def execBootRailLost (r : Fin 12) (pg : BitVec 16) (s : State) : Host.Outcome State Fault Refusal :=
  done (powered (.ask fun s => when (decide (r.val < s.bootN) && (s.rail r).en && (s.rail r).good && decide (pg.toNat ≤ s.goodAbove r))
    (.seq (modRail r fun x => { x with good := false }) (deviceResetBy 4 true)))) s

/-- BOOT_RAIL_TIMEOUT (R829). -/
def execBootRailTimeout (s : State) : Host.Outcome State Fault Refusal :=
  done (.ask fun s => when (s.phase = .held && s.seqr.bstep.isNone && !s.seqr.bootDown
    && (List.range s.bootN).any fun r => !(s.rail r).good) bootDown) s

/-- BOOT_RETRY_DELAY (R829). -/
def execBootRetryDelay (s : State) : Host.Outcome State Fault Refusal :=
  done (.ask fun s => when (s.phase = .held && s.seqr.bootDown && s.seqr.bstep.isNone) (all
    [ countUp .bootFails 0, modSeqr fun q => { q with bootDown := false, retried := true }, bootUp 0 ])) s

/-- AON_POWER_FAIL: every EN goes low; the map of retired rows is lost, and SAFE goes on from VBAT_SAFE (R594, R800, R801). -/
def execAonPowerFail (s : State) : Host.Outcome State Fault Refusal :=
  done (powered (all
    [ each (List.range 12) (fun r => .op (.rail r {})), each (List.range 25) (fun b => .op (.retired b [])),
      .op (.phase .unpowered) ])) s

/-- What SAFE keeps of its entries without VDD_AON: those that read as held (R66, R604, R800); TAMPER_EN takes its default. -/
def safeKeeps (key : Nat) : Bool := (decide (key / 256 = 0x2B02) || decide (key / 256 = 0x2B03)) && key ≠ keyOf .tamperEn 0 0

/-- AON_POWER_ON, up to the release of power-on reset (R803, R827): SEQ resets, the time base restarts from 0 in holdover, and
the first boot rail starts. -/
def execAonPowerOn (seqBoot : BitVec 4) (s : State) : Host.Outcome State Fault Refusal :=
  let n := if 12 < seqBoot.toNat then 0 else seqBoot.toNat
  done (.ask fun s => when (s.phase = .unpowered) (all
    [ .op (.resetReports fun _ => false),
      .op (.clearState safeKeeps),
      zeroMemories, .op .restartTime, .op (.seqr {}), modSecure fun x => { x with armed := false },
      wrN .resetCause 0 1, wrN .tbStatus 0 2, wrN .bootRails 0 n, wrN .straps 0 (4 * seqBoot.toNat),
      .op (.phase .held), when (0 < n) (bootUp 0) ])) s

/-- RESET_RELEASE (R831 to R833), once every boot rail and every supply monitor is good, REF_CLK is present and RESET_N is high. -/
def execResetRelease (parStyle linkRoot : Bool) (monitors : BitVec 5) (refClk resetN : Bool) (s : State) : Host.Outcome State Fault Refusal :=
  done (.ask fun s => when (s.phase = .held && s.seqr.bstep.isNone && !s.seqr.bootDown && monitors = 0x1F && refClk && resetN
      && (List.range s.bootN).all fun r => (s.rail r).en && (s.rail r).good) (all
    [ wrN .straps 0 (s.rdN .straps / 4 * 4 + 2 * bit01 linkRoot + bit01 parStyle),
      wrN .parStyle 0 (bit01 parStyle), wrN .isRoot 0 (bit01 linkRoot),
      modSeqr fun q => { q with locks := [] }, .op (.phase .starting) ])) s

/-! ### Junction temperature -/

/-- TJ_SAMPLE (R835 to R838). -/
def execTjSample (t : BitVec 32) (s : State) : Host.Outcome State Fault Refusal :=
  done (powered (.ask fun s =>
    let x := realRat t
    let warn := realRat (s.rd .tjWarn)
    all
      [ wr .tj 0 t,
        when (!s.seqr.tjSeen || decide (realRat (s.rd .tjPeak) < x)) (wr .tjPeak 0 t),
        modSeqr fun q => { q with tjSeen := true, tjArmed := q.tjArmed || decide (x ≤ warn - 5) },
        live (all
          [ .ask fun s => when (s.seqr.tjArmed && decide (warn ≤ x))
              (.seq (modSeqr fun q => { q with tjArmed := false }) (seqEmit .tjHigh t)),
            .ask fun s => when (decide (125 ≤ x) && !s.isUncleared .tjShutdown unitSeq) (seqEmit .tjShutdown t),
            when (decide (x < 110)) (seqClear .tjShutdown) ]) ])) s

/-! ### Writes -/

def powerValue (s : State) (n : Name) (j : Nat) (w : U32) : Status :=
  let v := w.toNat
  let boot := decide (j < s.bootN)
  match n with
  | .seqPowerReq => within 0 2 v
  | .railMask => need (decide (v < 4096) && decide (v % 2 ^ s.bootN = 0)) .range
  | .partialCount => inRange 0 12 v
  | .lossPolicy => oneOf [0, 1] v
  | .dirtyClr => oneOf [1] v
  | .onDelay => need (!boot) .range
  | .pgTimeout => need (!boot && decide (1 ≤ v)) .range
  | .railDischarge => need (!boot && decide (v ≤ s.rdN .offTimeout j)) .range
  | .offTimeout => need (!boot && decide (1 ≤ v) && decide (s.rdN .railDischarge j ≤ v)) .range
  | .goodTh => need (!boot && decide (1 ≤ v) && decide (v ≤ 1200) && decide (s.rdN .offTh j < v)) .range
  | .offTh => need (!boot && decide (v ≤ 1199) && decide (v < s.rdN .goodTh j)) .range
  | .deviceReset => oneOf [0x72737421] v
  | .tjWarn => need (realFinite w && decide (60 ≤ realRat w) && decide (realRat w ≤ 124)) .range
  | _ => .ok

/-- Refusals by the state of the sequencer (R805, R806, R809, R810, R816). -/
def powerState (s : State) (n : Name) (w : U32) : Status :=
  let st := s.rdN .seqState
  match n with
  | .seqPowerReq =>
    let was := s.railLevel (s.rdN .seqPowerReq)
    let t := s.railLevel w.toNat
    firstBad
      [ need (!(s.seqr.forced || st = sqCollapsing)) .seqBusy,
        need (!(decide (t < was) && decide (s.modes.mode ∈ [.calibrate, .scan]))) .notInMode,
        need (!(decide (was < t) && s.rdN .dirtyMask ≠ 0)) .powerDirty ]
  | .railMask => need (st = sqOff) .seqBusy
  | .onDelay | .pgTimeout | .railDischarge | .offTimeout | .goodTh | .offTh =>
    need (decide (st ∉ [sqRising, sqFalling, sqCollapsing])) .seqBusy
  | _ => .ok

def powerEffect (n : Name) : Prog :=
  match n with
  | .seqPowerReq | .railMask | .partialCount => seqAdvance
  | .dirtyClr => dirtyTo 0
  | .deviceReset => deviceResetBy 2 false
  | _ => .nop

end Sys2Proof.Machine
end

