-- ==== Sys2Proof/Machine/Islands.lean ====
section
/-! DEFINITION. Fences, readmission and the time base (*Islands, handshakes and the time base*), and the end of start-up
(*Start-up*). -/
namespace Sys2Proof.Machine

open Prog

/-- The unit that a group 21 event names: the island's, where it owns exactly one (R879). -/
def islandUnit (i : Nat) : Nat := match islandUnits i with | [u] => u | _ => 0

/-- [2100.ss] ISLAND_STATE. -/
def islandStateOf (x : Island) : Nat :=
  let phase := match x.st with | .locking => 1 | .syncing => 2 | .waiting => 3 | _ => 0
  128 * bit01 (x.st ≠ .running) + 32 * phase + 8 * x.cause

/-- At a readmission the epochs of the island's units, which are those of the fence logic, are incremented and pushed (R180, R902). -/
def readmitEpochs (i : Nat) : Prog := each (islandUnits i) fun u => .seq (bump u)
  (.ask fun s => .op (.reflect .epoch 0 (u - 1) (u32 (s.epochOf u))))

/-- At a fence the fence logic takes its copies of the epochs, which are those last pushed to the mirror, increments and pushes them; from
then on they are the epochs of the island's units (R180, R902). -/
def fenceEpochs (i : Nat) : Prog := each (islandUnits i) fun u => .ask fun s =>
  let v := u32 ((s.pushedEpoch u + 1) % 65536)
  .seq (wri .epoch 0 (u - 1) v) (.op (.reflect .epoch 0 (u - 1) v))

/-! ### The fenced states of the islands -/

/-- NET is fenced: transfers are abandoned (R744). -/
def fenceNet : Prog := each (List.range 2) fun x => modCtrl x fun c =>
  let due := match c.xfer, c.applying with
    | some (.down i j ..), _ | some (.up i j ..), _ | some (.blockDown i j ..), _ | some (.blockUp i j ..), _ => some (i, j)
    | none, some a => some (a.index, a.sub)
    | none, none => none
  { c with xfer := none, applying := none, replies := [], abortDue := due, resume := true }

/-- NET is readmitted: the NMT states follow the mode; each controller waits for its bus idle (R744, R917). -/
def readmitNet : Prog := each (List.range 2) fun x => .ask fun s =>
  when (s.rdN .nmtState x ≠ 0) (wrN .nmtState x (nmtOfMode s.modes.mode))

/-- The outputs of an island go to their fenced states (fenced-behaviour table). -/
def fenceActs (i : Nat) : Prog :=
  if i < 4 then fenceHead i
  else match i with
  | 4 => fenceLine
  | 5 => fenceStore
  | 6 => freeLost true
  | 7 => fenceNet
  | 8 => .seq fenceLink (freeLost false)
  | 9 => each (List.range 6) fun a => modAxis a fun x => { x with stepOut := false }
  | 10 => fenceLight
  | 11 => all [ fenceHeath, inIsland islLight fenceHeathLight, each (List.range 4) fun h => modLineUnit h fun u => { u with noTemp := true } ]
  | 12 => fenceTimer
  | _ => .nop

/-- A head readmitted takes the state that MODE asks for (R193, R194): during a transition it waits in IDLE, and its capture is abandoned,
until BUSY clears. -/
def readmitHead (h : Nat) : Prog := .ask fun s =>
  .seq (when (s.head h).stale (.seq (abandonCal h) (disarm h hdIdle)))
    (match s.modes.mode, s.modes.target with
     | .park, _ => parkHead h
     | .scan, none => .ask fun s => when (s.headState' h = hdIdle) (arm h)
     | _, none => .nop
     | _, some _ => .seq (abandonCal h) (.ask fun s => when (s.armedNow h) (disarm h hdIdle)))

/-- HOST is readmitted: the waiting reports are numbered, and each stream that lost records says so (R183, R657). -/
def readmitHost : Prog := .ask fun s => all [ .op (.numberWaiting (s.stamp islHost)), .op .free, streamsReadmit, completeDue ]

/-- What an island does at its readmission point. -/
def readmitActs (i : Nat) : Prog := .ask fun s =>
  let parked := decide (s.modes.mode = .park)
  if i < 4 then readmitHead i
  else match i with
  | 4 => readmitLine
  | 5 => readmitStore
  | 6 => .seq readmitHost (when parked streamsPark)
  | 7 => readmitNet
  | 8 => readmitLink
  | 9 => .seq readmitAxes (when parked parkAxes)
  | 10 => when parked (stringsOff true)
  | 11 => readmitHeath
  | 12 => readmitTimer
  | _ => .nop

/-! ### Fencing -/

/-- P6 writes FENCE_REQ (R177, R185). -/
def p6Fence (i v : Nat) : Prog := .ask fun s => when (s.rdN .fenceReq 0 i ≠ v) (commit .internal .fenceReq 0 i (u32 v))

/-- FENCE_REQ ← 1 or 0 of a path (R176, R185, R915). -/
def fenceRequest (i v : Nat) : Prog := modIsland i fun x =>
  if v = 1 then
    match x.st with
    | .running => if x.coming.isSome then { x with readmit := false } else { x with coming := some (1, 0), readmit := false }
    | _ => { x with st := .fenced }
  else if x.coming.isSome then { x with readmit := true }
  else if x.st = .fenced then { x with st := .locking, attempts := 0 } else x

/-- An automatic fence (R177, R192, R914). -/
def autoFence (i cause sender : Nat) : Prog := .seq (p6Fence i 1) (modIsland i fun x => match x.st with
  | .running => { x with coming := some (match x.coming with | some (k, y) => if 2 ≤ k then (k, y) else (cause, sender)
                                                             | none => (cause, sender)), readmit := false }
  | _ => { x with st := .fenced, cause := cause })

/-- ISLAND_PLL_LOST (R177). -/
def execIslandPllLost (i : Fin 15) (s : State) : Host.Outcome State Fault Refusal := done (live (autoFence i 2 0)) s

/-- FENCE_TAKES_EFFECT (R179, R180, R902, R914, R915). -/
def execFenceTakesEffect (i : Fin 15) (s : State) : Host.Outcome State Fault Refusal :=
  done (live (.ask fun s => match (s.island i).coming with
    | none => .nop
    | some (cause, sender) => all
      [ fenceActs i,
        modIsland i (fun x => { x with st := if x.readmit then .locking else .fenced, cause := cause, coming := none,
                                       readmit := false, attempts := 0 }),
        fenceEpochs i,
        match cause with
        | 1 => emit .islandFenced (islandUnit i) i (pack [(8, i)])
        | 2 => emit .islandPllLost (islandUnit i) i (pack [(8, i)])
        | _ => emit .handshakeTimeout (islandUnit i) i (pack [(8, sender), (8, i)]) ])) s

/-! ### Readmission -/

/-- READMIT_FAILED: the island stays FENCED; the event carries the island and the reason, lock (false) or synchronisation (true), whose
codes the spec does not give (R185, R191; DESIGN CHOICE, log 66). -/
def readmitFailed (i : Nat) (sync : Bool) : Prog := all
  [ p6Fence i 1, modIsland i (fun x => { x with st := .fenced }),
    emit .readmitFailed (islandUnit i) i (pack [(8, i), (8, (Config.readmitReason sync).toNat)]) ]

/-- ISLAND_PLL_LOCK, after a device reset (R834) or in LOCKING (R185). -/
def execIslandPllLock (i : Fin 15) (s : State) : Host.Outcome State Fault Refusal :=
  done (.ask fun s =>
    if s.phase = .starting then modSeqr fun q => { q with locks := if i.val ∈ q.locks then q.locks else q.locks ++ [i.val] }
    else live (when ((s.island i).st = .locking) (modIsland i fun x => { x with st := .syncing, attempts := 0 }))) s

/-- READMIT_LOCK_TIMEOUT (R185). -/
def execReadmitLockTimeout (i : Fin 15) (s : State) : Host.Outcome State Fault Refusal :=
  done (live (.ask fun s => when ((s.island i).st = .locking) (readmitFailed i false))) s

/-- The whole counts of 250 ps within a stamp quantum (R174, R186): 12 in LIGHT's 3.125 ns and 162 in HEATH's 40.69 ns, where a stamp's bound
is rounded up. -/
def syncQuantum (i : Nat) : Nat := if i = islLight then 12 else if i = islHeath then 162 else stampQuantum i

/-- Each value is above the one before it. -/
def risingU64 : List U64 → Bool
  | a :: b :: l => decide (a < b) && risingU64 (b :: l)
  | _ => true

/-- Whether an attempt of 16 samples, each with the SEQ count at its instant, is consistent (R186). -/
def syncConsistent (i : Nat) (samples : List (U64 × U64)) : Bool :=
  samples.length = 16 && risingU64 (samples.map (·.1))
    && samples.all fun x => decide (x.1 - x.2 ≤ BitVec.ofNat 64 (syncQuantum i)) || decide (x.2 - x.1 ≤ BitVec.ofNat 64 (syncQuantum i))

/-- SYNC_ATTEMPT_END, with the samples of the attempt and the SEQ counts they are held against (R185, R186). -/
def execSyncAttemptEnd (i : Fin 15) (samples : List (U64 × U64)) (s : State) : Host.Outcome State Fault Refusal :=
  done (live (.ask fun s => when ((s.island i).st = .syncing)
    (if syncConsistent i samples then modIsland i fun x => { x with st := .waiting }
     else if (s.island i).attempts < 2 then modIsland i fun x => { x with attempts := x.attempts + 1 }
     else readmitFailed i true))) s

/-- An island passes its readmission point (R180, R185, R193, R917). The uncleared event of the fence clears (R874). -/
def readmission (i : Nat) : Prog := .ask fun s => when ((s.island i).st = .waiting) (all
  [ modIsland i (fun x => { x with st := .running }), readmitEpochs i, readmitActs i,
    emit .islandReadmitted (islandUnit i) i (pack [(8, i)]),
    clearEvent .islandPllLost (islandUnit i) i, clearEvent .handshakeTimeout (islandUnit i) i ])

/-! ### The time base -/

/-- TB_HOLDOVER (R173). -/
def execTbHoldover (s : State) : Host.Outcome State Fault Refusal :=
  done (powered (.ask fun s => when (!bitAt (s.rdN .tbStatus) 1) (.seq (wrN .tbStatus 0 (s.rdN .tbStatus / 4 * 4 + 2))
    (live (emit .tbHoldover 0 islSeq))))) s

/-- HOLDOVER_EXIT (R173). -/
def execHoldoverExit (s : State) : Host.Outcome State Fault Refusal :=
  done (powered (.ask fun s => wrN .tbStatus 0 (s.rdN .tbStatus / 4 * 4 + 1))) s

/-! ### The end of start-up -/

/-- START_UP_COMPLETE, once islands 0 to 12 have locked (R142, R834, R886, R920): DEVICE_RESET is the first report, the SEQ_RESET of each
path follows it, and the events whose condition holds are recorded again; those whose cause has ended clear. -/
def execStartUpComplete (s : State) : Host.Outcome State Fault Refusal :=
  done (.ask fun s => when (s.phase = .starting && (List.range 13).all fun i => decide (i ∈ s.seqr.locks)) (all
    [ .op (.phase .live),
      emit .deviceReset unitSeq islSeq (pack [(8, s.rdN .resetCause)]),
      each (List.range 6) (fun n => emit .seqReset 0 islHost (u32 n)),
      when (bitAt (s.rdN .tbStatus) 1) (emit .tbHoldover 0 islSeq),
      each (List.range 12) (fun r => when (bitAt (s.rdN .dirtyMask) r) (emit .railNoDischarge unitSeq islSeq (pack [(8, r)]))),
      when s.seqr.retried (.seq (modSeqr fun q => { q with retried := false }) (emit .bootRetry unitSeq islSeq (s.rd .bootFails))),
      when (s.seqr.tjSeen && decide (110 ≤ realRat (s.rd .tj))) (emit .tjShutdown unitSeq islSeq (s.rd .tj)),
      when (s.rdN .tamperState ≠ 0) (emit .tamper 0 islSafe (pack [(8, s.rdN .tamperState)])),
      when ((List.range 12).all fun r => !(s.rail r).lost) (clearEvent .railLost unitSeq islSeq),
      when (decide (s.rdN .seqState ∈ [sqOff, sqOffDirty])) (clearEvent .railPgTimeout unitSeq islSeq),
      when (decide (realRat (s.rd .tj) < 110)) (clearEvent .tjShutdown unitSeq islSeq),
      when (s.rdN .tamperState = 0) (clearEvent .tamper 0 islSafe) ])) s

end Sys2Proof.Machine
end

