-- ==== Sys2Proof/Machine/Read.lean ====
section
/-! DEFINITION. What an entry reads: the present value in its island, and the mirrored value (*The mirror*); the tables behind the
DOMAIN objects; the state digests (*State digests*). -/
namespace Sys2Proof.Machine

open Prog

/-! ### Tables behind DOMAIN objects -/

/-- Base and size of the table behind a DOMAIN object; no base for a channel. -/
def State.table (s : State) (n : Name) (j : Nat) : Option (Nat × Nat) :=
  match n with
  | .pattern => some (patternBase j, 0x4000)
  | .darkTable => some (s.calAddr j 0, 0x30000)
  | .gainTable => some (s.calAddr j 0x30000, 0x30000)
  | .tempCoef => some (s.calAddr j 0x60000, 0x1800)
  | .defectMap => some (s.calAddr j 0x62000, 0x3000)
  | .scanList => some (scanListAt, 0x800)
  | .resultRing => some (scratchBase + 0x8000, 0x10000)
  | .userCurves => some (userCurvesAt, 0x800)
  | .ntcCoef => some (ntcCoefAt, 0x30)
  | .polySets => some (polySetsAt, 0x400)
  | _ => none

/-- The calibration tables are views of a bank (R300). -/
def isCalTable (n : Name) : Bool := n ∈ [.darkTable, .gainTable, .tempCoef, .defectMap]

/-- The largest DOMAIN write of an entry: its table, or the length that its chapter gives. -/
def domMax (n : Name) : Nat :=
  match n with
  | .command => 64 | .fwdOut => 68 | .keyLoad => 32
  | n => (rowOf n).dflt

/-- The written length of a DOMAIN or VISIBLE_STRING (R80). -/
def State.domLen (s : State) (n : Name) (j : Nat) : Nat := s.rdN n j

/-- The bytes of a DOMAIN or VISIBLE_STRING as a path reads them; a WO object gives none (R64). -/
def State.domBytes (s : State) (n : Name) (j : Nat) : List Byte :=
  match n with
  | .deviceName => [0x45, 0x70, 0x74, 0x6F, 0x73, 0x20, 0x58, 0x39]
  | .hwVersion => [0x42, 0x30]
  | n => match s.table n j with
    | some (a, _) => s.bytesAt a (s.domLen n j)
    | none => []

/-- A digest as it was last computed, or that of the defaults (sequence objects table). -/
def State.digestNow (s : State) (g : Nat) : U32 := (s.digest g).getD (digestDefault g)

/-! ### Present values -/

/-- [2000.04] CAL_AGE (R47). -/
def State.calAge (s : State) : Nat := match s.calTime with
  | none => 0xFFFFFFFF
  | some t => min 0xFFFFFFFE ((s.time.toNat - t) / 4000000)

/-- The parameters of a boot rail (R804). -/
def bootParameter (n : Name) : Option Nat :=
  match n with
  | .onDelay => some 500 | .pgTimeout => some 20 | .railDischarge => some 5 | .offTimeout => some 50
  | .goodTh => some 600 | .offTh => some 100 | _ => none

def State.railStatusOf (s : State) (r : Nat) : Nat :=
  let x := s.rail r
  bit01 x.en + 2 * bit01 x.good + 4 * bit01 x.dis + 8 * bit01 x.lost + 16 * bit01 (bitAt (s.rdN .dirtyMask) r)

/-- The value that an entry has in its island now, as path `p` reads it, in its window form. A WO entry reads 0; R80 would let KEY_LOAD and
FWD_OUT read their written length, and R64 prevails (DEDUCED, log 65). -/
def State.readEnt (s : State) (p : Path) (e : Ent) : U32 :=
  let j := e.inst
  let i := e.item
  if e.row.access = .wo then 0
  else match e.name with
  | .timeLo => u32 s.time.toNat
  | .timeHi => u32 (s.time.toNat / 4294967296)
  | .modeNow => u32 s.modeNow
  | .calAge => u32 s.calAge
  | .islandState => u32 (islandStateOf (s.island i))
  | .deviceSeq => s.rep.seq
  | .journalHead => match s.rep.journal with | x :: _ => x.seq | [] => 0
  | .journalOldest => match s.rep.journal.getLast? with | some x => x.seq | none => 0
  | .journalFloor => s.rep.floor.getD 0
  | .journalCount => u32 s.rep.journal.length
  | .stateDigest => s.digestNow i
  | .eventCount => u32 s.rep.eventCount
  | .unclearedCount => u32 s.rep.uncleared.length
  | .uncleared => match s.rep.uncleared[i]? with | some (ev, u) => u32 (ev.code + 65536 * u) | none => 0
  | .errorRegister => u32 (errorRegisterOf s.rep.uncleared)
  | .errorCount => u32 s.rep.errors.length
  | .errorField => u32 (s.rep.errors.getD i 0)
  | .cobIdEmcy => match p with
    | .p3 => u32 (0x80 + s.rdN .nodeIdNow 0)
    | .p4 => u32 (0x80 + s.rdN .nodeIdNow 1)
    | _ => Config.emcyIdElsewhere
  | .dev => i32 (s.devOf j)
  | .countLo => u32 (s.timerCount j)
  | .countHi => u32 (s.timerCount j / 4294967296)
  | .isrcActual => Config.isrcActual i (s.rdN .isrcUa 0 i)
  | .sparesUsed => u32 (s.retired j).length
  | .railsUp => u32 ((List.range 12).foldl (fun a r => a + if (s.rail r).en then 2 ^ r else 0) 0)
  | .railStatus => u32 (s.railStatusOf j)
  | .onDelay | .pgTimeout | .railDischarge | .offTimeout | .goodTh | .offTh =>
    if j < s.bootN then u32 ((bootParameter e.name).getD 0) else s.rd e.name j
  | .tamperEn => if 2 ≤ s.rdN .lifeCycle then 0x0F else s.rd .tamperEn
  | .freeRecords => u32 (s.freeRecordsNow j)
  | .recMax => u32 (s.recMax j)
  | .parPending => u32 (s.port 1).queue.length
  | .qspiPending => u32 (s.port 2).queue.length
  | .parCpl => u32 (s.unread 1).length
  | .qspiCpl => u32 (s.unread 2).length
  | n => s.rd n j i

/-! ### The mirror -/

/-- The value of an entry in the mirror. -/
def State.mirrored (s : State) (e : Ent) : U32 := Store.get (dfltOf e.name e.inst e.item) s.mirror e.key

/-- What a mirrored read returns (R101, R181); the queue lengths are read directly (R680). -/
def State.windowRead (s : State) (p : Path) (e : Ent) : U32 :=
  if e.row.access = .wo then 0
  else match e.name with
  | .parPending | .qspiPending | .parErr | .qspiErr => s.readEnt p e
  | .cobIdEmcy => s.readEnt p e
  | _ => if e.row.ty = .dom || e.row.ty = .str then s.rd e.name e.inst else s.mirrored e

/-- What a read does beyond returning a value (R682, R691). -/
def readEffect (e : Ent) : Prog :=
  match e.name with
  | .parErr => .seq (wr .parErr 0 0) (modPort 1 fun x => { x with err := false })
  | .qspiErr => wr .qspiErr 0 0
  | _ => .nop

/-- Every entry of a unit. -/
def unitEnts (u : Nat) : List Ent :=
  allNames.flatMap fun n => (List.range (rowOf n).count).flatMap fun j => (List.range (rowOf n).subCount).filterMap fun i =>
    let e : Ent := { name := n, inst := j, item := i }
    if e.unit = some u then some e else none

def reflectEnt (e : Ent) : Prog := .ask fun s => .op (.reflect e.name e.inst e.item (s.readEnt .p6 e))

/-- The unit whose entries and epoch a push of an entry carries: that of the entry, or the unit whose EPOCH it is (R104). -/
def Ent.pushUnit (e : Ent) : Option Nat := if e.name = .epoch then some (e.item + 1) else e.unit

/-- The island that pushes an entry to the mirror; none pushes the entries of the fence logic, which go whatever is fenced. -/
def Ent.pusher (e : Ent) : Option Nat := match e.pushUnit with | some u => some (unitIsland u) | none => e.holder

/-- An island pushes an entry to the mirror, with its unit's other entries and epoch (R102, R104, R903). -/
def pushEnt (e : Ent) : Prog := .ask fun s =>
  when (match e.pusher with | some i => !s.fenced i | none => true)
    (match e.pushUnit with
     | some u => .seq (each (unitEnts u) reflectEnt) (.op (.reflect .epoch 0 (u - 1) (u32 (s.epochOf u))))
     | none => reflectEnt e)

/-! ### Digests -/

/-- The contribution of one entry: its window form, or the CRC-32 of its whole table (R160). A calibration table whose bank LINE does not
own contributes that of zeros, which is what a foreign read of the bank returns (DEDUCED, log 59). -/
def State.digestPart (s : State) (e : Ent) : List Byte :=
  if e.row.ty = .dom then match s.table e.name e.inst with
    | some (a, n) => leBytes 4 (crc32 (if isCalTable e.name && !s.calOwned e.inst then List.replicate n 0 else s.bytesAt a n)).toNat
    | none => []
  else leBytes 4 (s.readEnt .p6 e).toNat

/-- The digest of a group's present state (R159 to R161). -/
def State.digestOf (s : State) (g : Nat) : U32 := crc32 ((digestEnts g).flatMap s.digestPart)

/-- A journal entry of a change that the digest of a group covers (R159, R162): a write of a covered entry, a restore, or the event of
a change that no write entry records (DEDUCED, log 59): a claim released by its path's reset, the tables of a calibration, and the
defaults of a Reset Node. -/
def coveredBy (g : Nat) (x : JEntry) : Bool :=
  match x.event with
  | some .defaultsRestored => true
  | some .claimChanged => g = 0
  | some .calDone | some .calFailed => g = 5
  | some .seqReset => g = 13 && decide (x.value = 3 ∨ x.value = 4)
  | some _ => false
  | none => match lookup x.index x.sub with | .ok e => decide (e.name ∈ digestNames g) | .error _ => false

/-- The newest numbered change of a group (R162). -/
def State.groupSeq (s : State) (g : Nat) : Option U32 := (s.rep.journal.find? (coveredBy g)).map (·.seq)

/-- STATE_DIGEST_UPDATE of a group (R162). -/
def execStateDigestUpdate (g : Fin 16) (s : State) : Host.Outcome State Fault Refusal :=
  done (inIsland islHost (.ask fun s => .seq (.op (.digest g (some (s.digestOf g))))
    (match s.groupSeq g with | some q => wri .digestSeq 0 g q | none => .nop))) s

end Sys2Proof.Machine
end

