-- ==== Sys2Proof/Machine/Net.lean ====
section
/-! DEFINITION. The communication entries of the two CAN controllers: PDO parameters and mappings, timing, node-IDs, and what a
Reset Communication does (*CANopen and CANopen FD*). -/
namespace Sys2Proof.Machine

open Prog

/-- The path of a controller. -/
def canPath (x : Nat) : Path := if x = 0 then .p3 else .p4

/-- The controller whose PDO an instance is (services table): PDO k of the tables is instance k - 1. -/
def pdoCtrl (j : Nat) : Nat := if j < 4 then 0 else 1
def pdosOf (x : Nat) : List Nat := if x = 0 then List.range 4 else (List.range 8).map (· + 4)

def pdoNames : List Name :=
  [.rpdoCobId, .rpdoType, .rpdoMapCount, .rpdoMap, .tpdoCobId, .tpdoType, .tpdoInhibit, .tpdoEventTimer, .tpdoMapCount, .tpdoMap]

/-- An entry that the other controller alone uses (R713). -/
def notForPath (p : Path) (e : Ent) : Bool :=
  let idx := if e.name = .highestSub then e.inst else e.row.base
  let pdo := e.name ∈ pdoNames || (e.name = .highestSub && 0x1400 ≤ idx && idx < 0x2000)
  let j := if e.name = .highestSub then e.inst % 0x200 else e.inst
  pdo && (match p with | .p3 => decide (4 ≤ j) | .p4 => decide (j < 4) | _ => false)

/-! ### Mappings -/

/-- The entry of a mapping word, where it can be mapped (R729). -/
def mapTarget (rx : Bool) (w : U32) : Option Ent :=
  match lookup (bits w.toNat 16 16) (bits w.toNat 8 8) with
  | .error _ => none
  | .ok e =>
    let ty := if e.name = .highestSub then Ty.u8 else e.row.ty
    let acc := if e.name = .highestSub then Access.const_ else e.row.access
    if ty ≠ .str ∧ ty ≠ .dom ∧ bits w.toNat 0 8 = 8 * ty.bytes ∧ (!rx || acc = .rw || acc = .rwp) then some e else none

def mapNames (rx : Bool) : Name × Name × Name :=
  if rx then (.rpdoCobId, .rpdoMapCount, .rpdoMap) else (.tpdoCobId, .tpdoMapCount, .tpdoMap)

/-- The words of the mapping of a PDO. -/
def State.mapWords (s : State) (rx : Bool) (j n : Nat) : List U32 := (List.range n).map fun i => s.rd (mapNames rx).2.2 j i

/-- A mapping taken into use (R729). -/
def mapCountValue (s : State) (rx : Bool) (j n : Nat) : Status :=
  let l := s.mapWords rx j n
  firstBad
    [ need (decide (n ≤ 64)) .mapLength, need (l.all fun w => (mapTarget rx w).isSome) .mapObject,
      need (decide ((l.map fun w => bits w.toNat 0 8).sum ≤ (if j < 4 then 64 else 512))) .mapLength ]

def pdoInvalid (s : State) (rx : Bool) (j : Nat) : Bool := bitAt (s.rdN (mapNames rx).1 j) 31

/-- A mapping is changed with the PDO invalid and sub-index 00 at 0; the validity bit of a COB-ID may change alone (R729). -/
def mapState (s : State) (n : Name) (j : Nat) (w : U32) : Status :=
  let free (rx : Bool) : Bool := pdoInvalid s rx j && s.rdN (mapNames rx).2.1 j = 0
  let same (n : Name) : Bool := s.rdN n j % 2147483648 = w.toNat % 2147483648
  match n with
  | .rpdoCobId => need (same .rpdoCobId || free true) .mapInUse
  | .tpdoCobId => need (same .tpdoCobId || free false) .mapInUse
  | .rpdoMapCount => need (pdoInvalid s true j) .mapInUse
  | .tpdoMapCount => need (pdoInvalid s false j) .mapInUse
  | .rpdoMap => need (free true) .mapInUse
  | .tpdoMap => need (free false) .mapInUse
  | _ => .ok

/-! ### Values -/

/-- The fields of TIMING_NOM and TIMING_DATA (R709). -/
def timingValue (seg1 seg2 brp v : Nat) : Status :=
  let field (k : Nat) : Nat := bits v (8 * k) 8
  need (decide (1 ≤ field 3) && decide (field 3 ≤ seg2) && decide (1 ≤ field 2) && decide (field 2 ≤ seg2) && decide (1 ≤ field 1)
    && decide (field 1 ≤ seg1) && decide (field 0 < brp) && decide (field 3 ≤ field 2)) .range

def netValue (s : State) (n : Name) (j : Nat) (w : U32) : Status :=
  let v := w.toNat
  match n with
  | .errorCount => need (v = 0) .range
  | .rpdoType | .tpdoType => need (decide (v ≤ 240) || decide (254 ≤ v)) .range
  | .rpdoMapCount => mapCountValue s true j v
  | .tpdoMapCount => mapCountValue s false j v
  | .rpdoMap => need (v = 0 || (mapTarget true w).isSome) .mapObject
  | .tpdoMap => need (v = 0 || (mapTarget false w).isSome) .mapObject
  | .nodeId => need ((decide (1 ≤ v) && decide (v ≤ 127)) || v = 0xFF) .range
  | .bitrate => oneOf [0, 1, 2, 3, 4, 6, 7, 8] v
  | .dataRate => oneOf (if j = 0 then [0] else [0, 1, 2, 3, 4]) v
  | .emcyMin => oneOf [0, 1, 2, 3, 0xFF] v
  | .hbAction | .timingSrc => oneOf [0, 1] v
  | .timingNom => timingValue 255 128 256 v
  | .timingData => timingValue 32 16 32 v
  | _ => .ok

/-! ### Reset Communication -/

/-- The entries whose change waits for the next reset command (R710), as the controller takes them up. -/
def State.timingOf (s : State) (x : Nat) : List U32 :=
  [s.rd .bitrate x, s.rd .dataRate x, s.rd .timingNom x, s.rd .timingData x, s.rd .timingSrc x]

/-- The communication entries that a controller alone uses take their defaults; the default COB-IDs carry its node-ID. -/
def commDefaults (x : Nat) : Prog := each (pdosOf x) fun j => .ask fun s =>
  let id := if s.rdN .nodeIdNow x = 0xFF then 0 else s.rdN .nodeIdNow x
  let cob (n : Name) : Prog := let d := dfltOf n j 0; wr n j (if bitAt d.toNat 31 then d else d + u32 id)
  all
    [ cob .rpdoCobId, cob .tpdoCobId,
      each [Name.rpdoType, .rpdoMapCount, .tpdoType, .tpdoInhibit, .tpdoEventTimer, .tpdoMapCount] (fun n => wr n j (dfltOf n j 0)),
      each (List.range 64) (fun i => .seq (wri .rpdoMap j i (dfltOf .rpdoMap j i)) (wri .tpdoMap j i (dfltOf .tpdoMap j i))),
      modPdo j (fun _ => {}), modPdo (12 + j) (fun _ => {}) ]

/-- The boot-up message. -/
def bootMessage (x : Nat) : Prog := .ask fun s => when (s.canUp x) (output (.can x (0x700 + s.rdN .nodeIdNow x) [0]))

/-- Reset Communication of a controller, and Reset Node, which also restores the defaults of its settings (R710, R719, R747). -/
def resetComm (x : Nat) (node : Bool) : Prog := all
  [ wr .nmtState x 0,
    .ask (fun s => .seq (wr .nodeIdNow x (s.rd .nodeId x)) (modCtrl x fun c => { resume := c.resume, active := s.timingOf x })),
    commDefaults x,
    when node (each [Name.nodeId, .bitrate, .dataRate, .nmtAccept, .emcyMin, .hbAction, .sdoTimeout, .timingNom, .timingData, .timingSrc]
      fun n => wr n x (dfltOf n x 0)),
    pathReset (canPath x),
    bootMessage x,
    .ask fun s => when (s.rdN .nodeIdNow x ≠ 0xFF) (wrN .nmtState x (nmtOfMode s.modes.mode)) ]

/-- A NODE_ID write on a path (R741). -/
def nodeIdWritten (p : Path) (x : Nat) : Prog := .ask fun s =>
  when (s.rdN .nodeIdNow x = 0xFF && p ≠ canPath x) (resetComm x false)

/-- What an accepted write of a communication entry does beyond taking its value. -/
def netEffect (p : Path) (n : Name) (j : Nat) : Prog :=
  match n with
  | .errorCount => .op .clearErrors
  | .nodeId => nodeIdWritten p j
  | .rpdoMapCount | .rpdoMap => modPdo (12 + j) fun _ => {}
  | .rpdoCobId => modPdo (12 + j) fun r => { r with held := none }
  | .tpdoMapCount | .tpdoMap | .tpdoCobId => modPdo j fun _ => {}
  | _ => .nop

end Sys2Proof.Machine
end

