-- ==== Sys2Proof/Machine/HostCtl.lean ====
section
/-! DEFINITION. The command ring's entries (*The command ring*), the entries of the register ports (*Legacy parallel and QSPI
ports*), and forwarded requests as their sender makes them (*Forwarded dictionary access*). -/
namespace Sys2Proof.Machine

open Prog

/-! ### The command ring -/

def hostValue (s : State) (n : Name) (i : Nat) (w : U32) : Status :=
  let v := w.toNat
  let size := 2 ^ s.rdN .cmdLog2
  match n with
  | .cmdBase | .cplBase => need (i = 1 || v % 4096 = 0) .range
  | .cplShadow => need (i = 1 || v % 4 = 0) .range
  | .cmdLog2 => within 1 8 v
  | .cmdTail => need (decide ((v + 65536 - s.rdN .cmdHead) % 65536 ≤ size)) .range
  | .cplTail => need (decide ((s.rdN .cplHead + 65536 - v) % 65536 ≤ size)) .range
  | .irqEventMin => oneOf [0, 1, 2, 3, 0xFF] v
  | .parFifoReset | .qspiFifoReset => oneOf [1] v
  | _ => .ok

/-- The path that entries of 2C00, 2C20 and 2C21 belong to (R629, R697). -/
def ownPath (e : Ent) : Option Path :=
  match e.index with
  | 0x2C00 => some .p0
  | 0x2C20 => some .p1
  | 0x2C21 => some .p2
  | _ => none

def hostState (s : State) (n : Name) : Status :=
  match n with
  | .cmdBase | .cmdLog2 | .cplBase | .cplShadow => need (s.rdN .ringState = rgOff) .ringActive
  | _ => .ok

/-- CMD_EN (R632, R636, R637, R663). -/
def cmdEnable (w : U32) : Prog := .ask fun s =>
  if w = 0 then
    if s.rdN .ringState = rgHalted then .seq (wrN .ringState 0 rgOff) ringIdle
    else when (s.rdN .ringState = rgRunning) (.seq (modRing fun r => { r with stopping := true }) ringSettle)
  else
    if s.rdN .ringState = rgOff then all
      [ wr .cmdHead 0 0, wr .cmdTail 0 0, wr .cplHead 0 0, wr .cplTail 0 0, wrN .ringState 0 rgRunning, ringIdle ]
    else .seq (wrN .ringState 0 rgRunning) (modRing fun r => { r with stopping := false })

/-! ### FIFO positions -/

/-- A FIFO reset of a port (R696). -/
def fifoReset (p : Path) : Prog := modPort p.num fun x =>
  { x with asm := [], pos := 0, stage := if p = .p1 then none else x.stage }

def hostEffect (n : Name) (w : U32) : Prog :=
  match n with
  | .cmdEn => cmdEnable w
  | .parFifoReset => fifoReset .p1
  | .qspiFifoReset => fifoReset .p2
  | _ => .nop

/-! ### FWD_OUT -/

/-- Whether a member is numbered and its LINK in service, as this member knows it (R781, R788). -/
def State.fwdReach (s : State) (m : Nat) : Bool :=
  s.memberState ≠ msUnenumerated && decide (m < s.rdN .ringSize) && decide (m ∉ s.link.fenced)

/-- The value and state checks of FWD_OUT (R781, R785). -/
def fwdCheck (s : State) (p : Path) (bytes : List Byte) : Status :=
  firstBad
    [ oneOf [0, 1] (bytes.getD 1 0).toNat, need (s.fwdReach (bytes.getD 0 0).toNat) .memberAbsent,
      need (decide ((s.fwdIn p.num).length < 16)) .busy ]

/-- A forwarded request leaves (R782). -/
def fwdSend (p : Path) (bytes : List Byte) : Prog := .ask fun s =>
  let m := (bytes.getD 0 0).toNat
  let kind := (bytes.getD 1 0).toNat
  let q := Store.get 0 s.link.fwdSeq m
  let payload := if kind = 0 then bytes.take 4 ++ leBytes 2 q ++ bytes.drop 6 else bytes
  .seq (modLink fun l => { l with fwdSeq := if kind = 0 then Store.put 0 l.fwdSeq m ((q + 1) % 65536) else l.fwdSeq,
                                  fwdPend := l.fwdPend ++ [(m, kind, p, q)] })
    (sendBurst kFwd m 0 0 payload)

end Sys2Proof.Machine
end

