-- ==== Sys2Proof/Machine/Write.lean ====
section
/-! DEFINITION. The writes: the checks of R115 in their order, and what an accepted write does (*Refusals*, *Claims*, *Levels and
the level key*). Every path and form comes here. -/
namespace Sys2Proof.Machine

open Prog

/-- A write of one or several windowed entries: its path, the host sequence of the record that carries it, the expected epoch, the
status of its length, and who awaits a mode request. -/
structure WriteReq where
  path : Path
  hostSeq : Option Nat := none
  exp : Option Nat := none
  lenSt : Status := .ok
  origin : Origin := .plain
  ents : List (Ent × U32)
deriving DecidableEq, Repr

/-- The steps at which a refusal is made: in HOST, or in the owning island (R911). -/
structure Verdict where
  st : Status := .ok
  ent : Ent
  inHost : Bool := true
deriving DecidableEq, Repr

/-! ### Steps 1 to 8 -/

def isCommand (e : Ent) : Bool := e.name = .command
def isDomain (e : Ent) : Bool := e.row.ty = .dom || e.row.ty = .str
def accessOf (e : Ent) : Access := if e.name = .highestSub then .const_ else e.row.access
def typeOf (e : Ent) : Ty := if e.name = .highestSub then .u8 else e.row.ty

/-- The expert level (R67): 3000 to 3FFF, and KEY_LOAD. -/
def isExpert (e : Ent) : Bool := e.index / 0x1000 = 3 || e.name = .keyLoad

/-- The unit that a write is reported against (R905). -/
def Ent.reportUnit (e : Ent) : Nat := if e.name = .claim then e.item + 1 else e.unit.getD 0

/-- Step 2 (R80, R904, R908). -/
def stepWindow (p : Path) (e : Ent) : Status :=
  if isCommand e && decide (p ∈ [.p0, .p5, .p6]) then .wrongPath else if isDomain e then .notWindowed else .ok

/-- Step 4. -/
def stepAccess (e : Ent) : Status := need (decide (accessOf e ∈ [.rw, .rwp, .wo])) .readOnly

/-- Step 5 (R74, R92). -/
def stepLevel (s : State) (p : Path) (e : Ent) : Status := need (p = .p6 || !isExpert e || s.granted p) .levelDenied

/-- Whether a unit is held by another path. -/
def State.heldByOther (s : State) (p : Path) (u : Nat) : Bool := decide (s.holderOf u ∉ [0xFF, p.num])

/-- Step 6 (R89 to R92, R114, R286). -/
def stepClaim (s : State) (p : Path) (e : Ent) (w : U32) : Status :=
  if p = .p6 then .ok
  else match e.name with
  | .claim => need (!s.heldByOther p (e.item + 1) || (w = 0xFF && s.granted p)) .claimed
  | .restoreDefaults => need ((List.range 0x38).all fun k => !s.heldByOther p (k + 1)) .claimed
  | .pairEn | .pairSkew => need (!(match e.unit with | some u => s.heldByOther p u | none => false)
      && (e.name ≠ .pairEn || !s.heldByOther p (pairSecondUnit e.item))) .claimed
  | _ => need (!(match e.unit with | some u => s.heldByOther p u | none => false)) .claimed

/-- The entries that a restore leaves unchanged (R109). -/
def keptByRestore (n : Name) : Bool :=
  let b := (rowOf n).base
  n ∈ [.fenceReq, .owner, .bankPowerReq, .tamperEn, .command, .memberOut, .claim, .darkTable, .gainTable, .tempCoef, .defectMap]
    || (0x2200 ≤ b && b < 0x2230) || (0x2C00 ≤ b && b < 0x2C20) || b < 0x2000 || (0x2D00 ≤ b && b < 0x2E00)
    || (0x3D00 ≤ b && b < 0x3E00)

/-- The names whose entries a restore sets (R108, R109). -/
def restoredNames : List Name := allNames.filter fun n =>
  ((rowOf n).access = .rw || (rowOf n).access = .rwp) && !keptByRestore n

/-- The islands that hold an entry that a restore would set (R906). -/
def restoreIslands : List Nat :=
  (restoredNames.flatMap fun n => (List.range (rowOf n).count).filterMap fun j => ({ name := n, inst := j } : Ent).holder).eraseDups

/-- Step 7 (R118, R901, R906). -/
def stepFence (s : State) (e : Ent) : Status :=
  need (match e.holder with | some i => !s.fenced i | none => true) .unitAbsent
def stepFenceOf (s : State) (e : Ent) : Status :=
  if e.name = .restoreDefaults then firstBad [stepFence s e, need (restoreIslands.all fun i => !s.fenced i) .unitAbsent]
  else stepFence s e

/-- The condition of R37. -/
def State.preparing (s : State) : Bool := s.modes.mode = .prepare && s.modes.target.isNone

/-- Step 8 (R37, R113, R122, R605). -/
def stepMode (s : State) (e : Ent) : Status :=
  need (s.preparing || !(accessOf e = .rwp || e.name = .restoreDefaults || e.name = .lcAdvance)) .notPrepare

/-- The first entry that fails a step. -/
def firstFail (l : List (Ent × U32)) (f : Ent → U32 → Status) : Option (Status × Ent) :=
  l.findSome? fun x => match f x.1 x.2 with | .ok => none | st => some (st, x.1)

/-- Entries of more than one unit, or of a unit and of none (R132). -/
def mixedUnits (l : List (Ent × U32)) : Bool :=
  match l with | [] => false | x :: _ => l.any fun y => y.1.unit ≠ x.1.unit

def hostSteps (s : State) (q : WriteReq) : Option (Status × Ent) :=
  let steps : List (Ent → U32 → Status) :=
    [ fun e _ => stepWindow q.path e, fun _ _ => q.lenSt, fun e _ => stepAccess e, fun e _ => stepLevel s q.path e,
      stepClaim s q.path, fun e _ => stepFenceOf s e, fun e _ => stepMode s e ]
  steps.findSome? (firstFail q.ents)

/-! ### Steps 9 to 11 -/

/-- Step 9 (R98, R99, R133). -/
def stepEpoch (s : State) (exp : Option Nat) (e : Ent) : Status :=
  match exp, e.unit with
  | none, _ => .ok
  | some _, none => .notAUnit
  | some x, some u => need (s.epochOf u = x) .epochStale

/-- A window value fits the width of its entry (R65, R79). -/
def stepWidth (e : Ent) (w : U32) : Status :=
  match typeOf e with
  | .bool => need (decide (w.toNat ≤ 1)) .range
  | .u8 => need (decide (w.toNat ≤ 0xFF)) .range
  | .u16 => need (decide (w.toNat ≤ 0xFFFF)) .range
  | .i8 => need (decide (-128 ≤ w.toInt) && decide (w.toInt ≤ 127)) .range
  | .i16 => need (decide (-32768 ≤ w.toInt) && decide (w.toInt ≤ 32767)) .range
  | _ => .ok

/-- The values of the core entries (R41, R71, R88, R113, R176, R178). -/
def coreValue (p : Path) (n : Name) (i : Nat) (w : U32) : Status :=
  match n with
  | .modeReq => within 0 3 w.toNat
  | .claim => need (w = 0xFF || (w.toNat = p.num && p ≠ .p6)) .range
  | .levelKey => need (w = 0 || w = Config.levelKey) .keyWrong
  | .restoreDefaults => need (w = 0x64616F6C) .range
  | .fenceReq => firstBad [oneOf [0, 1] w.toNat, need (!(w = 1 && i = islHost && decide (p ∈ [.p0, .p1, .p2]))) .range]
  | _ => .ok

/-- Step 10. `s` is the state in which the other entries of the write have their new values. -/
def stepValue (s : State) (p : Path) (e : Ent) (w : U32) : Status :=
  let n := e.name
  let j := e.inst
  let i := e.item
  firstBad
    [ stepWidth e w, coreValue p n i w, headValue s n j i w, feValue s n j i w, lineValue s n j w, motionValue s n j w,
      lightValue s n j w, heathEntValue s n w, timerValue s n j w, bankValue n w, safeValue s n w, streamValue n i w,
      hostValue s n i w, netValue s n j w, linkValue s n w, powerValue s n j w ]

/-- Step 11 of the core entries (R110, R178). -/
def coreState (s : State) (n : Name) (i : Nat) (w : U32) : Status :=
  match n with
  | .restoreDefaults => need (s.heathSt = 0) .busy
  | .fenceReq => need (!(w = 1 && i = islHost && decide (s.modes.mode ∉ [.prepare, .park]))) .notInMode
  | _ => .ok

/-- Both OWNER and POWER_REQ of a bank would change (R925). -/
def bothChange (s : State) (l : List (Ent × U32)) (e : Ent) (w : U32) : Bool :=
  e.name = .bankPowerReq && w ≠ s.rd .bankPowerReq e.inst
    && l.any fun x => x.1.name = .owner && x.1.inst = e.inst && x.2 ≠ s.rd .owner e.inst

/-- Step 11. `s'` is the state in which the entries of the write have their new values. -/
def stepState (s s' : State) (q : WriteReq) (e : Ent) (w : U32) : Status :=
  let n := e.name
  let j := e.inst
  let bank : Status := if n = .owner || n = .bankPowerReq then
      firstBad [bankWriteStatus s n j w.toNat, need (!bothChange s q.ents e w) .busy] else .ok
  firstBad
    [ match ownPath e with | some p => need (p = q.path) .wrongPath | none => .ok,
      coreState s n e.item w, headStateCheck s' n j, if n = .calCmd then calCheck s j w.toNat else .ok,
      motionState s' q.path n j w, lightState s' n j w, heathEntState s n w, timerState s n j, bank, safeState s n w,
      streamState (if n = .rdPtr then s else s') n j w, hostState s n, mapState s n j w, linkState s n, powerState s n w ]

/-- The entries of a write as they are about to be. -/
def State.withValues (s : State) (l : List (Ent × U32)) : State :=
  l.foldl (fun s x => if accessOf x.1 = .wo then s
    else (Op.put x.1.name x.1.inst x.1.item (masked x.1.name x.2)).apply s) s

/-- The verdict on a write (R115, R912). -/
def verdict (s : State) (q : WriteReq) : Verdict :=
  let first : Ent := (q.ents.head?.map (·.1)).getD { name := .modeReq }
  if mixedUnits q.ents then { st := .range, ent := first }
  else match hostSteps s q with
  | some (st, e) => { st := st, ent := e }
  | none =>
    let s' := s.withValues q.ents
    match stepEpoch s q.exp first with
    | .ok => match ([stepValue s' q.path, stepState s s' q] : List (Ent → U32 → Status)).findSome? (firstFail q.ents) with
      | some (st, e) => { st := st, ent := e, inHost := false }
      | none => { ent := first, inHost := false }
    | st => { st := st, ent := first, inHost := false }

/-! ### What an accepted write does -/

/-- A LEVEL_KEY write (R69, R70, R123). -/
def levelKeyAct (p : Path) (w : U32) : Prog := setGrant p (decide (w ≠ 0))

/-- A CLAIM write (R87, R90, R124, R905). -/
def claimAct (c : Ctx) (u : Nat) (w : U32) : Prog := .ask fun s =>
  let old := s.holderOf u
  if w.toNat = old then journalWrite c { name := .claim, item := u - 1 } u 2 w
  else .seq (setClaim (some c) u w.toNat c.path.num)
    (when (old ≠ 0xFF && old ≠ c.path.num)
      (emitBy c.path .claimBroken u islHost (pack [(8, u), (8, old), (8, c.path.num)])))

/-- What a write does besides its value, by the chapter of its entry. -/
def writeEffect (p : Path) (e : Ent) (w old : U32) : Prog :=
  let n := e.name
  let j := e.inst
  all
    [ headEffect n j e.item w old, feEffect n j w, if n = .calCmd then calAct j w.toNat else .nop, if n = .coverEn then coverEnWrite j w else .nop,
      motionEffect p n j w old, lightEffect n j e.item w old, heathEntEffect n w, timerEffect n j w,
      if n = .owner || n = .bankPowerReq then bankEffect n j w.toNat else .nop, safeEffect n w, streamEffect n j w,
      hostEffect n w, netEffect p n j, linkEffect n w, powerEffect n,
      if n = .fenceReq && w ≠ old then fenceRequest e.item w.toNat else .nop ]

/-! ### Restoring defaults -/

/-- A restored entry takes its default, with the action of a write by the X9 (R111). -/
def restoreEnt (e : Ent) : Prog := .ask fun s =>
  let d := dfltOf e.name e.inst e.item
  if isDomain e then match s.table e.name e.inst with
    | some (a, n) => .seq (.op (.zero a n)) (wri e.name e.inst e.item d)
    | none => .nop
  else when (s.rd e.name e.inst e.item ≠ d) (all
    [ wri e.name e.inst e.item d, invalidateIf e.index,
      when (e.name ≠ .retarget && e.name ≠ .modeReq) (writeEffect .p6 e d (s.rd e.name e.inst e.item)) ])

/-- The enables of an island, which take their defaults first (R111). -/
def restoreFirst : Prog := all
  [ each (List.range 4) (fun h => .seq (headDisable h) (restoreEnt { name := .headEn, inst := h })),
    each (List.range 6) (fun a => .seq (axisDisable a) (restoreEnt { name := .axisEn, inst := a })),
    each (List.range 8) (fun k => .seq (stringOffNow k) (restoreEnt { name := .stringEn, inst := k })),
    each (List.range 32) (fun c => restoreEnt { name := .tmrRun, inst := c }),
    restoreEnt { name := .heathEn } ]

/-- A restore of defaults (R108, R111, R112). -/
def restoreAll (p : Path) : Prog := all
  [ restoreFirst,
    each restoredNames (fun n => each (List.range (rowOf n).count) fun j => each (List.range (rowOf n).subCount) fun i =>
      restoreEnt { name := n, inst := j, item := i }),
    each (List.range 0x38) (fun k => bump (k + 1)),
    emitBy p .defaultsRestored 0 islHost (pack [(8, p.num)]) ]

/-! ### Applying -/

/-- Whether a write has no effect at all, not even a journal entry (R577). -/
def idleWrite (s : State) (e : Ent) (w : U32) : Bool :=
  match e.name with
  | .owner | .bankPowerReq => bankNoEffect s e.name e.inst w.toNat
  | _ => false

/-- The value of an accepted write (R95, R151, R286); WO entries hold none, and their writes count for R48 like any other. -/
def takeValue (c : Ctx) (e : Ent) (w : U32) : Prog :=
  if e.name = .claim then .nop
  else if accessOf e = .wo then invalidateIf e.index
  else .seq (commit c e.name e.inst e.item w) (when (e.name = .pairEn && e.unit ≠ some (pairSecondUnit e.item)) (bump (pairSecondUnit e.item)))

/-- All entries of a write in one step (R131): the values, then what they do. -/
def applyWrite (q : WriteReq) : Prog := .ask fun s =>
  let c : Ctx := { path := q.path, hostSeq := q.hostSeq }
  let l := q.ents.filter fun x => !idleWrite s x.1 x.2
  all
    [ each l (fun x => .seq (timerBefore x.1.name x.1.inst) (streamBefore x.1.name x.1.inst)),
      each l (fun x => takeValue c x.1 x.2),
      each l fun x => match x.1.name with
        | .claim => claimAct c (x.1.item + 1) x.2
        | .levelKey => levelKeyAct q.path x.2
        | .restoreDefaults => restoreAll q.path
        | _ => writeEffect q.path x.1 (masked x.1.name x.2) (s.rd x.1.name x.1.inst x.1.item) ]

/-- What a refusal does even so: a wrong key clears the grant (R71); a scan list found invalid leaves its entry (R509). -/
def refusedEffect (p : Path) (v : Verdict) : Prog :=
  match v.st with
  | .keyWrong => setGrant p false
  | .scanInvalid => heathInvalid
  | _ => .nop

/-- A write is checked and applied or refused; `k` answers it. An accepted MODE_REQ becomes a mode request, which answers for itself
(R923). A write of DEVICE_RESET is answered first, since the reset leaves nothing to answer it (R135). -/
def submit (q : WriteReq) (k : Verdict → Prog) : Prog := .ask fun s =>
  let v := verdict s q
  match v.st with
  | .ok => match q.ents with
    | [({ name := .modeReq, .. }, w)] => modeRequest { path := q.path, mode := Mode.ofCode w.toNat, origin := q.origin }
    | l => if l.any fun x => x.1.name = .deviceReset then .seq (k v) (applyWrite q) else .seq (applyWrite q) (k v)
  | _ => .seq (refusedEffect q.path v) (k v)

/-- A refusal is recorded (R117). -/
def noteRefusal (p : Path) (v : Verdict) : Prog := when (v.st ≠ .ok) (refuse p v.st v.ent.index v.ent.sub)

/-- Whether a path reaches the dictionary (R182, R624, R699). -/
def pathUp (s : State) (p : Path) : Bool := !(s.fenced islHost && decide (p ∈ [.p0, .p1, .p2]))

/-- A single unconditional write (R100), from wherever it comes. -/
def writeEnt (p : Path) (origin : Origin) (e : Ent) (w : U32) : Prog :=
  submit { path := p, origin := origin, ents := [(e, w)] } (noteRefusal p)

/-- A write by index and sub-index, with the status of its width (R68, R77, R713). -/
def writeAt (p : Path) (origin : Origin) (idx sub : Nat) (w : U32) (k : Verdict → Prog) (lenSt : Status := .ok) : Prog :=
  match lookup idx sub with
  | .error st => .seq (refuse p st idx sub) (k { st := st, ent := { name := .modeReq } })
  | .ok e => if notForPath p e then .seq (refuse p .noObject idx sub) (k { st := .noObject, ent := e })
    else submit { path := p, origin := origin, lenSt := lenSt, ents := [(e, w)] } (fun v => .seq (noteRefusal p v) (k v))

/-! ### DOMAIN writes -/

/-- A DOMAIN write, with its data and length; `refFence` when its data lies in a bank and STORE is fenced. -/
structure DomReq where
  path : Path
  hostSeq : Option Nat := none
  exp : Option Nat := none
  lenSt : Status := .ok
  /-- The status of a bank reference (R126). -/
  refSt : Status := .ok
  refFence : Bool := false
  ent : Ent
  size : Nat
  data : List Byte
deriving DecidableEq, Repr

/-- The data has the length that its object alone takes (R598, R727, R781). -/
def exactLength (e : Ent) (n : Nat) : Bool :=
  match e.name with
  | .keyLoad => n = 32 | .fwdOut => n = 68 | .command => n = 64 | _ => true

/-- The verdict on a DOMAIN write (R82, R115, R300, R510, R598, R599, R781, R904, R908). Where it names a windowed entry and its LENGTH is
above 48, R904 and R164 both fail at step 3: LENGTH is answered (DESIGN CHOICE, log 27). -/
def domVerdict (s : State) (q : DomReq) : Verdict :=
  let e := q.ent
  let host := firstBad
    [ need (!(isCommand e && (decide (q.path ∈ [.p0, .p5, .p6]) || q.hostSeq.isSome))) .wrongPath,
      need (isDomain e) .length, q.lenSt, need (exactLength e q.size) .length, stepAccess e, stepLevel s q.path e,
      stepClaim s q.path e 0, stepFence s e, need (!q.refFence) .unitAbsent, stepMode s e ]
  match host with
  | .ok =>
    let st := firstBad
      [ stepEpoch s q.exp e,
        q.refSt, need (decide (q.size ≤ domMax e.name)) .tooLong,
        if e.name = .fwdOut then fwdCheck s q.path q.data else .ok,
        need (!isCalTable e.name || s.calOwned e.inst) .calNoBank,
        need (e.name ≠ .scanList || s.heathSt = 0) .heathRunning,
        if e.name = .keyLoad then keyLoadStatus s q.size else .ok ]
    { st := st, ent := e, inHost := false }
  | st => { st := st, ent := e }

/-- The bytes of a DOMAIN write as its table takes them: the reserved bits and bytes of SCAN_LIST take nothing and read 0 (R3, R5). -/
def storedAs (n : Name) (data : List Byte) : List Byte :=
  if n = .scanList then data.mapIdx fun i b => scanListByte (i % 32) b else data

/-- An accepted DOMAIN write (R83, R84, R95, R151). -/
def applyDomain (q : DomReq) : Prog := .ask fun s =>
  let e := q.ent
  let c : Ctx := { path := q.path, hostSeq := q.hostSeq }
  let len := u32 q.size
  if e.name = .fwdOut then fwdSend q.path q.data
  else all
    [ match s.table e.name e.inst with | some (a, _) => .op (.bytes a (storedAs e.name q.data)) | none => .nop,
      when (e.name = .pattern) (drivePhases e.inst),
      wri e.name e.inst e.item len,
      match e.unit with | some u => bump u | none => .nop,
      journalWrite c e (e.unit.getD 0) 3 len, invalidateIf e.index,
      when (e.name = .keyLoad) (keyLoaded q.data) ]

def submitDomain (q : DomReq) (k : Verdict → Prog) : Prog := .ask fun s =>
  let v := domVerdict s q
  .seq (when (v.st = .ok) (applyDomain q)) (k v)

end Sys2Proof.Machine
end

