-- ==== Sys2Proof/Machine/Command.lean ====
section
/-! DEFINITION. Command records: the checks before R115, the opcodes, their completions, and the records that wait behind a mode
request (*Sequence numbers and finding your way back*); the command ring (*The command ring*). -/
namespace Sys2Proof.Machine

open Prog

/-! ### The record -/

/-- A record of 64 bytes (command record table). -/
def parseRecord (b : List Byte) : CmdRecord :=
  let byte (i : Nat) : Byte := b.getD i 0
  { hostSeq := (byte 1) ++ (byte 0), opcode := byte 2, flags := byte 3, index := (byte 5) ++ (byte 4), sub := byte 6, length := byte 7,
    expEpoch := (byte 9) ++ (byte 8), data := (b.drop 16).take 48 }

end Sys2Proof.Machine

namespace Sys2Proof

open Machine

def CmdRecord.dataAt (r : CmdRecord) (off n : Nat) : Nat := leNat ((r.data.drop off).take n)
def CmdRecord.conditional (r : CmdRecord) : Bool := r.flags.getLsbD 0
def CmdRecord.bankRef (r : CmdRecord) : Bool := r.flags.getLsbD 1
def CmdRecord.exp (r : CmdRecord) : Option Nat := if r.conditional then some r.expEpoch.toNat else none

/-- The status of LENGTH (R125, R128, R164). -/
def CmdRecord.lengthStatus (r : CmdRecord) : Status :=
  let n := r.length.toNat
  if 48 < n then .lenTooLong
  else need (match r.opcode.toNat with
    | 0 => n = 0
    | 1 => decide (4 ≤ n) && decide (n ≤ 40) && n % 4 = 0
    | 2 => decide (4 ≤ n) && n % 4 = 0
    | 3 => if r.bankRef then n = 12 else decide (1 ≤ n)
    | 4 => n = 12
    | _ => n = 4) .length

/-- The status of OPCODE and FLAGS (R127, R909). -/
def CmdRecord.opcodeStatus (r : CmdRecord) : Status :=
  match r.opcode.toNat with
  | 0 | 5 => need (!r.conditional && !r.bankRef) .range
  | 1 | 2 => need (!r.bankRef) .range
  | 3 => .ok
  | 4 => need r.bankRef .length
  | _ => .badOpcode

/-- How many sub-indexes a READ or WRITE names: one, where its LENGTH is not permitted. -/
def CmdRecord.count (r : CmdRecord) : Nat := if r.lengthStatus = .ok then r.length.toNat / 4 else 1

/-- The bank, offset and byte count of a bank reference. -/
def CmdRecord.bank (r : CmdRecord) : Nat := r.dataAt 0 1
def CmdRecord.bankOffset (r : CmdRecord) : Nat := r.dataAt 4 4
def CmdRecord.bankCount (r : CmdRecord) : Nat := r.dataAt 8 4

end Sys2Proof

namespace Sys2Proof.Machine

open Prog

/-- Step 1 on each sub-index: the entries, or the first failure (R68, R713, R912). -/
def lookupRun (p : Path) (idx sub : Nat) : Nat → Except (Status × Nat) (List Ent)
  | 0 => .ok []
  | n + 1 =>
    match if 255 < sub then .error .noSubindex else lookup idx sub with
    | .error st => .error (st, sub)
    | .ok e => if notForPath p e then .error (.noObject, sub)
      else match lookupRun p idx (sub + 1) n with
        | .ok l => .ok (e :: l)
        | .error x => .error x

/-! ### Bank references -/

/-- The status of a bank reference (R126). -/
def refStatus (s : State) (p : Path) (r : CmdRecord) : Status :=
  need (decide (r.bank < 24) && s.rdN .owner r.bank = p.num && decide (r.bankOffset + r.bankCount ≤ 0x200000)) .range

/-- What a bank reference reads: a bank that is not ON answers a foreign read with zeros (R573). -/
def refBytes (s : State) (p : Path) (r : CmdRecord) : List Byte :=
  if s.owns r.bank p.num then s.bytesAt (bankBase r.bank + r.bankOffset) r.bankCount else List.replicate r.bankCount 0

/-- The access of a bank reference: a foreign one where the bank is not ON (R573, R574). -/
def refAccess (s : State) (p : Path) (r : CmdRecord) (write : Bool) (own : Prog) : Prog :=
  if s.owns r.bank p.num then own else foreign r.bank p.num write

/-! ### DOMAIN objects as a path reads them -/

/-- The bytes that a path reads from a DOMAIN object or string; the channels give the oldest completion (R727, R785). -/
def State.domContent (s : State) (p : Path) (e : Ent) : List Byte :=
  match e.name with
  | .fwdIn => (s.fwdIn p.num).headD []
  | .command => if p = .p3 ∨ p = .p4 then (s.unread p.num).headD [] else []
  | n => s.domBytes n e.inst

/-- A completion read to its end counts as read (R694, R727, R785). -/
def popRead (p : Path) (e : Ent) (n : Nat) : Prog :=
  when (decide (64 ≤ n)) (match e.name with
    | .fwdIn => modFwdIn p.num fun l => l.drop 1
    | .command => when (p = .p3 || p = .p4) (modUnread p.num fun l => l.drop 1)
    | _ => .nop)

/-! ### Completion of a record on an entry -/

/-- The island that a holder's time comes from. -/
def Ent.stampIsland (e : Ent) : Nat := e.holder.getD islSeq

/-- The epoch of a unit that a completion carries: that last pushed where the unit's island is absent (R911). -/
def State.shownEpoch (s : State) (u : Nat) (absent : Bool) : Nat :=
  if u = 0 then 0 else if absent then s.pushedEpoch u else s.epochOf u

/-- A record that names entries completes, against a unit (R905, R911); `first` is the target, `at'` the entry that LAST_STATUS names. -/
def completeAt (p : Path) (src : Nat) (r : CmdRecord) (st : Status) (unit : Nat) (first at' : Ent) (inHost : Bool) (data : List Byte) : Prog :=
  .ask fun s =>
    let u := if st = .lenTooLong then 0 else unit
    complete p src r st u (s.shownEpoch u (st = .unitAbsent)) (if inHost then islHost else first.stampIsland) data (at'.index, at'.sub)

/-- A record that names no entry, or none that exists, completes. -/
def completeBare (p : Path) (src : Nat) (r : CmdRecord) (st : Status) (data : List Byte) (sub : Nat) : Prog :=
  complete p src r st 0 0 islHost data (r.index.toNat, sub)

/-! ### The opcodes -/

/-- Whether the holding island of an entry is fenced. -/
def State.absent (s : State) (e : Ent) : Bool := match e.holder with | some i => s.fenced i | none => false

/-- Step 9 of a READ, over all its entries: the first that fails, with its status (R99, R910, R912). -/
def readStale (s : State) (exp : Option Nat) (l : List Ent) : Option (Status × Ent) :=
  l.findSome? fun e => match exp, e.unit with
    | none, _ => none
    | some _, none => some (.notAUnit, e)
    | some x, some u => if s.shownEpoch u (s.absent e) = x then none else some (.epochStale, e)

/-- READ (R129, R130, R904, R910, R912): the first entry is the target, whose unit's epoch the completion carries; entries of a fenced
island are answered from the mirror (R118, R181). -/
def runRead (p : Path) (src : Nat) (r : CmdRecord) : Prog := .ask fun s =>
  match lookupRun p r.index.toNat r.sub.toNat r.count with
  | .error (st, sub) => completeBare p src r st [] sub
  | .ok [] => completeBare p src r .length [] r.sub.toNat
  | .ok (e :: es) =>
    let u := e.unit.getD 0
    let isl := if s.absent e then islHost else e.stampIsland
    let answer (st : Status) (unit isl : Nat) (data : List Byte) (at' : Ent) : Prog :=
      complete p src r st unit (s.shownEpoch unit (s.absent e)) isl data (at'.index, at'.sub)
    let value (e : Ent) : U32 := if s.absent e && !isDomain e then s.mirrored e else s.readEnt p e
    if r.lengthStatus ≠ .ok then answer r.lengthStatus (if r.lengthStatus = .lenTooLong then 0 else u) islHost [] e
    else match readStale s r.exp (e :: es) with
      | some (st, at') => answer st u isl [] at'
      | none => .seq (each (e :: es) readEffect) (answer .ok u isl ((e :: es).flatMap fun e => leBytes 4 (value e).toNat) e)

/-- WRITE (R129, R131 to R133, R912). -/
def runWrite (p : Path) (src : Nat) (r : CmdRecord) : Prog :=
  match lookupRun p r.index.toNat r.sub.toNat r.count with
  | .error (st, sub) => completeBare p src r st [] sub
  | .ok [] => completeBare p src r .length [] r.sub.toNat
  | .ok (e :: es) =>
    let l := (e :: es).zipIdx.map fun x => (x.1, u32 (r.dataAt (4 * x.2) 4))
    submit { path := p, hostSeq := some r.hostSeq.toNat, exp := r.exp, lenSt := r.lengthStatus, origin := .record r src, ents := l }
      fun v => completeAt p src r v.st e.reportUnit e v.ent v.inHost []

/-- DOMAIN_WRITE (R82 to R84, R125, R126). -/
def runDomainWrite (p : Path) (src : Nat) (r : CmdRecord) : Prog := .ask fun s =>
  match lookupRun p r.index.toNat r.sub.toNat 1 with
  | .ok (e :: _) =>
    let st := if r.bankRef then refStatus s p r else .ok
    let size := if r.bankRef then r.bankCount else r.length.toNat
    let data := if r.bankRef then (if st = .ok then refBytes s p r else [])
      else (r.data ++ List.replicate 48 0).take size
    submitDomain { path := p, hostSeq := some r.hostSeq.toNat, exp := r.exp, lenSt := r.lengthStatus, refSt := st,
                   refFence := r.bankRef && s.fenced islStore, ent := e, size := size, data := data }
      fun v => .seq (when (r.bankRef && v.st = .ok) (refAccess s p r false .nop))
        (completeAt p src r v.st e.reportUnit e e v.inHost (if v.st = .ok then leBytes 4 size else []))
  | .ok [] => completeBare p src r .noObject [] r.sub.toNat
  | .error (st, sub) => completeBare p src r st [] sub

/-- DOMAIN_READ (R125, R126, R134, R300, R904, R910). -/
def runDomainRead (p : Path) (src : Nat) (r : CmdRecord) : Prog := .ask fun s =>
  match lookupRun p r.index.toNat r.sub.toNat 1 with
  | .ok (e :: _) =>
    let host := firstBad [need (isDomain e) .length, r.lengthStatus, need (!s.fenced islStore) .unitAbsent]
    let st := firstBad
      [ host, stepEpoch s r.exp e, refStatus s p r, need (!isCalTable e.name || s.calOwned e.inst) .calNoBank ]
    let data := (s.domContent p e).take r.bankCount
    if st = .ok then all
      [ refAccess s p r true (.op (.bytes (bankBase r.bank + r.bankOffset) data)), popRead p e data.length,
        completeAt p src r .ok (e.unit.getD 0) e e false (leBytes 4 data.length) ]
    else completeAt p src r st (e.unit.getD 0) e e (host ≠ .ok) []
  | .ok [] => completeBare p src r .noObject [] r.sub.toNat
  | .error (st, sub) => completeBare p src r st [] sub

/-- `a` is newer than `b` (R148). -/
def newerSeq (a b : U32) : Bool := let d := (a - b).toNat; decide (1 ≤ d) && decide (d ≤ 0x7FFFFFFF)

/-- The entry that JOURNAL_READ returns, and its status (R155, R156, R907). -/
def journalFind (s : State) (seq : U32) : Status × Option JEntry :=
  let j := s.rep.journal.reverse
  match s.rep.floor with
  | some f => if newerSeq f seq then (.journalLost, j.head?) else (.ok, j.find? fun e => newerSeq e.seq seq)
  | none => (.ok, j.find? fun e => newerSeq e.seq seq)

/-- JOURNAL_READ. -/
def runJournalRead (p : Path) (src : Nat) (r : CmdRecord) : Prog := .ask fun s =>
  if r.lengthStatus ≠ .ok then completeBare p src r r.lengthStatus [] r.sub.toNat
  else
    let x := journalFind s (u32 (r.dataAt 0 4))
    completeBare p src r x.1 (match x.2 with | some e => e.bytes | none => []) r.sub.toNat

/-- NOP. -/
def runNop (p : Path) (src : Nat) (r : CmdRecord) : Prog := completeBare p src r r.lengthStatus [] r.sub.toNat

/-! ### Taking a record -/

/-- A record executes: its host sequence, its opcode and flags, then the checks of R115 (R136 to R141, R909). The events that it causes are
tracked (R151). -/
def execRecord (p : Path) (src : Nat) (r : CmdRecord) : Prog := all
  [ modCmd p.num fun c => { c with running := true },
    .op (.record (some (p.num, r.hostSeq.toNat))),
    .ask fun s =>
    let next := (s.rdN .lastHostSeq 0 p.num + 1) % 65536
    if r.hostSeq.toNat ≠ next then completeBare p src r .seqGap (leBytes 2 next) r.sub.toNat
    else .seq (wri .lastHostSeq 0 p.num (u32 next))
      (match r.opcodeStatus with
       | .ok => match r.opcode.toNat with
         | 0 => runNop p src r
         | 1 => runRead p src r
         | 2 => runWrite p src r
         | 3 => runDomainWrite p src r
         | 4 => runDomainRead p src r
         | _ => runJournalRead p src r
       | st => completeBare p src r st [] r.sub.toNat),
    .op (.record none) ]

/-- The completions of a path that are unread; those of P5 until they are on the Link (R166). -/
def State.unreadNow (s : State) (p : Path) : Nat :=
  if p = .p5 then (s.link.waiting.filter fun x => x.kind = kFwdRet && x.again.isNone).length else (s.unread p.num).length

/-- Those, and the completions that its waiting records will add (R166). -/
def State.unreadDue (s : State) (p : Path) : Nat := s.unreadNow p + (s.cmd p.num).held.length + bit01 (s.cmd p.num).running

/-- A record arrives on P3 to P5: refused untaken, held behind the one that waits, or executed (R141, R166, R182). `k` answers its
delivery. -/
def arrive (p : Path) (src : Nat) (r : CmdRecord) (k : Status → Prog) : Prog := .ask fun s =>
  if s.fenced islHost || decide (16 ≤ s.unreadDue p) then k .busy
  else if (s.cmd p.num).running then .seq (modCmd p.num fun c => { c with held := c.held ++ [(r, src)] }) (k .ok)
  else .seq (execRecord p src r) (k .ok)

/-- A path whose oldest held record may start. -/
def State.heldReady (s : State) (n : Nat) : Bool := !(s.cmd n).running && !(s.cmd n).held.isEmpty

/-- The oldest held record of each path starts. -/
def drainOnce : Prog := each [Path.p3, .p4, .p5] fun p => .ask fun s => when (s.heldReady p.num)
  (match (s.cmd p.num).held with
   | (r, src) :: rest => .seq (modCmd p.num fun c => { c with held := rest }) (execRecord p src r)
   | [] => .nop)

/-- Held records start until each path waits again or holds none; every round takes one from each path that can start. -/
def drain : Nat → Prog
  | 0 => .nop
  | n + 1 => .ask fun s => when ([3, 4, 5].any s.heldReady) (.seq drainOnce (drain n))

/-- A program after which held records start. -/
def settled (p : Prog) : Prog := .seq p (.ask fun s =>
  drain ((s.cmd 3).held.length + (s.cmd 4).held.length + (s.cmd 5).held.length))

/-! ### The command ring -/

/-- COMMAND_FETCH (R634). -/
def execCommandFetch (s : State) : Host.Outcome State Fault Refusal :=
  done (inIsland islHost (.ask fun s =>
    let size := 2 ^ s.rdN .cmdLog2
    when (s.rdN .ringState = rgRunning && !s.ring.fetching && !s.ring.stopping && !(s.cmd 0).running && s.canInitiate
        && s.rdN .cmdHead ≠ s.rdN .cmdTail && decide ((s.rdN .cplHead + 65536 - s.rdN .cplTail) % 65536 < size))
      (.seq (output (.hostRead (s.host64 .cmdBase + 64 * (s.rdN .cmdHead % size)) 64))
        (modRing fun r => { r with fetching := true })))) s

/-- The record of an outstanding fetch arrives (R634, R663). -/
def fetched (r : CmdRecord) : Prog := .ask fun s => when s.ring.fetching (all
  [ modRing (fun x => { x with fetching := false }), wrN .cmdHead 0 ((s.rdN .cmdHead + 1) % 65536), execRecord .p0 0 r, ringSettle ])

/-- COMMAND_FETCH_COMPLETE, with the 64 bytes of the record. -/
def execCommandFetchComplete (bytes : List Byte) (s : State) : Host.Outcome State Fault Refusal :=
  done (inIsland islHost (settled (fetched (parseRecord bytes)))) s

/-- COMMAND_FETCH_ERROR (R636). -/
def execCommandFetchError (s : State) : Host.Outcome State Fault Refusal :=
  done (inIsland islHost (.ask fun s => when s.ring.fetching (all
    [ modRing (fun x => { x with fetching := false }), wrN .ringState 0 rgHalted,
      emit .pcieFetchError 0 islHost (u32 (s.rdN .cmdHead)), ringSettle ]))) s

/-! ### The link -/

/-- The largest payload that the X9 advertises, in bytes (R619). -/
def maxPayloadSupported : Nat := 512

/-- PCIE_LINK_UP: speed, width (×1, ×2, ×4 or ×8), whether Bus Master Enable is set, and the payload and read request sizes that the host
programs, as 128 · 2ⁿ bytes (R617, R619). -/
def execPcieLinkUp (speed : Fin 4) (width : Fin 9) (busMaster : Bool) (payload read : Fin 6) (s : State) : Host.Outcome State Fault Refusal :=
  done (live (when (decide (width.val ∈ [1, 2, 4, 8])) (.seq
    (wrN .linkStatus 0 (speed + 1 + 16 * width + 4096 + 8192 * bit01 busMaster))
    (modRing fun r => { r with maxPayload := min maxPayloadSupported (128 * 2 ^ payload.val), maxRead := 128 * 2 ^ read.val })))) s

/-- PCIE_LINK_LOSS (R621, R664): D3hot, Bus Master Enable cleared, hot reset, data link down, PE_PERST_N low. The data link stays up in the
first two. -/
def execPcieLinkLoss (cause : Fin 5) (s : State) : Host.Outcome State Fault Refusal :=
  done (live (.ask fun s => when (s.rdN .linkStatus ≠ 0) (all
    [ wrN .linkStatus 0 (if cause.val ≤ 1 then s.rdN .linkStatus % 8192 else 0),
      each (List.range 8) streamLoss,
      wrN .ringState 0 rgOff, ringIdle,
      pathReset .p0,
      emit .pcieLinkDown 0 islHost (Config.linkLossCode cause) ]))) s

/-- PCIE_REQUEST_REFUSED: a poisoned write, or a request outside the base address registers (R623). -/
def execPcieRequestRefused (poisoned : Bool) (s : State) : Host.Outcome State Fault Refusal :=
  done (live (output (if poisoned then .poisoned else .unsupported))) s

/-- A window read of a path at a byte address, with the status of its width (R76, R77, R101, R115, R624). -/
def windowReadAt (p : Path) (addr : Nat) (k : U32 → Prog) (lenSt : Status := .ok) : Prog := .ask fun s =>
  if s.fenced islHost then k 0xFFFFFFFF
  else match lookup (addr / 1024) (addr / 4 % 256) with
    | .error st => .seq (refuse p st (addr / 1024) (addr / 4 % 256)) (k 0)
    | .ok e => if lenSt = .ok then .seq (k (s.windowRead p e)) (readEffect e)
      else .seq (refuse p lenSt (addr / 1024) (addr / 4 % 256)) (k 0)

/-- The byte enables of dword `k` of a request of `n` dwords. -/
def enablesAt (first last : BitVec 4) (n k : Nat) : BitVec 4 := if k = 0 then first else if k + 1 = n then last else 0xF

/-- BAR0_WINDOW_READ of some dwords from a dword address, with the byte enables of the first and the last: each dword is an access of its
own (R77, R78). -/
def execBar0WindowRead (dword : BitVec 24) (n : Nat) (first last : BitVec 4) (s : State) : Host.Outcome State Fault Refusal :=
  done (live (each (List.range n) fun k => windowReadAt .p0 ((dword.toNat + k) % 0x1000000 * 4)
    (fun v => output (.pcieReply (leBytes 4 v.toNat))) (need (enablesAt first last n k = 0xF) .length))) s

end Sys2Proof.Machine
end

