-- ==== Sys2Proof/Machine/Entries.lean ====
section
/-! DEFINITION. The writes that the opcode table names, each the write of one entry from a path, unconditional and in the form of the
path (R100); the mode transitions; the readmission point. -/
namespace Sys2Proof.Machine

open Prog

/-- A write of an entry from a path that reaches the dictionary (R115). -/
def writeRow (p : Path) (e : Ent) (w : U32) : Prog := live (.ask fun s => when (pathUp s p) (settled (writeEnt p .plain e w)))

/-- DICTIONARY_WRITE by index and sub-index, with its byte enables: a write of anything but a whole aligned dword has not the width of the
window (R68, R77, R115). The FIFO window of P1 and P2 has its own commands (R693). -/
def execDictionaryWrite (p : Path) (idx : BitVec 16) (sub : Byte) (v : BitVec 32) (enables : BitVec 4) (s : State) :
    Host.Outcome State Fault Refusal :=
  done (live (.ask fun s => when (pathUp s p && !(decide (p ∈ [.p1, .p2]) && idx = 0x2020 && sub = 0))
    (settled (writeAt p .plain idx.toNat sub.toNat v (fun _ => .nop) (need (enables = 0xF) .length))))) s

/-- A DOMAIN write of an object from a path, with its data. -/
def domainRow (p : Path) (n : Name) (data : List Byte) : Prog := live (.ask fun s => when (pathUp s p)
  (submitDomain { path := p, ent := { name := n }, size := data.length, data := data } (noteRefusal p)))

/-- KEY_LOAD (R598, R599, R614). -/
def execKeyLoad (p : Path) (data : List Byte) (s : State) : Host.Outcome State Fault Refusal := done (domainRow p .keyLoad data) s

/-- FWD_OUT (R781, R782, R785). -/
def execFwdOut (p : Path) (data : List Byte) (s : State) : Host.Outcome State Fault Refusal := done (domainRow p .fwdOut data) s

/-- LEVEL_KEY_WRITE (R69 to R71). -/
def execLevelKeyWrite (p : Path) (v : BitVec 32) (s : State) : Host.Outcome State Fault Refusal :=
  done (writeRow p { name := .levelKey } v) s

/-- CLAIM_TAKE of the unit numbered u + 1, with the value written (R87 to R89). -/
def execClaimTake (p : Path) (u : Fin 56) (v : BitVec 8) (s : State) : Host.Outcome State Fault Refusal :=
  done (writeRow p { name := .claim, item := u } (v.setWidth 32)) s

/-- CLAIM_RELEASE (R87). -/
def execClaimRelease (p : Path) (u : Fin 56) (s : State) : Host.Outcome State Fault Refusal :=
  done (writeRow p { name := .claim, item := u } 0xFF) s

/-- CLAIM_BROKEN (R90). -/
def execClaimBroken (p : Path) (u : Fin 56) (s : State) : Host.Outcome State Fault Refusal :=
  done (writeRow p { name := .claim, item := u } 0xFF) s

/-- RESTORE_DEFAULTS, with the value written (R108 to R114). -/
def execRestoreDefaults (p : Path) (v : BitVec 32) (s : State) : Host.Outcome State Fault Refusal :=
  done (writeRow p { name := .restoreDefaults } v) s

/-- MODE_REQ_PREPARE (R923). -/
def execModeReqPrepare (p : Path) (s : State) : Host.Outcome State Fault Refusal :=
  done (writeRow p { name := .modeReq } 0) s

/-- MODE_REQ_CALIBRATE (R923). -/
def execModeReqCalibrate (p : Path) (s : State) : Host.Outcome State Fault Refusal :=
  done (writeRow p { name := .modeReq } 1) s

/-- MODE_REQ_SCAN (R923). -/
def execModeReqScan (p : Path) (s : State) : Host.Outcome State Fault Refusal :=
  done (writeRow p { name := .modeReq } 2) s

/-- MODE_REQ_PARK (R58). -/
def execModeReqPark (p : Path) (s : State) : Host.Outcome State Fault Refusal :=
  done (writeRow p { name := .modeReq } 3) s

/-- FENCE_REQUEST (R176, R178). -/
def execFenceRequest (p : Path) (i : Fin 15) (s : State) : Host.Outcome State Fault Refusal :=
  done (writeRow p { name := .fenceReq, item := i } 1) s

/-- READMIT_REQUEST (R185, R915). -/
def execReadmitRequest (p : Path) (i : Fin 15) (s : State) : Host.Outcome State Fault Refusal :=
  done (writeRow p { name := .fenceReq, item := i } 0) s

/-- HEAD_ENABLE (R223). -/
def execHeadEnable (p : Path) (h : Fin 4) (s : State) : Host.Outcome State Fault Refusal :=
  done (writeRow p { name := .headEn, inst := h } 1) s

/-- HEAD_DISABLE (R223). -/
def execHeadDisable (p : Path) (h : Fin 4) (s : State) : Host.Outcome State Fault Refusal :=
  done (writeRow p { name := .headEn, inst := h } 0) s

/-- HOST_TRIG (R221). -/
def execHostTrig (p : Path) (h : Fin 4) (s : State) : Host.Outcome State Fault Refusal :=
  done (writeRow p { name := .hostTrig, inst := h } 1) s

/-- CAL_DARK (R303). -/
def execCalDark (p : Path) (h : Fin 4) (s : State) : Host.Outcome State Fault Refusal :=
  done (writeRow p { name := .calCmd, inst := h } 1) s

/-- CAL_WHITE (R303). -/
def execCalWhite (p : Path) (h : Fin 4) (s : State) : Host.Outcome State Fault Refusal :=
  done (writeRow p { name := .calCmd, inst := h } 2) s

/-- CAL_COMPUTE (R303). -/
def execCalCompute (p : Path) (h : Fin 4) (s : State) : Host.Outcome State Fault Refusal :=
  done (writeRow p { name := .calCmd, inst := h } 3) s

/-- AXIS_ENABLE (R372). -/
def execAxisEnable (p : Path) (a : Fin 6) (s : State) : Host.Outcome State Fault Refusal :=
  done (writeRow p { name := .axisEn, inst := a } 1) s

/-- AXIS_DISABLE (R372). -/
def execAxisDisable (p : Path) (a : Fin 6) (s : State) : Host.Outcome State Fault Refusal :=
  done (writeRow p { name := .axisEn, inst := a } 0) s

/-- MOVE_CMD ← 1 (R370). -/
def execMoveAbs (p : Path) (a : Fin 6) (s : State) : Host.Outcome State Fault Refusal :=
  done (writeRow p { name := .moveCmd, inst := a } 1) s

/-- MOVE_CMD ← 2 (R370). -/
def execMoveRel (p : Path) (a : Fin 6) (s : State) : Host.Outcome State Fault Refusal :=
  done (writeRow p { name := .moveCmd, inst := a } 2) s

/-- MOVE_CMD ← 3 (R370). -/
def execMoveVelPos (p : Path) (a : Fin 6) (s : State) : Host.Outcome State Fault Refusal :=
  done (writeRow p { name := .moveCmd, inst := a } 3) s

/-- MOVE_CMD ← 4 (R370). -/
def execMoveVelNeg (p : Path) (a : Fin 6) (s : State) : Host.Outcome State Fault Refusal :=
  done (writeRow p { name := .moveCmd, inst := a } 4) s

/-- MOVE_CMD ← 5 (R370). -/
def execMoveStop (p : Path) (a : Fin 6) (s : State) : Host.Outcome State Fault Refusal :=
  done (writeRow p { name := .moveCmd, inst := a } 5) s

/-- MOVE_CMD ← 6 (R382). -/
def execMoveHalt (p : Path) (a : Fin 6) (s : State) : Host.Outcome State Fault Refusal :=
  done (writeRow p { name := .moveCmd, inst := a } 6) s

/-- MOVE_CMD ← 7 (R389). -/
def execMoveHome (p : Path) (a : Fin 6) (s : State) : Host.Outcome State Fault Refusal :=
  done (writeRow p { name := .moveCmd, inst := a } 7) s

/-- RETARGET (R378). -/
def execRetarget (p : Path) (a : Fin 6) (v : BitVec 32) (s : State) : Host.Outcome State Fault Refusal :=
  done (writeRow p { name := .retarget, inst := a } v) s

/-- POS_SET (R367). -/
def execPosSet (p : Path) (a : Fin 6) (v : BitVec 32) (s : State) : Host.Outcome State Fault Refusal :=
  done (writeRow p { name := .posSet, inst := a } v) s

/-- AXIS_FAULT_CLR (R374). -/
def execAxisFaultClr (p : Path) (a : Fin 6) (s : State) : Host.Outcome State Fault Refusal :=
  done (writeRow p { name := .axisFaultClr, inst := a } 1) s

/-- ENC_EN_WRITE (R361). -/
def execEncEnWrite (p : Path) (a : Fin 6) (on : Bool) (s : State) : Host.Outcome State Fault Refusal :=
  done (writeRow p { name := .encEn, inst := a } (u32 (bit01 on))) s

/-- STRING_ON (R464). -/
def execStringOn (p : Path) (k : Fin 8) (s : State) : Host.Outcome State Fault Refusal :=
  done (writeRow p { name := .stringEn, inst := k } 1) s

/-- STRING_OFF_FADE (R463). -/
def execStringOffFade (p : Path) (k : Fin 8) (s : State) : Host.Outcome State Fault Refusal :=
  done (writeRow p { name := .stringEn, inst := k } 0) s

/-- STRING_OFF_NOW (R463). -/
def execStringOffNow (p : Path) (k : Fin 8) (s : State) : Host.Outcome State Fault Refusal :=
  done (writeRow p { name := .stringEn, inst := k } 2) s

/-- STRING_FAULT_CLR (R466). -/
def execStringFaultClr (p : Path) (k : Fin 8) (s : State) : Host.Outcome State Fault Refusal :=
  done (writeRow p { name := .lsFaultClr, inst := k } 1) s

/-- HEATH_ENABLE (R509). -/
def execHeathEnable (p : Path) (s : State) : Host.Outcome State Fault Refusal :=
  done (writeRow p { name := .heathEn } 1) s

/-- HEATH_DISABLE (R534). -/
def execHeathDisable (p : Path) (s : State) : Host.Outcome State Fault Refusal :=
  done (writeRow p { name := .heathEn } 0) s

/-- URGENT (R523). -/
def execUrgent (p : Path) (v : BitVec 8) (s : State) : Host.Outcome State Fault Refusal :=
  done (writeRow p { name := .urgent } (v.setWidth 32)) s

/-- PLAUS_CLR (R527). -/
def execPlausClr (p : Path) (v : BitVec 8) (s : State) : Host.Outcome State Fault Refusal :=
  done (writeRow p { name := .plausClr } (v.setWidth 32)) s

/-- TIMER_START (R543). -/
def execTimerStart (p : Path) (c : Fin 32) (s : State) : Host.Outcome State Fault Refusal :=
  done (writeRow p { name := .tmrRun, inst := c } 1) s

/-- TIMER_STOP (R566). -/
def execTimerStop (p : Path) (c : Fin 32) (s : State) : Host.Outcome State Fault Refusal :=
  done (writeRow p { name := .tmrRun, inst := c } 0) s

/-- COMPARE_WRITE of one half of A or B (R546, R549). -/
def execCompareWrite (p : Path) (c : Fin 32) (useB high : Bool) (v : BitVec 32) (s : State) : Host.Outcome State Fault Refusal :=
  let n : Name := match useB, high with | false, false => .cmpALo | false, true => .cmpAHi | true, false => .cmpBLo | true, true => .cmpBHi
  done (writeRow p { name := n, inst := c } v) s

/-- PERIOD_WRITE of one half (R541). -/
def execPeriodWrite (p : Path) (c : Fin 32) (high : Bool) (v : BitVec 32) (s : State) : Host.Outcome State Fault Refusal :=
  done (writeRow p { name := if high then .periodHi else .periodLo, inst := c } v) s

/-- BANK_OWNER_WRITE (R576 to R578). -/
def execBankOwnerWrite (p : Path) (b : Fin 24) (v : BitVec 8) (s : State) : Host.Outcome State Fault Refusal :=
  done (writeRow p { name := .owner, inst := b } (v.setWidth 32)) s

/-- POWER_REQ ← 0 of a bank (R575 to R578). -/
def execBankPowerOff (p : Path) (b : Fin 24) (s : State) : Host.Outcome State Fault Refusal :=
  done (writeRow p { name := .bankPowerReq, inst := b } 0) s

/-- POWER_REQ ← 1 of a bank (R575 to R578). -/
def execBankFallow (p : Path) (b : Fin 24) (s : State) : Host.Outcome State Fault Refusal :=
  done (writeRow p { name := .bankPowerReq, inst := b } 1) s

/-- POWER_REQ ← 2 of a bank (R575 to R578). -/
def execBankPowerOn (p : Path) (b : Fin 24) (s : State) : Host.Outcome State Fault Refusal :=
  done (writeRow p { name := .bankPowerReq, inst := b } 2) s

/-- WIPE, with the value written (R602). -/
def execWipe (p : Path) (v : BitVec 32) (s : State) : Host.Outcome State Fault Refusal :=
  done (writeRow p { name := .wipe } v) s

/-- LC_ADVANCE (R605). -/
def execLcAdvance (p : Path) (v : BitVec 8) (s : State) : Host.Outcome State Fault Refusal :=
  done (writeRow p { name := .lcAdvance } (v.setWidth 32)) s

/-- TAMPER_CLR (R607). -/
def execTamperClr (p : Path) (v : BitVec 8) (s : State) : Host.Outcome State Fault Refusal :=
  done (writeRow p { name := .tamperClr } (v.setWidth 32)) s

/-- CMD_RING_ENABLE (R632, R637). -/
def execCmdRingEnable (p : Path) (s : State) : Host.Outcome State Fault Refusal :=
  done (writeRow p { name := .cmdEn } 1) s

/-- CMD_RING_DISABLE (R632, R636, R663). -/
def execCmdRingDisable (p : Path) (s : State) : Host.Outcome State Fault Refusal :=
  done (writeRow p { name := .cmdEn } 0) s

/-- CMD_TAIL_WRITE (R633). -/
def execCmdTailWrite (p : Path) (v : BitVec 16) (s : State) : Host.Outcome State Fault Refusal :=
  done (writeRow p { name := .cmdTail } (v.setWidth 32)) s

/-- CPL_TAIL_WRITE (R633). -/
def execCplTailWrite (p : Path) (v : BitVec 16) (s : State) : Host.Outcome State Fault Refusal :=
  done (writeRow p { name := .cplTail } (v.setWidth 32)) s

/-- STREAM_ENABLE (R646, R651, R656). -/
def execStreamEnable (p : Path) (k : Fin 8) (s : State) : Host.Outcome State Fault Refusal :=
  done (writeRow p { name := .streamEn, inst := k } 1) s

/-- STREAM_DISABLE (R655). -/
def execStreamDisable (p : Path) (k : Fin 8) (s : State) : Host.Outcome State Fault Refusal :=
  done (writeRow p { name := .streamEn, inst := k } 0) s

/-- RD_PTR_WRITE (R643, R659). -/
def execRdPtrWrite (p : Path) (k : Fin 8) (v : BitVec 32) (s : State) : Host.Outcome State Fault Refusal :=
  done (writeRow p { name := .rdPtr, inst := k } v) s

/-- STREAM_BUFFER_CONFIG: BUF_BASE low or high, or BUF_LOG2 (R638, R654). -/
def execStreamBufferConfig (p : Path) (k : Fin 8) (part : Fin 3) (v : BitVec 32) (s : State) : Host.Outcome State Fault Refusal :=
  done (writeRow p (if part.val = 2 then { name := .bufLog2, inst := k } else { name := .bufBase, inst := k, item := part }) v) s

/-- FIFO_RESET_WRITE of PAR_FIFO_RESET or QSPI_FIFO_RESET (R696). -/
def execFifoResetWrite (p : Path) (port : Fin 2) (v : BitVec 8) (s : State) : Host.Outcome State Fault Refusal :=
  done (writeRow p { name := if port.val = 0 then .parFifoReset else .qspiFifoReset } (v.setWidth 32)) s

/-- NODE_ID_WRITE (R740, R741). -/
def execNodeIdWrite (p : Path) (x : Fin 2) (v : BitVec 8) (s : State) : Host.Outcome State Fault Refusal :=
  done (writeRow p { name := .nodeId, inst := x } (v.setWidth 32)) s

/-- ERROR_FIELD_CLEAR (R737). -/
def execErrorFieldClear (p : Path) (s : State) : Host.Outcome State Fault Refusal :=
  done (writeRow p { name := .errorCount } 0) s

/-- ENUM_REQ (R752). -/
def execEnumReq (p : Path) (s : State) : Host.Outcome State Fault Refusal :=
  done (writeRow p { name := .enumReq } 1) s

/-- MEMBER_OUT_SET (R789, R792). -/
def execMemberOutSet (p : Path) (s : State) : Host.Outcome State Fault Refusal :=
  done (writeRow p { name := .memberOut } 1) s

/-- POWER_REQ_WRITE (R808). -/
def execPowerReqWrite (p : Path) (v : BitVec 8) (s : State) : Host.Outcome State Fault Refusal :=
  done (writeRow p { name := .seqPowerReq } (v.setWidth 32)) s

/-- DIRTY_CLR (R818). -/
def execDirtyClr (p : Path) (s : State) : Host.Outcome State Fault Refusal :=
  done (writeRow p { name := .dirtyClr } 1) s

/-- DEVICE_RESET_WRITE (R828). -/
def execDeviceResetWrite (p : Path) (v : BitVec 32) (s : State) : Host.Outcome State Fault Refusal :=
  done (writeRow p { name := .deviceReset } v) s

/-- The request that was not acknowledged is answered as a fenced island's fence logic answers it (R118, R169, R170). -/
def answerAbsent (q : CrossReq) : Prog := .ask fun s =>
  match q with
  | .other => .nop
  | .write p idx sub v => when (pathUp s p) (writeAt p .plain idx.toNat sub.toNat v fun _ => .nop)
  | .record p src r => when (!s.fenced islHost && !(s.cmd p.num).running) (execRecord p src r)

/-- HANDSHAKE_TIMEOUT: the request is answered absent, and its receiver is fenced (R169). -/
def execHandshakeTimeout (sender receiver : Fin 15) (q : CrossReq) (s : State) : Host.Outcome State Fault Refusal :=
  done (live (.ask fun s =>
    let fence := autoFence receiver 3 sender
    if q = .other then fence
    else settled (all [ modIsland receiver (fun x => { x with st := .fenced }), answerAbsent q,
      modIsland receiver (fun x => { x with st := (s.island receiver).st }), fence ]))) s

/-! ### Modes -/

/-- MODE_REQUEST_TAKE_UP (R57, R60). -/
def execModeRequestTakeUp (s : State) : Host.Outcome State Fault Refusal := done (inIsland islHost (settled takeUpMode)) s

/-- MODE_TRANSITION_DONE (R39, R44). -/
def execModeTransitionDone (s : State) : Host.Outcome State Fault Refusal := done (inIsland islSeq (settled transitionDone)) s

/-- PARK_ENTRY (R50, R918, R924). -/
def execParkEntry (s : State) : Host.Outcome State Fault Refusal := done (live (settled parkEntry)) s

/-- READMISSION_POINT (R180, R185, R193, R917). -/
def execReadmissionPoint (i : Fin 15) (s : State) : Host.Outcome State Fault Refusal := done (live (settled (readmission i))) s

end Sys2Proof.Machine
end

