-- ==== Sys2Proof/Machine/Ports.lean ====
section
/-! DEFINITION. The parallel port (P1) and the QSPI port (P2): halves and stage, posted queues, the FIFO window, frames and status byte
(*Legacy parallel and QSPI ports*); the command records as the opcode table names them. -/
namespace Sys2Proof.Machine

open Prog

/-! ### The posted queue -/

/-- The front of a port's queue reaches HOST arbitration (R166, R678, R695, R698). -/
def dispatch (p : Path) : Prog := .ask fun s => when (!(s.cmd p.num).running)
  (match (s.port p.num).queue with
   | [] => .nop
   | .write idx sub v :: _ => .seq (modCmd p.num fun c => { c with running := true })
       (writeAt p .port idx sub v fun _ => finishPath p)
   | .record b :: _ =>
     if 16 ≤ (s.unread p.num).length then .seq (refuse p .busy 0x2020 0) (portPop p.num)
     else execRecord p 0 (parseRecord b))

def portPath (k : Fin 2) : Path := if k.val = 0 then .p1 else .p2

/-- POSTED_QUEUE_DISPATCH. -/
def execPostedQueueDispatch (port : Fin 2) (s : State) : Host.Outcome State Fault Refusal :=
  done (inIsland islHost (settled (dispatch (portPath port)))) s

/-- A P1 entry is posted, or held by PAR_WAIT_N (R678, R679). -/
def parPost (x : Posted) : Prog := modPort 1 fun t =>
  if t.queue.length < 64 then { t with queue := t.queue ++ [x] } else { t with waiting := some x }

/-- Another access of P1 comes while PAR_WAIT_N holds a write: its strobe has ended, and it is dropped and refused with BUSY (R871). What it
would have used up stays: the staged half, or the bytes of its record that came before. -/
def strobeEnd : Prog := .ask fun s => when (!s.fenced islHost) (match (s.port 1).waiting with
  | none => .nop
  | some (.write idx sub v) => .seq (modPort 1 fun t => { t with
        waiting := none, stage := match lookup idx sub with
          | .ok e => if (typeOf e).bytes ≤ 2 then t.stage else some (idx, sub, v.toNat % 65536)
          | .error _ => t.stage })
      (refuse .p1 .busy idx sub)
  | some (.record b) => .seq (modPort 1 fun t => { t with waiting := none, asm := b.take 62 }) (refuse .p1 .busy 0x2020 0))

/-! ### The FIFO window -/

/-- Bytes are appended to the record being assembled; a whole record goes on to `post` (R693). -/
def fifoWrite (p : Path) (bytes : List Byte) (post : Posted → Prog) : Prog := .ask fun s =>
  let asm := (s.port p.num).asm ++ bytes
  if asm.length < 64 then modPort p.num fun t => { t with asm := asm }
  else .seq (modPort p.num fun t => { t with asm := [] }) (post (.record asm))

/-- The next bytes of the oldest unread completion (R694). -/
def fifoRead (p : Path) (n : Nat) (k : List Byte → Prog) : Prog := .ask fun s =>
  match s.unread p.num with
  | [] => k (List.replicate n 0)
  | c :: rest =>
    let pos := (s.port p.num).pos
    .seq (k ((c.drop pos).take n))
      (if pos + n < 64 then modPort p.num fun t => { t with pos := pos + n }
       else .seq (modPort p.num fun t => { t with pos := 0 }) (.op (.unread p.num rest)))

/-! ### The parallel port -/

def half (w : U32) (upper : Bool) : U16 := BitVec.ofNat 16 (if upper then w.toNat / 65536 else w.toNat)

/-- A parallel read of a half of an entry (R671 to R673, R682, R699). -/
def parRead (idx sub : Nat) (upper : Bool) : Prog := .seq strobeEnd (.ask fun s =>
  if s.fenced islHost then output (.parData 0xFFFF)
  else if idx = 0x2020 ∧ sub = 0 then .seq (modPort 1 fun t => { t with hold := none })
    (fifoRead .p1 2 fun b => output (.parData (BitVec.ofNat 16 (leNat b))))
  else match lookup idx sub with
    | .error st => all [ modPort 1 (fun t => { t with hold := none }), refuse .p1 st idx sub, output (.parData 0) ]
    | .ok e =>
      let v := s.windowRead .p1 e
      if upper then
        let w := match (s.port 1).hold with | some (i, j, x) => if i = idx ∧ j = sub then x else v | none => v
        .seq (modPort 1 fun t => { t with hold := none }) (output (.parData (half w true)))
      else all [ modPort 1 (fun t => { t with hold := some (idx, sub, v) }), output (.parData (half v false)), readEffect e ])

/-- PAR_READ at PAR_A[25:1] (R667). -/
def execParRead (a : BitVec 25) (s : State) : Host.Outcome State Fault Refusal :=
  done (live (parRead (a.toNat / 512) (a.toNat / 2 % 256) (a.getLsbD 0))) s

/-- Whether an entry takes its whole value in one parallel write (R674). -/
def narrow (e : Ent) : Bool := decide ((typeOf e).bytes ≤ 2) && !isDomain e

/-- The halfword as the entry's type extends it (R674). -/
def extended (e : Ent) (d : U16) : U32 := if (typeOf e).signed then d.signExtend 32 else d.setWidth 32

/-- A write on P1 reaches the port; it is dropped while HOST is fenced (R699, R871). `k` gets the entry. -/
def parWrite (a : BitVec 24) (d : U16) (k : Ent → Nat → Nat → Prog) : Prog := live (.seq strobeEnd (.ask fun s =>
  let idx := a.toNat / 256
  let sub := a.toNat % 256
  when (!s.fenced islHost)
    (if idx = 0x2020 ∧ sub = 0 then fifoWrite .p1 (leBytes 2 d.toNat) parPost
     else match lookup idx sub with
      | .error st => refuse .p1 st idx sub
      | .ok e => if isDomain e then refuse .p1 .notWindowed idx sub else k e idx sub)))

/-- PAR_WRITE_LOWER_HALF at the entry address PAR_A[25:2] (R674, R675, R677, R696). -/
def execParWriteLowerHalf (a : BitVec 24) (d : BitVec 16) (s : State) : Host.Outcome State Fault Refusal :=
  done (parWrite a d fun e idx sub =>
    if e.name = .parFifoReset then writeEnt .p1 .plain e (extended e d)
    else if narrow e then parPost (.write idx sub (extended e d))
    else modPort 1 fun t => { t with stage := some (idx, sub, d.toNat) }) s

/-- PAR_WRITE_UPPER_HALF (R674, R676). -/
def execParWriteUpperHalf (a : BitVec 24) (d : BitVec 16) (s : State) : Host.Outcome State Fault Refusal :=
  done (parWrite a d fun e idx sub => .ask fun s =>
    match (s.port 1).stage with
    | some (i, j, lo) =>
      if !narrow e && decide (i = idx ∧ j = sub) then .seq (modPort 1 fun t => { t with stage := none })
        (parPost (.write idx sub (u32 (lo + 65536 * d.toNat))))
      else refuse .p1 .length idx sub
    | none => refuse .p1 .length idx sub) s

/-- PAR_FIFO_WRITE (R693, R702). -/
def execParFifoWrite (d : BitVec 16) (s : State) : Host.Outcome State Fault Refusal :=
  done (live (.seq strobeEnd (.ask fun s => when (!s.fenced islHost) (fifoWrite .p1 (leBytes 2 d.toNat) parPost)))) s

/-! ### The QSPI port -/

/-- One entry of a READ frame (R685, R686, R694, R699). -/
def qspiReadOne (addr : Nat) : Prog := .ask fun s =>
  let reply (v : U32) : Prog := output (.qspiData (leBytes 4 v.toNat))
  if s.fenced islHost then reply 0xFFFFFFFF
  else if 0x4000000 ≤ addr then .seq (refuse .p2 .noObject (addr / 1024 % 65536) (addr / 4 % 256)) (reply 0)
  else if addr % 4 ≠ 0 then .seq (refuse .p2 .length (addr / 1024 % 65536) (addr / 4 % 256)) (reply 0)
  else if addr = 0x808000 then fifoRead .p2 4 fun b => output (.qspiData b)
  else windowReadAt .p2 addr reply

/-- The address of entry `k` of a frame (R685). -/
def qspiAddr (addr k : Nat) : Nat :=
  if addr = 0x808000 then addr
  else if addr < 0x808000 ∧ addr % 4 = 0 ∧ 0x808000 < addr + 4 * k then 0x808000 else (addr + 4 * k) % 4294967296

def qspiRead (addr n : Nat) : Prog := live (each (List.range n) fun k => qspiReadOne (qspiAddr addr k))

/-- QSPI_READ of so many whole entries (R683). -/
def execQspiRead (addr : BitVec 32) (n : Nat) (s : State) : Host.Outcome State Fault Refusal := done (qspiRead addr.toNat n) s

/-- QSPI_READ_QUAD (R684). -/
def execQspiReadQuad (addr : BitVec 32) (n : Nat) (s : State) : Host.Outcome State Fault Refusal := done (qspiRead addr.toNat n) s

/-- A P2 entry is posted, or dropped with the queue full (R689). -/
def qspiPost (addr : Nat) (x : Posted) : Prog := .ask fun s =>
  if (s.port 2).queue.length < 64 then modPort 2 fun t => { t with queue := t.queue ++ [x] }
  else .seq (refuse .p2 .busy (addr / 1024) (addr / 4 % 256))
    (when (!(s.port 2).dropped) (.seq (modPort 2 fun t => { t with dropped := true }) (emit .qspiWriteDropped 0 islHost (u32 addr))))

/-- One entry of a WRITE frame (R685, R686, R689, R693, R696). -/
def qspiWriteOne (addr : Nat) (w : U32) : Prog := .ask fun s =>
  let idx := addr / 1024 % 65536
  let sub := addr / 4 % 256
  if 0x4000000 ≤ addr then refuse .p2 .noObject idx sub
  else if addr % 4 ≠ 0 then refuse .p2 .length idx sub
  else if idx = 0x2C21 ∧ sub = 4 then writeEnt .p2 .plain { name := .qspiFifoReset } w
  else if addr = 0x808000 ∧ (s.port 2).queue.length < 64 then fifoWrite .p2 (leBytes 4 w.toNat) (qspiPost addr)
  else qspiPost addr (.write idx sub w)

/-- A WRITE frame of whole entries, and whether its last entry is cut short (R685, R687, R699). -/
def qspiWrite (addr : Nat) (words : List U32) (cut : Bool) : Prog := live (.ask fun s => when (!s.fenced islHost) (.seq
  (each words.zipIdx fun x => qspiWriteOne (qspiAddr addr x.2) x.1)
  (when cut (let a := qspiAddr addr words.length
    refuse .p2 (if 0x4000000 ≤ a then .noObject else .length) (a / 1024 % 65536) (a / 4 % 256)))))

/-- QSPI_WRITE. -/
def execQspiWrite (addr : BitVec 32) (words : List (BitVec 32)) (cut : Bool) (s : State) : Host.Outcome State Fault Refusal :=
  done (qspiWrite addr.toNat words cut) s

/-- QSPI_WRITE_QUAD. -/
def execQspiWriteQuad (addr : BitVec 32) (words : List (BitVec 32)) (cut : Bool) (s : State) : Host.Outcome State Fault Refusal :=
  done (qspiWrite addr.toNat words cut) s

/-- The QSPI status byte. -/
def State.qspiStatus (s : State) (err : Bool) : Byte :=
  let q := (s.port 2).queue
  BitVec.ofNat 8 (128 * bit01 err + 64 * bit01 (64 ≤ q.length) + 32 * bit01 (s.unread 2 ≠ []) + 16 * bit01 (q ≠ []))

/-- QSPI_READ_STATUS of so many bytes (R690, R699). -/
def execQspiReadStatus (n : Nat) (s : State) : Host.Outcome State Fault Refusal :=
  done (live (.ask fun s =>
    if s.fenced islHost then output (.qspiData (List.replicate n 0xFF))
    else .seq (output (.qspiData (if n = 0 then [] else s.qspiStatus (s.port 2).err :: List.replicate (n - 1) (s.qspiStatus false))))
      (when (n ≠ 0) (modPort 2 fun t => { t with err := false })))) s

/-- QSPI_PORT_RESET (R692). -/
def execQspiPortReset (s : State) : Host.Outcome State Fault Refusal :=
  done (writeRow .p2 { name := .qspiFifoReset } 1) s

/-- QSPI_BAD_INSTRUCTION: a code that the instruction table does not list (R688). -/
def execQspiBadInstruction (code : Byte) (s : State) : Host.Outcome State Fault Refusal :=
  done (live (.ask fun s => when (!s.fenced islHost && decide (code ∉ [0x03, 0xEB, 0x02, 0x32, 0x05, 0x99]))
    (refuse .p2 .badOpcode 0 0))) s

/-! ### Reads of either port's kind -/

/-- COMMAND_FIFO_READ: two bytes on P1, four on P2 (R694). -/
def execCommandFifoRead (port : Fin 2) (s : State) : Host.Outcome State Fault Refusal :=
  done (live (if port.val = 0 then parRead 0x2020 0 false else qspiReadOne 0x808000)) s

/-- A read of a refusal count on a path (R682, R691). -/
def errRead (p : Path) (e : Ent) (addr : Nat) : Prog := live (match p with
  | .p0 => windowReadAt .p0 addr fun v => output (.pcieReply (leBytes 4 v.toNat))
  | .p1 => parRead e.index e.sub false
  | .p2 => qspiReadOne addr
  | _ => inIsland islHost (readEffect e))

/-- PAR_ERR_READ. -/
def execParErrRead (p : Path) (s : State) : Host.Outcome State Fault Refusal := done (errRead p { name := .parErr } 0xB08008) s

/-- QSPI_ERR_READ. -/
def execQspiErrRead (p : Path) (s : State) : Host.Outcome State Fault Refusal := done (errRead p { name := .qspiErr } 0xB08404) s

/-! ### Command records -/

/-- The 64 bytes of a record. -/
def packRecord (r : CmdRecord) : List Byte :=
  leBytes 2 r.hostSeq.toNat ++ [r.opcode, r.flags] ++ leBytes 2 r.index.toNat ++ [r.sub, r.length] ++ leBytes 2 r.expEpoch.toNat
    ++ List.replicate 6 0 ++ (r.data ++ List.replicate 48 0).take 48

/-- A record reaches the command channel of a path (R166, R634, R693, R727, R908): the outstanding fetch of P0 brings it; P1 and P2 post it,
and it executes at once where nothing stands before it; P3 to P5 deliver it. P6 has no channel. -/
def recordRow (p : Path) (r : CmdRecord) : Prog := inIsland islHost (settled (match p with
  | .p0 => fetched r
  | .p1 => .ask fun s => when (s.port 1).waiting.isNone <| .seq (parPost (.record (packRecord r))) (.ask fun s => when ((s.port 1).queue.length = 1) (dispatch .p1))
  | .p2 => .seq (qspiPost 0x808000 (.record (packRecord r))) (.ask fun s => when ((s.port 2).queue.length = 1) (dispatch .p2))
  | .p3 | .p4 => arrive p 0 r fun st => when (st ≠ .ok) (refuse p st 0x2020 0)
  | .p5 => .ask fun s => arrive .p5 (s.rdN .p5Source) r fun st => when (st ≠ .ok) (refuse .p5 st r.index.toNat r.sub.toNat)
  | .p6 => .nop))

/-- NOP (R135). -/
def execNop (p : Path) (r : CmdRecord) (s : State) : Host.Outcome State Fault Refusal := done (recordRow p { r with opcode := 0 }) s
/-- READ (R130). -/
def execRead (p : Path) (r : CmdRecord) (s : State) : Host.Outcome State Fault Refusal := done (recordRow p { r with opcode := 1 }) s
/-- WRITE (R131). -/
def execWrite (p : Path) (r : CmdRecord) (s : State) : Host.Outcome State Fault Refusal := done (recordRow p { r with opcode := 2 }) s
/-- DOMAIN_WRITE (R84). -/
def execDomainWrite (p : Path) (r : CmdRecord) (s : State) : Host.Outcome State Fault Refusal := done (recordRow p { r with opcode := 3 }) s
/-- DOMAIN_READ (R134). -/
def execDomainRead (p : Path) (r : CmdRecord) (s : State) : Host.Outcome State Fault Refusal := done (recordRow p { r with opcode := 4 }) s
/-- JOURNAL_READ (R155). -/
def execJournalRead (p : Path) (r : CmdRecord) (s : State) : Host.Outcome State Fault Refusal := done (recordRow p { r with opcode := 5 }) s
/-- COMMAND_BAD_OPCODE: a record with an opcode above those of the opcode table (R127). -/
def execCommandBadOpcode (p : Path) (r : CmdRecord) (s : State) : Host.Outcome State Fault Refusal :=
  done (when (decide (6 ≤ r.opcode.toNat)) (recordRow p r)) s

end Sys2Proof.Machine
end

