-- ==== Sys2Proof/Machine/Can.lean ====
section
/-! DEFINITION. What the CAN controllers receive and send: NMT, SDO and USDO, PDOs, heartbeats, EMCY, error confinement and LSS
(*CANopen and CANopen FD*); the push to the mirror, which TPDOs follow. PRESUMED from CiA 301 and CiA 305 where
the spec names their services: log 34. -/
namespace Sys2Proof.Machine

open Prog

/-! ### Controllers -/

/-- Whether a controller takes part in its bus (R711, R917). -/
def State.canOn (s : State) (x : Nat) : Bool := !s.fenced islNet && s.rdN .busState x ≠ 2 && !(s.ctrl x).resume
/-- Whether it serves SDO and USDO (R720, R740). -/
def State.canServe (s : State) (x : Nat) : Bool := s.canOn x && s.rdN .nodeIdNow x ≠ 0xFF && s.rdN .nmtState x ∉ [0, 4]
/-- Whether it serves PDOs: OPERATIONAL. -/
def State.canOper (s : State) (x : Nat) : Bool := s.canServe x && s.rdN .nmtState x = 5

/-- A frame of a controller that can send. -/
def canSend (x cob : Nat) (data : List Byte) : Prog := .ask fun s => when (s.canUp x) (output (.can x cob data))

/-! ### NMT -/

/-- Whether an NMT frame to a node, or to all (0), addresses a controller. -/
def State.addressed (s : State) (x node : Nat) : Bool := node = 0 || s.rdN .nodeIdNow x = node

/-- An NMT state command is a mode request of the controller's path (R716, R718, R745). -/
def nmtCommand (x node : Nat) (m : Mode) : Prog := live (.ask fun s =>
  when (s.canOn x && s.addressed x node && s.rdN .nodeIdNow x ≠ 0xFF && s.rdB .nmtAccept x)
    (if s.fenced islHost then .seq (refuse (canPath x) .unitAbsent 0x2000 1)
        (emit .nmtOverruled 0 islNet (pack [(8, x), (8, Status.unitAbsent.code)]))
     else settled (modeRequest { path := canPath x, mode := m, origin := .nmt x })))

/-- NMT_START to a node, 0 for all. -/
def execNmtStart (x : Fin 2) (node : Fin 128) (s : State) : Host.Outcome State Fault Refusal := done (nmtCommand x node .scan) s
/-- NMT_STOP. -/
def execNmtStop (x : Fin 2) (node : Fin 128) (s : State) : Host.Outcome State Fault Refusal := done (nmtCommand x node .park) s
/-- NMT_ENTER_PREOPERATIONAL. -/
def execNmtEnterPreoperational (x : Fin 2) (node : Fin 128) (s : State) : Host.Outcome State Fault Refusal :=
  done (nmtCommand x node .prepare) s

/-- NMT_RESET_COMMUNICATION (R719, R740). -/
def execNmtResetCommunication (x : Fin 2) (node : Fin 128) (s : State) : Host.Outcome State Fault Refusal :=
  done (live (.ask fun s => when (s.canOn x && s.addressed x node) (resetComm x false))) s
/-- NMT_RESET_NODE (R719, R740). -/
def execNmtResetNode (x : Fin 2) (node : Fin 128) (s : State) : Host.Outcome State Fault Refusal :=
  done (live (.ask fun s => when (s.canOn x && s.addressed x node) (resetComm x true))) s

/-! ### Values in the form of SDO, USDO and PDO -/

/-- The window form of a value of so many bytes. -/
def valueOf (e : Ent) (b : List Byte) : U32 :=
  match typeOf e with
  | .i8 => (BitVec.ofNat 8 (leNat b)).signExtend 32
  | .i16 => (BitVec.ofNat 16 (leNat b)).signExtend 32
  | _ => u32 (leNat (b.take 4))

/-- The bytes of a value. -/
def bytesOf (e : Ent) (w : U32) : List Byte := leBytes (typeOf e).bytes w.toNat

/-- The value that an upload gets: of the mirror, or of the owning island itself while HOST is fenced and that island is not (R181, R182,
R722). -/
def State.uploadValue (s : State) (p : Path) (e : Ent) : U32 :=
  if s.fenced islHost && !s.absent e then s.readEnt p e else s.windowRead p e

/-! ### Downloads -/

def addReply (x : Nat) (r : Reply) : Prog := modCtrl x fun c => { c with applying := none, replies := c.replies ++ [r] }

/-- The data of a whole download is written, and its response waits (R722, R724, R727). A MODE_REQ answers once its request completes. -/
def download (x kind idx sub : Nat) (bytes : List Byte) : Prog :=
  let p := canPath x
  let answer (st : Status) : Prog := addReply x { kind := kind, index := idx, sub := sub, abort := st.abort }
  match lookup idx sub with
  | .error st => .seq (refuse p st idx sub) (answer st)
  | .ok e =>
    if notForPath p e then .seq (refuse p .noObject idx sub) (answer .noObject)
    else if isCommand e then
      if bytes.length ≠ 64 then .seq (refuse p .length idx sub) (answer .length)
      else arrive p 0 (parseRecord bytes) fun st => .seq (when (st ≠ .ok) (refuse p st idx sub)) (answer st)
    else if isDomain e then
      submitDomain { path := p, ent := e, size := bytes.length, data := bytes } fun v => .seq (noteRefusal p v) (answer v.st)
    else .seq (modCtrl x fun c => { c with applying := some { kind := kind, index := idx, sub := sub, abort := 0 } })
      (submit { path := p, lenSt := need (bytes.length = (typeOf e).bytes) .length, origin := .sdo x, ents := [(e, valueOf e bytes)] }
        fun v => .seq (noteRefusal p v) (answer v.st))

/-! ### The SDO server of CAN-A -/

/-- An SDO response of eight bytes. -/
def sdoSend (b : List Byte) : Prog := .ask fun s => canSend 0 (0x580 + s.rdN .nodeIdNow 0) ((b ++ List.replicate 8 0).take 8)

def sdoHead (cs idx sub : Nat) : List Byte := leBytes 1 cs ++ leBytes 2 idx ++ leBytes 1 sub

def sdoAbort (idx sub code : Nat) : Prog := sdoSend (sdoHead 0x80 idx sub ++ leBytes 4 code)

/-- The transfer in progress ends, with an abort. -/
def endXfer (x : Nat) : Prog := modCtrl x fun c => { c with xfer := none }
def sdoFail (idx sub code : Nat) : Prog := .seq (endXfer 0) (sdoAbort idx sub code)

/-- A request on the SDO channel. -/
def inSdo (p : Prog) : Prog := live (.ask fun s => when (s.canServe 0) (settled p))

/-- SDO_EXPEDITED_DOWNLOAD: the data and its size, if indicated (R724). -/
def execSdoExpeditedDownload (idx : BitVec 16) (sub : Byte) (size : Option (Fin 4)) (data : BitVec 32) (s : State) :
    Host.Outcome State Fault Refusal :=
  let whole := match lookup idx.toNat sub.toNat with | .ok e => (typeOf e).bytes | .error _ => 4
  let n := match size with | some k => k.val + 1 | none => whole
  done (inSdo (.seq (endXfer 0) (download 0 0 idx.toNat sub.toNat (leBytes n data.toNat)))) s

/-- A refusal of a transfer on the SDO channel ends it (R117). -/
def sdoRefuse (idx sub : Nat) (st : Status) : Prog := .seq (refuse .p3 st idx sub) (sdoFail idx sub st.abort)

/-- The status that ends a transfer of so many bytes before its data is whole: where it exceeds the table behind its object, the first of the
checks that fails for a write of that length (R82, R115, R724). -/
def State.excess (s : State) (idx sub n : Nat) : Option Status :=
  match lookup idx sub with
  | .ok e => if isDomain e && decide (domMax e.name < n) then some (domVerdict s { path := .p3, ent := e, size := n, data := [] }).st else none
  | .error _ => none

/-- A download is initiated, unless its object does not exist or its indicated size exceeds it (R68, R713, R724). -/
def initiate (idx sub : Nat) (size : Option Nat) (k : Prog) : Prog :=
  match lookup idx sub with
  | .error st => sdoRefuse idx sub st
  | .ok e =>
    if notForPath .p3 e then sdoRefuse idx sub .noObject
    else .ask fun s => match s.excess idx sub (size.getD 0) with
      | some st => sdoRefuse idx sub st
      | none => k

/-- SDO_SEGMENTED_DOWNLOAD_INIT. -/
def execSdoSegmentedDownloadInit (idx : BitVec 16) (sub : Byte) (size : Option (BitVec 32)) (s : State) : Host.Outcome State Fault Refusal :=
  let n := size.map (·.toNat)
  done (inSdo (initiate idx.toNat sub.toNat n (.seq
    (modCtrl 0 fun c => { c with xfer := some (.down idx.toNat sub.toNat n [] false) })
    (sdoSend (sdoHead 0x60 idx.toNat sub.toNat))))) s

/-- SDO_DOWNLOAD_SEGMENT of up to seven bytes. -/
def execSdoDownloadSegment (toggle : Bool) (data : List Byte) (last : Bool) (s : State) : Host.Outcome State Fault Refusal :=
  done (inSdo (.ask fun s => match (s.ctrl 0).xfer with
    | some (.down idx sub size got t) =>
      let all' := got ++ data.take 7
      if toggle ≠ t then sdoFail idx sub 0x05030000
      else match s.excess idx sub all'.length with
      | some st => sdoRefuse idx sub st
      | none =>
        if last then
          if size.isSome ∧ size ≠ some all'.length then sdoRefuse idx sub .length
          else .seq (endXfer 0) (download 0 (3 + bit01 t) idx sub all')
        else .seq (modCtrl 0 fun c => { c with xfer := some (.down idx sub size all' (!t)) }) (sdoSend (leBytes 1 (0x20 + 16 * bit01 t)))
    | _ => sdoFail 0 0 0x05040001)) s

/-- What an upload of an entry returns, with the list that it empties by one, or its refusal (R64, R68, R300, R713, R727, R785). -/
def State.uploadOf (s : State) (p : Path) (idx sub : Nat) : Except Status (Ent × List Byte × Nat) :=
  match lookup idx sub with
  | .error st => .error st
  | .ok e =>
    if notForPath p e then .error .noObject
    else if isDomain e then
      if isCalTable e.name && !s.calOwned e.inst then .error .calNoBank
      else
        let b := s.domContent p e
        .ok (e, b, if b = [] then 0 else if isCommand e then 1 else if e.name = .fwdIn then 2 else 0)
    else .ok (e, bytesOf e (s.uploadValue p e), 0)

/-- A completion that has been uploaded whole is read (R727, R785). -/
def popUpload (p : Path) (pop : Nat) : Prog :=
  match pop with
  | 1 => modUnread p.num fun l => l.drop 1
  | 2 => modFwdIn p.num fun l => l.drop 1
  | _ => .nop

/-- An SDO upload is initiated. -/
def uploadInit (idx sub : Nat) : Prog := .ask fun s => match s.uploadOf .p3 idx sub with
  | .error st => sdoRefuse idx sub st
  | .ok (e, b, pop) =>
    if 1 ≤ b.length ∧ b.length ≤ 4 then all
      [ endXfer 0, sdoSend (sdoHead (0x43 + 4 * (4 - b.length)) idx sub ++ b), readEffect e, popUpload .p3 pop ]
    else .seq (modCtrl 0 fun c => { c with xfer := some (.up idx sub b false pop) })
      (sdoSend (sdoHead 0x41 idx sub ++ leBytes 4 b.length))

/-- SDO_UPLOAD_INITIATE. -/
def execSdoUploadInitiate (idx : BitVec 16) (sub : Byte) (s : State) : Host.Outcome State Fault Refusal :=
  done (inSdo (uploadInit idx.toNat sub.toNat)) s

/-- SDO_UPLOAD_SEGMENT. -/
def execSdoUploadSegment (toggle : Bool) (s : State) : Host.Outcome State Fault Refusal :=
  done (inSdo (.ask fun s => match (s.ctrl 0).xfer with
    | some (.up idx sub b t pop) =>
      if toggle ≠ t then sdoFail idx sub 0x05030000
      else
        let n := min 7 b.length
        let c := decide (b.length ≤ 7)
        all [ sdoSend (leBytes 1 (16 * bit01 t + 2 * (7 - n) + bit01 c) ++ b.take n),
              modCtrl 0 (fun r => { r with xfer := if c then none else some (.up idx sub (b.drop 7) (!t) pop) }),
              when c (popUpload .p3 pop) ]
    | _ => sdoFail 0 0 0x05040001)) s

/-- A block size of the server's own choice, 1 to 127 (R725). -/
def withBlockSize (k : Nat → Prog) : Prog := .ask fun s => .seq (.op .free) (k (1 + s.freeBelow 127))

/-- SDO_BLOCK_DOWNLOAD: a frame of the client, by its place in the transfer (R725, CiA 301). -/
def execSdoBlockDownload (frame : List Byte) (s : State) : Host.Outcome State Fault Refusal :=
  let byte (i : Nat) : Nat := (frame.getD i 0).toNat
  done (inSdo (.ask fun s => match (s.ctrl 0).xfer with
    | some (.blockDown idx sub size crc got blk sq false) =>
      let good := byte 0 % 128 = sq + 1
      let got' := if good then got ++ ((frame.drop 1) ++ List.replicate 7 0).take 7 else got
      let sq2 := if good then sq + 1 else sq
      let last := decide (128 ≤ byte 0)
      if last || byte 0 % 128 = blk then withBlockSize fun n => .seq
        (modCtrl 0 fun c => { c with xfer := some (.blockDown idx sub size crc got' n 0 (last && good)) })
        (sdoSend ([0xA2] ++ leBytes 1 sq2 ++ leBytes 1 n))
      else modCtrl 0 fun c => { c with xfer := some (.blockDown idx sub size crc got' blk sq2 false) }
    | some (.blockDown idx sub size crc got _ _ true) =>
      let data := got.take (got.length - bits (byte 0) 2 3)
      if byte 0 % 4 ≠ 1 ∨ byte 0 / 32 ≠ 6 then sdoFail idx sub 0x05040001
      else if crc ∧ (crc16 data).toNat ≠ leNat ((frame.drop 1).take 2) then sdoFail idx sub 0x05040004
      else if size.isSome ∧ size ≠ some data.length then sdoRefuse idx sub .length
      else .seq (endXfer 0) (download 0 1 idx sub data)
    | _ =>
      let idx := leNat ((frame.drop 1).take 2)
      let size := if bitAt (byte 0) 1 then some (leNat ((frame.drop 4).take 4)) else none
      if byte 0 / 32 ≠ 6 ∨ bitAt (byte 0) 0 then sdoFail idx (byte 3) 0x05040001
      else initiate idx (byte 3) size (withBlockSize fun n => .seq
        (modCtrl 0 fun c => { c with xfer := some (.blockDown idx (byte 3) size (bitAt (byte 0) 2) [] n 0 false) })
        (sdoSend (sdoHead 0xA4 idx (byte 3) ++ leBytes 1 n))))) s

/-- The segments of a block from a position. -/
def blockSegments (b : List Byte) (pos blk : Nat) : List (List Byte) :=
  let total := max 1 ((b.length - pos + 6) / 7)
  (List.range (min blk total)).map fun k =>
    leBytes 1 (k + 1 + 128 * bit01 (k + 1 = total)) ++ (b.drop (pos + 7 * k)).take 7

/-- SDO_BLOCK_UPLOAD: a frame of the client (R725, CiA 301). -/
def execSdoBlockUpload (frame : List Byte) (s : State) : Host.Outcome State Fault Refusal :=
  let byte (i : Nat) : Nat := (frame.getD i 0).toNat
  let sizeOk (n : Nat) : Bool := decide (1 ≤ n) && decide (n ≤ 127)
  let xfer (x : Xfer) : Prog := modCtrl 0 fun c => { c with xfer := some x }
  done (inSdo (.ask fun s => match (s.ctrl 0).xfer with
    | some (.blockUp idx sub b crc blk pos phase pop) =>
      match phase, byte 0 with
      | 0, 0xA3 => .seq (xfer (.blockUp idx sub b crc blk pos 1 pop)) (each (blockSegments b pos blk) sdoSend)
      | 1, 0xA2 =>
        let pos' := pos + 7 * byte 1
        if !sizeOk (byte 2) then sdoFail idx sub 0x05040002
        else if b.length ≤ pos' ∧ 1 ≤ byte 1 then
          .seq (xfer (.blockUp idx sub b crc blk pos' 2 pop))
            (sdoSend (leBytes 1 (0xC1 + 4 * (7 * max 1 ((b.length + 6) / 7) - b.length)) ++ (if crc then leBytes 2 (crc16 b).toNat else [])))
        else .seq (xfer (.blockUp idx sub b crc (byte 2) pos' 1 pop)) (each (blockSegments b pos' (byte 2)) sdoSend)
      | 2, 0xA1 => .seq (endXfer 0) (popUpload .p3 pop)
      | _, _ => sdoFail idx sub 0x05040001
    | _ =>
      let idx := leNat ((frame.drop 1).take 2)
      if byte 0 / 32 ≠ 5 ∨ byte 0 % 4 ≠ 0 then sdoFail idx (byte 3) 0x05040001
      else if !sizeOk (byte 4) then sdoFail idx (byte 3) 0x05040002
      else match s.uploadOf .p3 idx (byte 3) with
        | .error st => sdoRefuse idx (byte 3) st
        | .ok (e, b, pop) => all
          [ xfer (.blockUp idx (byte 3) b (bitAt (byte 0) 2) (byte 4) 0 0 pop), readEffect e,
            sdoSend (sdoHead 0xC6 idx (byte 3) ++ leBytes 4 b.length) ])) s

/-- SDO_ABORT_RECEIVED (R84). -/
def execSdoAbortReceived (s : State) : Host.Outcome State Fault Refusal := done (inSdo (endXfer 0)) s

/-- The entry of a transfer. -/
def Xfer.entry : Xfer → Nat × Nat
  | .down i j .. | .up i j .. | .blockDown i j .. | .blockUp i j .. => (i, j)

/-- An abort on a controller's channel. -/
def abortOn (x idx sub code : Nat) : Prog :=
  if x = 0 then sdoAbort idx sub code else .ask fun s => when (s.canUp x) (output (.usdo idx sub code []))

/-- SDO_TIMEOUT (R726). -/
def execSdoTimeout (x : Fin 2) (s : State) : Host.Outcome State Fault Refusal :=
  done (live (.ask fun s => when (s.canServe x) (match (s.ctrl x).xfer with
    | some t => .seq (endXfer x) (abortOn x (Xfer.entry t).1 (Xfer.entry t).2 0x05040000)
    | none => .nop))) s

/-- The response that waits longest is sent. -/
def respond (x : Nat) : Prog := .ask fun s => match (s.ctrl x).replies with
  | [] => .nop
  | r :: rest => .seq (modCtrl x fun c => { c with replies := rest })
    (if r.kind = 2 then when (s.canUp x) (output (.usdo r.index r.sub r.abort []))
     else if r.abort ≠ 0 then sdoAbort r.index r.sub r.abort
     else match r.kind with
      | 0 => sdoSend (sdoHead 0x60 r.index r.sub)
      | 1 => sdoSend [0xA1]
      | 3 => sdoSend [0x20]
      | _ => sdoSend [0x30])

/-- SDO_RESPONSE (R722, R723). -/
def execSdoResponse (x : Fin 2) (s : State) : Host.Outcome State Fault Refusal :=
  done (live (.ask fun s => when (s.canServe x) (respond x))) s

/-! ### The USDO server of CAN-B -/

/-- A unicast request to this node (R728). -/
def inUsdo (dst : Nat) (p : Prog) : Prog := live (.ask fun s => when (s.canServe 1 && dst ≠ 0 && s.rdN .nodeIdNow 1 = dst) (settled p))

/-- USDO_DOWNLOAD: the whole data of a transfer (R724). -/
def execUsdoDownload (dst : Fin 128) (idx : BitVec 16) (sub : Byte) (data : List Byte) (s : State) : Host.Outcome State Fault Refusal :=
  done (inUsdo dst (download 1 2 idx.toNat sub.toNat data)) s

def usdoUpload (idx sub : Nat) : Prog := .ask fun s => match s.uploadOf .p4 idx sub with
  | .error st => .seq (refuse .p4 st idx sub) (output (.usdo idx sub st.abort []))
  | .ok (e, b, pop) => all [ output (.usdo idx sub 0 b), readEffect e, popUpload .p4 pop ]

/-- USDO_UPLOAD (R722). -/
def execUsdoUpload (dst : Fin 128) (idx : BitVec 16) (sub : Byte) (s : State) : Host.Outcome State Fault Refusal :=
  done (inUsdo dst (usdoUpload idx.toNat sub.toNat)) s

/-- An upload on P3 or P4. -/
def uploadOn (x : Nat) (idx sub : Nat) : Prog :=
  if x = 0 then inSdo (uploadInit idx sub) else live (.ask fun s => when (s.canServe 1) (usdoUpload idx sub))

/-- COMMAND_UPLOAD (R727). -/
def execCommandUpload (x : Fin 2) (s : State) : Host.Outcome State Fault Refusal := done (uploadOn x 0x2020 0) s

/-- FWD_IN: an upload on P3 or P4; the other paths read it by DOMAIN_READ (R785). -/
def execFwdIn (p : Path) (s : State) : Host.Outcome State Fault Refusal :=
  done (match p with | .p3 => uploadOn 0 0x5E00 2 | .p4 => uploadOn 1 0x5E00 2 | _ => .nop) s

/-! ### PDOs -/

/-- The mapped entries of a PDO. -/
def State.mapped (s : State) (rx : Bool) (j : Nat) : List Ent :=
  (s.mapWords rx j (s.rdN (mapNames rx).2.1 j)).filterMap (mapTarget rx)

/-- The values of a TPDO, of the mirror (R730). -/
def State.tpdoBytes (s : State) (j : Nat) : List Byte :=
  (s.mapped false j).flatMap fun e => bytesOf e (s.windowRead (canPath (pdoCtrl j)) e)

def State.tpdoLive (s : State) (j : Nat) : Bool :=
  s.canOper (pdoCtrl j) && !pdoInvalid s false j && s.rdN .tpdoMapCount j ≠ 0

/-- A TPDO is sent. -/
def tpdoSend (j : Nat) : Prog := .ask fun s => when (s.tpdoLive j) (.seq
  (canSend (pdoCtrl j) (s.rdN .tpdoCobId j % 2048) (s.tpdoBytes j))
  (modPdo j fun x => { x with sent := some (s.tpdoBytes j), inhibit := decide (s.rdN .tpdoInhibit j ≠ 0), due := false }))

/-- A change of a mapped value sends an event-driven TPDO, or waits for the end of its inhibit time. -/
def tpdoChange (j : Nat) : Prog := .ask fun s =>
  when (s.tpdoLive j && decide (254 ≤ s.rdN .tpdoType j) && (s.pdo j).sent ≠ some (s.tpdoBytes j))
    (if (s.pdo j).inhibit then modPdo j fun x => { x with due := true } else tpdoSend j)

/-- MIRROR_UPDATE: the island that holds an entry pushes it (R101 to R104, R903). -/
def execMirrorUpdate (idx : BitVec 16) (sub : Byte) (s : State) : Host.Outcome State Fault Refusal :=
  done (live (match lookup idx.toNat sub.toNat with
    | .ok e => .seq (.ask fun s => when (!s.fenced islHost) (pushEnt e)) (each (List.range 12) tpdoChange)
    | .error _ => .nop)) s

/-- TPDO_EVENT_TIMER of TPDO k + 1 (R730). -/
def execTpdoEventTimer (k : Fin 12) (s : State) : Host.Outcome State Fault Refusal :=
  done (live (.ask fun s => when (decide (254 ≤ s.rdN .tpdoType k) && s.rdN .tpdoEventTimer k ≠ 0) (tpdoSend k))) s

/-- TPDO_INHIBIT_EXPIRED (R730). -/
def execTpdoInhibitExpired (k : Fin 12) (s : State) : Host.Outcome State Fault Refusal :=
  done (inIsland islNet (.ask fun s => .seq (modPdo k fun x => { x with inhibit := false }) (when (s.pdo k).due (tpdoSend k)))) s

/-- The entries of an RPDO take their values in mapping order, each on its own (R731). -/
def rpdoEnts (k : Nat) : List Ent → List Byte → Prog
  | [], _ => .nop
  | e :: es, b =>
    let p := canPath (pdoCtrl k)
    .seq (submit { path := p, origin := .rpdo k, ents := [(e, valueOf e (b.take (typeOf e).bytes))] }
        fun v => .seq (noteRefusal p v) (when (v.st ≠ .ok) (rpdoRefused k v.st)))
      (rpdoEnts k es (b.drop (typeOf e).bytes))

def rpdoApply (k : Nat) (data : List Byte) : Prog := .ask fun s => rpdoEnts k (s.mapped true k) data

/-- RPDO_RECEIVE of RPDO k + 1 (R731, R732). -/
def execRpdoReceive (k : Fin 12) (data : List Byte) (s : State) : Host.Outcome State Fault Refusal :=
  done (live (.ask fun s => when (s.canOper (pdoCtrl k) && !pdoInvalid s true k && s.rdN .rpdoMapCount k ≠ 0) (settled (
    let n := ((s.mapped true k).map fun e => (typeOf e).bytes).sum
    if data.length < n then .op (.emcy (pdoCtrl k) 0x8210 0 0)
    else .seq
      (if s.rdN .rpdoType k ≤ 240 then modPdo (12 + k) fun x => { x with held := some (data.take n) } else rpdoApply k data)
      (when (decide (n < data.length)) (.op (.emcy (pdoCtrl k) 0x8220 0 0))))))) s

/-- SYNC_RECEIVE on a controller's bus (R730, R731). -/
def execSyncReceive (x : Fin 2) (s : State) : Host.Outcome State Fault Refusal :=
  done (live (.ask fun s => when (s.canOper x) (settled (.seq
    (each (pdosOf x) fun k => .ask fun s => match (s.pdo (12 + k)).held with
      | some d => .seq (modPdo (12 + k) fun r => { r with held := none }) (rpdoApply k d)
      | none => .nop)
    (each (pdosOf x) fun j => .ask fun s =>
      let ty := s.rdN .tpdoType j
      if ty = 0 then when ((s.pdo j).sent ≠ some (s.tpdoBytes j)) (tpdoSend j)
      else when (decide (ty ≤ 240)) (if ty ≤ (s.pdo j).syncs + 1 then .seq (modPdo j fun r => { r with syncs := 0 }) (tpdoSend j)
        else modPdo j fun r => { r with syncs := r.syncs + 1 })))))) s

/-! ### Heartbeat and EMCY -/

/-- HEARTBEAT_PRODUCE (R733). -/
def execHeartbeatProduce (x : Fin 2) (s : State) : Host.Outcome State Fault Refusal :=
  done (live (.ask fun s => when (s.rdN .producerHb ≠ 0) (heartbeat x))) s

/-- HEARTBEAT_RECEIVE of a node (R734): HB_LOST_HALT clears once no lost node is left. -/
def execHeartbeatReceive (x : Fin 2) (node : Fin 128) (s : State) : Host.Outcome State Fault Refusal :=
  done (live (.ask fun s => when (s.canOn x && decide ((x.val, node.val) ∈ s.net.lost)) (.seq
    (modNet fun n => { n with lost := n.lost.filter (· ≠ (x.val, node.val)) })
    (.ask fun s => when (s.net.lost = []) (clearEvent .hbLostHalt 0 islNet))))) s

/-- HEARTBEAT_CONSUMER_TIMEOUT of an entry of [1016] (R734). -/
def execHeartbeatConsumerTimeout (i : Fin 8) (s : State) : Host.Outcome State Fault Refusal :=
  done (live (.ask fun s =>
    let w := s.rdN .consumerHb 0 i
    let x := bits w 24 1
    let node := bits w 16 8
    when (s.canOn x && s.rdN .nodeIdNow x ≠ 0xFF && w % 65536 ≠ 0) (.seq (.op (.emcy x 0x8130 0 0))
      (if s.rdN .hbAction x = 0 then emit .hbLostWarn 0 islNet (pack [(8, x), (8, node)])
       else .seq (modNet fun n => { n with lost := if (x, node) ∈ n.lost then n.lost else n.lost ++ [(x, node)] })
        (emit .hbLostHalt 0 islNet (pack [(8, x), (8, node)])))))) s

/-- The EMCYs that wait are sent: one where an inhibit time runs between them, else all (R735). -/
def emcyFlush (x : Nat) : Prog := .ask fun s =>
  let q := (s.ctrl x).emcyQ
  let n := if s.rdN .emcyInhibit = 0 then q.length else 1
  when (s.canUp x && !(s.ctrl x).emcyHold && q ≠ [] && s.rdN .nmtState x ≠ 4) (.seq
    (each (q.take n) fun f => output (.can x (0x80 + s.rdN .nodeIdNow x) f))
    (modCtrl x fun c => { c with emcyQ := q.drop n, emcyHold := decide (s.rdN .emcyInhibit ≠ 0) }))

/-- EMCY_INHIBIT_EXPIRED (R735). -/
def execEmcyInhibitExpired (x : Fin 2) (s : State) : Host.Outcome State Fault Refusal :=
  done (inIsland islNet (.seq (modCtrl x fun c => { c with emcyHold := false }) (emcyFlush x))) s

/-! ### Error confinement -/

/-- CAN_ERROR_DETECTED: the counters after a bus error, and whether a frame was lost on reception (R711). -/
def execCanErrorDetected (x : Fin 2) (tec rec : BitVec 9) (overrun : Bool) (s : State) : Host.Outcome State Fault Refusal :=
  done (inIsland islNet (.ask fun s =>
    let t := tec.toNat
    let r := rec.toNat
    let old := s.rdN .busState x
    let new := if 256 ≤ t then 2 else if 128 ≤ t ∨ 128 ≤ r then 1 else 0
    when (decide (old ≠ 2)) (all
      [ wrN .errCounters x (min 255 t + 256 * min 255 r), wrN .busState x new,
        when (decide (new = 2)) (.seq (countUp .busOffCount x) (emit .canBusOff 0 islNet (u32 x))),
        when (decide (new = 1 ∧ old = 0)) (emit .canErrorPassive 0 islNet (u32 x)),
        when overrun (emit .canRxOverrun 0 islNet (u32 x)) ]))) s

/-- CAN_BUS_OFF_RECOVERY (R711); the EMCY of CAN_BUS_OFF is sent now. -/
def execCanBusOffRecovery (x : Fin 2) (s : State) : Host.Outcome State Fault Refusal :=
  done (inIsland islNet (.ask fun s => when (s.rdN .busState x = 2) (all
    [ wr .busState x 0, wr .errCounters x 0, emcyFlush x,
      each (List.range 2) fun y => .ask fun s => when (decide (s.rdN .emcyMin y ≤ Severity.code .warn))
        (.op (.emcy y 0x8140 (Event.code .canBusOff) (u32 x))) ]))) s

/-- CAN_BUS_IDLE_RESUME: a controller sends again after a fence of NET (R744, R917). -/
def execCanBusIdleResume (x : Fin 2) (s : State) : Host.Outcome State Fault Refusal :=
  done (inIsland islNet (.ask fun s => when (s.ctrl x).resume (all
    [ modCtrl x (fun c => { c with resume := false, abortDue := none }),
      match (s.ctrl x).abortDue with
      | some (i, j) => abortOn x i j 0x05040000
      | none => .nop,
      heartbeat x, emcyFlush x ]))) s

/-! ### LSS on CAN-A -/

/-- An LSS answer (CiA 305). -/
def lssSend (b : List Byte) : Prog := output (.can 0 0x7E4 ((b ++ List.replicate 8 0).take 8))
def inLss (p : Prog) : Prog := live (.ask fun s => when (s.canOn 0) p)
/-- A service of the configuration state. -/
def inLssConfig (p : Prog) : Prog := inLss (.ask fun s => when (s.ctrl 0).lssConfig p)

/-- A configure service is refused: error code 1 on the wire, RANGE of the entry in LAST_STATUS of P3 (R117). -/
def lssRefuse (n : Name) : Prog :=
  .seq (refuse .p3 .range 0x2D00 (if n = .nodeId then 1 else 3)) (lssSend (leBytes 1 (if n = .nodeId then 0x11 else 0x13) ++ [1]))

def lssWrite (n : Name) (v : Nat) : Prog := .ask fun s =>
  if netValue s n 0 (u32 v) = .ok then .seq (commit { path := .p3 } n 0 0 (u32 v)) (lssSend (leBytes 1 (if n = .nodeId then 0x11 else 0x13)))
  else lssRefuse n

/-- LSS_SWITCH_STATE_GLOBAL to configuration or waiting (R739). -/
def execLssSwitchStateGlobal (config : Bool) (s : State) : Host.Outcome State Fault Refusal :=
  done (inLss (.ask fun s => .seq (modCtrl 0 fun c => { c with lssConfig := config })
    (when (!config && (s.ctrl 0).lssConfig && s.rdN .nodeIdNow 0 = 0xFF && s.rdN .nodeId 0 ≠ 0xFF) (resetComm 0 false)))) s

/-- LSS_SWITCH_STATE_SELECTIVE by vendor, product, revision and serial number. -/
def execLssSwitchStateSelective (vendor product revision serial : BitVec 32) (s : State) : Host.Outcome State Fault Refusal :=
  done (inLss (.ask fun s => when (s.rd .identity 0 0 = vendor && s.rd .identity 0 1 = product && s.rd .identity 0 2 = revision
      && s.rd .identity 0 3 = serial)
    (.seq (modCtrl 0 fun c => { c with lssConfig := true }) (lssSend [0x44])))) s

/-- LSS_CONFIGURE_NODE_ID (R739). -/
def execLssConfigureNodeId (v : Byte) (s : State) : Host.Outcome State Fault Refusal := done (inLssConfig (lssWrite .nodeId v.toNat)) s

/-- LSS_CONFIGURE_BIT_TIMING with a table selector and an index (R738). -/
def execLssConfigureBitTiming (table index : Byte) (s : State) : Host.Outcome State Fault Refusal :=
  done (inLssConfig (if table = 0 then lssWrite .bitrate index.toNat else lssRefuse .bitrate)) s

/-- LSS_ACTIVATE_BIT_TIMING (R739). -/
def execLssActivateBitTiming (s : State) : Host.Outcome State Fault Refusal :=
  done (inLssConfig (modCtrl 0 fun c => { c with switching := true })) s

/-- LSS_SWITCH_DELAY_EXPIRED (R739). -/
def execLssSwitchDelayExpired (s : State) : Host.Outcome State Fault Refusal :=
  done (inIsland islNet (.ask fun s => when (s.ctrl 0).switching
    (modCtrl 0 fun c => { c with switching := false, active := c.active.set 0 (s.rd .bitrate 0) }))) s

/-- LSS_INQUIRE_IDENTITY: vendor, product, revision or serial number. -/
def execLssInquireIdentity (which : Fin 4) (s : State) : Host.Outcome State Fault Refusal :=
  done (inLssConfig (.ask fun s => lssSend (leBytes 1 (0x5A + which) ++ leBytes 4 (s.rdN .identity 0 which)))) s

/-- LSS_INQUIRE_NODE_ID. -/
def execLssInquireNodeId (s : State) : Host.Outcome State Fault Refusal :=
  done (inLssConfig (.ask fun s => lssSend ([0x5E] ++ leBytes 1 (s.rdN .nodeIdNow 0)))) s

/-- LSS_IDENTIFY_REMOTE_SLAVE: vendor and product, and ranges of revision and serial number. -/
def execLssIdentifyRemoteSlave (vendor product revLow revHigh serLow serHigh : BitVec 32) (s : State) : Host.Outcome State Fault Refusal :=
  done (inLss (.ask fun s => when (s.rd .identity 0 0 = vendor && s.rd .identity 0 1 = product
      && decide (revLow.toNat ≤ s.rdN .identity 0 2) && decide (s.rdN .identity 0 2 ≤ revHigh.toNat)
      && decide (serLow.toNat ≤ s.rdN .identity 0 3) && decide (s.rdN .identity 0 3 ≤ serHigh.toNat)) (lssSend [0x4F]))) s

/-- LSS_IDENTIFY_NON_CONFIGURED. -/
def execLssIdentifyNonConfigured (s : State) : Host.Outcome State Fault Refusal :=
  done (inLss (.ask fun s => when (s.rdN .nodeIdNow 0 = 0xFF) (lssSend [0x50]))) s

/-- LSS_FASTSCAN: ID number, bit checked, the part it belongs to and the next part (CiA 305). -/
def execLssFastscan (idNumber : BitVec 32) (bitChecked sub next : Byte) (s : State) : Host.Outcome State Fault Refusal :=
  done (inLss (.ask fun s => when (s.rdN .nodeIdNow 0 = 0xFF && !(s.ctrl 0).lssConfig) (
    let k := bitChecked.toNat
    if k = 128 then .seq (modCtrl 0 fun c => { c with scanPos := 0 }) (lssSend [0x4F])
    else when (decide (k < 32) && decide (sub.toNat ≤ 3) && sub.toNat = (s.ctrl 0).scanPos
        && idNumber.toNat / 2 ^ k = s.rdN .identity 0 sub.toNat / 2 ^ k)
      (.seq (when (k = 0) (modCtrl 0 fun c => if next.toNat < sub.toNat then { c with scanPos := 0, lssConfig := true }
          else { c with scanPos := next.toNat }))
        (lssSend [0x4F]))))) s

/-- LSS_STORE_CONFIGURATION: not supported (R738). -/
def execLssStoreConfiguration (s : State) : Host.Outcome State Fault Refusal := done (inLssConfig (lssSend [0x17, 1])) s

end Sys2Proof.Machine
end

