-- ==== Sys2Proof/Machine/LinkFwd.lean ====
section
/-! DEFINITION. Forwarded requests as their target takes them, and returned completions (*Forwarded dictionary access*). -/
namespace Sys2Proof.Machine

open Prog

/-- A completion of the target that no command channel makes: its device sequence is free while HOST is fenced (R145, R182). -/
def fwdReply (src : Nat) (r : CmdRecord) (st : Status) (unit epoch : Nat) (data : List Byte) : Prog := .ask fun s => all
  [ if s.fenced islHost then .op .free else .op .nextSeq,
    .ask fun s' =>
      let seq := if s.fenced islHost then u32 (Config.free s.fresh) else s'.rep.seq
      sendBurst kFwdRet src 0 0 (completionBytes seq .p5 r st (s'.stamp islHost) (if unit = 0 then 0 else epoch) data),
    .op .free ]

/-- A forwarded record of kind 0 (R166, R182, R783). -/
def fwdRecord (src : Nat) (r : CmdRecord) : Prog := .ask fun s =>
  let turn (st : Status) : Prog := .seq (refuse .p5 st r.index.toNat r.sub.toNat) (fwdReply src r st 0 0 [])
  if src ≠ s.rdN .p5Source then turn .fwdSource
  else arrive .p5 src r fun st => when (st ≠ .ok) (turn st)

/-- A forwarded read of kind 1, answered from the mirror (R182, R784). -/
def fwdMirror (src : Nat) (r : CmdRecord) : Prog := .ask fun s =>
  let r := { r with hostSeq := 0 }
  match lookup r.index.toNat r.sub.toNat with
  | .error st => .seq (refuse .p5 st r.index.toNat r.sub.toNat) (fwdReply src r st 0 0 [])
  | .ok e => .seq (fwdReply src r .ok (e.unit.getD 0) (s.shownEpoch (e.unit.getD 0) true) (leBytes 4 (s.uploadValue .p5 e).toNat)) (readEffect e)

/-- FWD_BURST_RECEIVE on a port (R762, R782 to R784, R786). -/
def execFwdBurstReceive (port : Fin 2) (bytes : List Byte) (s : State) : Host.Outcome State Fault Refusal :=
  done (settled (receive port bytes fun b =>
    let r := parseRecord (b.payload.drop 4)
    if b.void then fwdReply b.src r .linkLost 0 0 []
    else if (b.payload.getD 1 0).toNat = 0 then fwdRecord b.src r else fwdMirror b.src r)) s

/-- A completion with the status LINK_LOST, from what a VOID burst carries of it (R786). -/
def lostCompletion (b : List Byte) : List Byte :=
  ((b ++ List.replicate 64 0).take 6 ++ leBytes 1 Status.linkLost.code ++ ((b ++ List.replicate 64 0).drop 7).take 12 ++ [(0 : Byte)]
    ++ ((b ++ List.replicate 64 0).drop 20).take 4 ++ List.replicate 40 0).take 64

/-- FWD_RET_BURST_RECEIVE on a port: the completion goes to the path whose request to that member has waited longest (R785). The target took
nothing where it answers LINK_LOST or FWD_SOURCE, and the sequence is used again; what a VOID burst answers for was taken (R783, R786). -/
def execFwdRetBurstReceive (port : Fin 2) (bytes : List Byte) (s : State) : Host.Outcome State Fault Refusal :=
  done (receive port bytes fun b => .ask fun s => match s.link.fwdPend.find? fun x => x.1 = b.src with
    | none => .nop
    | some x =>
      let c := if b.void then lostCompletion b.payload else (b.payload ++ List.replicate 64 0).take 64
      let st := (c.getD 6 0).toNat
      .seq (modLink fun l => { l with
          fwdPend := l.fwdPend.erase x,
          fwdSeq := if x.2.1 = 0 && !b.void && decide (st = Status.linkLost.code ∨ st = Status.fwdSource.code)
            then Store.put 0 l.fwdSeq b.src x.2.2.2 else l.fwdSeq })
        (modFwdIn x.2.2.1.num fun l => l ++ [c])) s

end Sys2Proof.Machine
end

