-- ==== Sys2Proof/Machine/Dispatch.lean ====
section
/-! DEFINITION. The dispatch of a command to its meaning, one arm per constructor. -/
namespace Sys2Proof.Machine

/-- What a command does to everything but the queue. -/
def exec (i : Instr) (s : State) : Host.Outcome State Fault Refusal :=
  match i with
  | .dictionaryWrite p idx sub v enables => Sys2Proof.Machine.execDictionaryWrite p idx sub v enables s
  | .levelKeyWrite p v => Sys2Proof.Machine.execLevelKeyWrite p v s
  | .claimTake p u v => Sys2Proof.Machine.execClaimTake p u v s
  | .claimRelease p u => Sys2Proof.Machine.execClaimRelease p u s
  | .claimBroken p u => Sys2Proof.Machine.execClaimBroken p u s
  | .restoreDefaults p v => Sys2Proof.Machine.execRestoreDefaults p v s
  | .mirrorUpdate idx sub => Sys2Proof.Machine.execMirrorUpdate idx sub s
  | .stateDigestUpdate g => Sys2Proof.Machine.execStateDigestUpdate g s
  | .modeReqPrepare p => Sys2Proof.Machine.execModeReqPrepare p s
  | .modeReqCalibrate p => Sys2Proof.Machine.execModeReqCalibrate p s
  | .modeReqScan p => Sys2Proof.Machine.execModeReqScan p s
  | .modeReqPark p => Sys2Proof.Machine.execModeReqPark p s
  | .nop p r => Sys2Proof.Machine.execNop p r s
  | .read p r => Sys2Proof.Machine.execRead p r s
  | .write p r => Sys2Proof.Machine.execWrite p r s
  | .domainWrite p r => Sys2Proof.Machine.execDomainWrite p r s
  | .domainRead p r => Sys2Proof.Machine.execDomainRead p r s
  | .journalRead p r => Sys2Proof.Machine.execJournalRead p r s
  | .commandBadOpcode p r => Sys2Proof.Machine.execCommandBadOpcode p r s
  | .fenceRequest p isl => Sys2Proof.Machine.execFenceRequest p isl s
  | .readmitRequest p isl => Sys2Proof.Machine.execReadmitRequest p isl s
  | .fenceTakesEffect isl => Sys2Proof.Machine.execFenceTakesEffect isl s
  | .islandPllLost isl => Sys2Proof.Machine.execIslandPllLost isl s
  | .handshakeTimeout sender receiver req => Sys2Proof.Machine.execHandshakeTimeout sender receiver req s
  | .islandPllLock isl => Sys2Proof.Machine.execIslandPllLock isl s
  | .readmitLockTimeout isl => Sys2Proof.Machine.execReadmitLockTimeout isl s
  | .syncAttemptEnd isl samples => Sys2Proof.Machine.execSyncAttemptEnd isl samples s
  | .readmissionPoint isl => Sys2Proof.Machine.execReadmissionPoint isl s
  | .rulingPositionArrival h frac => Sys2Proof.Machine.execRulingPositionArrival h frac s
  | .headEnable p h => Sys2Proof.Machine.execHeadEnable p h s
  | .headDisable p h => Sys2Proof.Machine.execHeadDisable p h s
  | .hostTrig p h => Sys2Proof.Machine.execHostTrig p h s
  | .lineTrigger h src => Sys2Proof.Machine.execLineTrigger h src s
  | .lineEnd h => Sys2Proof.Machine.execLineEnd h s
  | .exposureWindowOpen h c => Sys2Proof.Machine.execExposureWindowOpen h c s
  | .exposureWindowClose h c => Sys2Proof.Machine.execExposureWindowClose h c s
  | .lineDurUpdate h => Sys2Proof.Machine.execLineDurUpdate h s
  | .adcSample n clk levels direct err werr => Sys2Proof.Machine.execAdcSample n clk levels direct err werr s
  | .lanePixelWord h l word => Sys2Proof.Machine.execLanePixelWord h l word s
  | .laneStartOfLine h words skews => Sys2Proof.Machine.execLaneStartOfLine h words skews s
  | .laneEndOfLine h words => Sys2Proof.Machine.execLaneEndOfLine h words s
  | .laneIdleSequence h l words => Sys2Proof.Machine.execLaneIdleSequence h l words s
  | .laneUnlistedCode h l words => Sys2Proof.Machine.execLaneUnlistedCode h l words s
  | .laneAlignmentLost h l => Sys2Proof.Machine.execLaneAlignmentLost h l s
  | .lineRecordEmit h => Sys2Proof.Machine.execLineRecordEmit h s
  | .seamDataArrival h => Sys2Proof.Machine.execSeamDataArrival h s
  | .seamWaitExpired h => Sys2Proof.Machine.execSeamWaitExpired h s
  | .calDark p h => Sys2Proof.Machine.execCalDark p h s
  | .calWhite p h => Sys2Proof.Machine.execCalWhite p h s
  | .calCompute p h => Sys2Proof.Machine.execCalCompute p h s
  | .calCaptureDone h => Sys2Proof.Machine.execCalCaptureDone h s
  | .calComputeDone h => Sys2Proof.Machine.execCalComputeDone h s
  | .temperatureArrivalLine e => Sys2Proof.Machine.execTemperatureArrivalLine e s
  | .tempAgeExpired h => Sys2Proof.Machine.execTempAgeExpired h s
  | .coverInputChange h high => Sys2Proof.Machine.execCoverInputChange h high s
  | .coverDebounceExpired h => Sys2Proof.Machine.execCoverDebounceExpired h s
  | .axisEnable p a => Sys2Proof.Machine.execAxisEnable p a s
  | .axisDisable p a => Sys2Proof.Machine.execAxisDisable p a s
  | .moveAbs p a => Sys2Proof.Machine.execMoveAbs p a s
  | .moveRel p a => Sys2Proof.Machine.execMoveRel p a s
  | .moveVelPos p a => Sys2Proof.Machine.execMoveVelPos p a s
  | .moveVelNeg p a => Sys2Proof.Machine.execMoveVelNeg p a s
  | .moveStop p a => Sys2Proof.Machine.execMoveStop p a s
  | .moveHalt p a => Sys2Proof.Machine.execMoveHalt p a s
  | .moveHome p a => Sys2Proof.Machine.execMoveHome p a s
  | .retarget p a v => Sys2Proof.Machine.execRetarget p a v s
  | .posSet p a v => Sys2Proof.Machine.execPosSet p a v s
  | .axisFaultClr p a => Sys2Proof.Machine.execAxisFaultClr p a s
  | .encEnWrite p a on => Sys2Proof.Machine.execEncEnWrite p a on s
  | .planningCycle sense => Sys2Proof.Machine.execPlanningCycle sense s
  | .targetReached a => Sys2Proof.Machine.execTargetReached a s
  | .stopComplete a => Sys2Proof.Machine.execStopComplete a s
  | .encoderTransition ax a b => Sys2Proof.Machine.execEncoderTransition ax a b s
  | .encoderIndex a => Sys2Proof.Machine.execEncoderIndex a s
  | .homeSwitchEdge a low => Sys2Proof.Machine.execHomeSwitchEdge a low s
  | .holdDelayExpired a => Sys2Proof.Machine.execHoldDelayExpired a s
  | .coilOpen a coil samples => Sys2Proof.Machine.execCoilOpen a coil samples s
  | .overcurrent a coil samples => Sys2Proof.Machine.execOvercurrent a coil samples s
  | .stall a => Sys2Proof.Machine.execStall a s
  | .freeSpaceArrival k => Sys2Proof.Machine.execFreeSpaceArrival k s
  | .lineDurationArrival h => Sys2Proof.Machine.execLineDurationArrival h s
  | .stringOn p k => Sys2Proof.Machine.execStringOn p k s
  | .stringOffFade p k => Sys2Proof.Machine.execStringOffFade p k s
  | .stringOffNow p k => Sys2Proof.Machine.execStringOffNow p k s
  | .stringFaultClr p k => Sys2Proof.Machine.execStringFaultClr p k s
  | .dimmingPeriodStart k vsns requests => Sys2Proof.Machine.execDimmingPeriodStart k vsns requests s
  | .softStartDone k => Sys2Proof.Machine.execSoftStartDone k s
  | .stringShortSs k vsns cs => Sys2Proof.Machine.execStringShortSs k vsns cs s
  | .stringOvercurrent k cs => Sys2Proof.Machine.execStringOvercurrent k cs s
  | .stringOpen k vsns => Sys2Proof.Machine.execStringOpen k vsns s
  | .lampOpen k vsns => Sys2Proof.Machine.execLampOpen k vsns s
  | .lampLocateDone k vsns => Sys2Proof.Machine.execLampLocateDone k vsns s
  | .lampShort k vsns => Sys2Proof.Machine.execLampShort k vsns s
  | .lampCheck k before after => Sys2Proof.Machine.execLampCheck k before after s
  | .baselineLearnEnd k vsns => Sys2Proof.Machine.execBaselineLearnEnd k vsns s
  | .stringTemperatureArrival e => Sys2Proof.Machine.execStringTemperatureArrival e s
  | .stringTempStale k => Sys2Proof.Machine.execStringTempStale k s
  | .heathEnable p => Sys2Proof.Machine.execHeathEnable p s
  | .heathDisable p => Sys2Proof.Machine.execHeathDisable p s
  | .heathRoutingDone k => Sys2Proof.Machine.execHeathRoutingDone k s
  | .heathConversionEnd k code code2 quad e1 e2 source => Sys2Proof.Machine.execHeathConversionEnd k code code2 quad e1 e2 source s
  | .heathResultDelivery k => Sys2Proof.Machine.execHeathResultDelivery k s
  | .urgent p v => Sys2Proof.Machine.execUrgent p v s
  | .plausClr p v => Sys2Proof.Machine.execPlausClr p v s
  | .mainsZeroCrossing period => Sys2Proof.Machine.execMainsZeroCrossing period s
  | .timerStart p c => Sys2Proof.Machine.execTimerStart p c s
  | .timerStop p c => Sys2Proof.Machine.execTimerStop p c s
  | .timerRollover c => Sys2Proof.Machine.execTimerRollover c s
  | .timerMatch c isB => Sys2Proof.Machine.execTimerMatch c isB s
  | .compareWrite p c useB high v => Sys2Proof.Machine.execCompareWrite p c useB high v s
  | .periodWrite p c high v => Sys2Proof.Machine.execPeriodWrite p c high v s
  | .slaveEdge c level held => Sys2Proof.Machine.execSlaveEdge c level held s
  | .captureEdge c rising ago => Sys2Proof.Machine.execCaptureEdge c rising ago s
  | .bankOwnerWrite p b v => Sys2Proof.Machine.execBankOwnerWrite p b v s
  | .bankPowerOff p b => Sys2Proof.Machine.execBankPowerOff p b s
  | .bankFallow p b => Sys2Proof.Machine.execBankFallow p b s
  | .bankPowerOn p b => Sys2Proof.Machine.execBankPowerOn p b s
  | .bankPowerUpDone b => Sys2Proof.Machine.execBankPowerUpDone b s
  | .bankRetentionExit b => Sys2Proof.Machine.execBankRetentionExit b s
  | .bankDrainDone b => Sys2Proof.Machine.execBankDrainDone b s
  | .bankBlotDone b => Sys2Proof.Machine.execBankBlotDone b s
  | .bankAccessRead m addr n ce ue => Sys2Proof.Machine.execBankAccessRead m addr n ce ue s
  | .bankAccessWrite m addr data ce ue => Sys2Proof.Machine.execBankAccessWrite m addr data ce ue s
  | .rowTestDone failed => Sys2Proof.Machine.execRowTestDone failed s
  | .keyLoad p data => Sys2Proof.Machine.execKeyLoad p data s
  | .wipe p v => Sys2Proof.Machine.execWipe p v s
  | .lcAdvance p v => Sys2Proof.Machine.execLcAdvance p v s
  | .tamperDetected conds dip => Sys2Proof.Machine.execTamperDetected conds dip s
  | .tamperClr p v => Sys2Proof.Machine.execTamperClr p v s
  | .cmdRingEnable p => Sys2Proof.Machine.execCmdRingEnable p s
  | .cmdRingDisable p => Sys2Proof.Machine.execCmdRingDisable p s
  | .cmdTailWrite p v => Sys2Proof.Machine.execCmdTailWrite p v s
  | .cplTailWrite p v => Sys2Proof.Machine.execCplTailWrite p v s
  | .commandFetchComplete bytes => Sys2Proof.Machine.execCommandFetchComplete bytes s
  | .pcieLinkLoss cause => Sys2Proof.Machine.execPcieLinkLoss cause s
  | .pcieRequestRefused poisoned => Sys2Proof.Machine.execPcieRequestRefused poisoned s
  | .msixHoldoffExpired v => Sys2Proof.Machine.execMsixHoldoffExpired v s
  | .streamEnable p k => Sys2Proof.Machine.execStreamEnable p k s
  | .streamDisable p k => Sys2Proof.Machine.execStreamDisable p k s
  | .rdPtrWrite p k v => Sys2Proof.Machine.execRdPtrWrite p k v s
  | .streamBufferConfig p k part v => Sys2Proof.Machine.execStreamBufferConfig p k part v s
  | .streamRecordArrival k => Sys2Proof.Machine.execStreamRecordArrival k s
  | .streamRecordWritten k => Sys2Proof.Machine.execStreamRecordWritten k s
  | .stageTransfer k => Sys2Proof.Machine.execStageTransfer k s
  | .streamIrqTimeout k => Sys2Proof.Machine.execStreamIrqTimeout k s
  | .parRead a => Sys2Proof.Machine.execParRead a s
  | .parWriteLowerHalf a d => Sys2Proof.Machine.execParWriteLowerHalf a d s
  | .parWriteUpperHalf a d => Sys2Proof.Machine.execParWriteUpperHalf a d s
  | .parFifoWrite d => Sys2Proof.Machine.execParFifoWrite d s
  | .commandFifoRead port => Sys2Proof.Machine.execCommandFifoRead port s
  | .parErrRead p => Sys2Proof.Machine.execParErrRead p s
  | .fifoResetWrite p port v => Sys2Proof.Machine.execFifoResetWrite p port v s
  | .postedQueueDispatch port => Sys2Proof.Machine.execPostedQueueDispatch port s
  | .qspiRead addr n => Sys2Proof.Machine.execQspiRead addr n s
  | .qspiReadQuad addr n => Sys2Proof.Machine.execQspiReadQuad addr n s
  | .qspiWrite addr words cut => Sys2Proof.Machine.execQspiWrite addr words cut s
  | .qspiWriteQuad addr words cut => Sys2Proof.Machine.execQspiWriteQuad addr words cut s
  | .qspiReadStatus n => Sys2Proof.Machine.execQspiReadStatus n s
  | .qspiBadInstruction code => Sys2Proof.Machine.execQspiBadInstruction code s
  | .qspiErrRead p => Sys2Proof.Machine.execQspiErrRead p s
  | .nmtStart x node => Sys2Proof.Machine.execNmtStart x node s
  | .nmtStop x node => Sys2Proof.Machine.execNmtStop x node s
  | .nmtEnterPreoperational x node => Sys2Proof.Machine.execNmtEnterPreoperational x node s
  | .nmtResetCommunication x node => Sys2Proof.Machine.execNmtResetCommunication x node s
  | .nmtResetNode x node => Sys2Proof.Machine.execNmtResetNode x node s
  | .sdoExpeditedDownload idx sub size data => Sys2Proof.Machine.execSdoExpeditedDownload idx sub size data s
  | .sdoSegmentedDownloadInit idx sub size => Sys2Proof.Machine.execSdoSegmentedDownloadInit idx sub size s
  | .sdoDownloadSegment toggle data last => Sys2Proof.Machine.execSdoDownloadSegment toggle data last s
  | .sdoUploadInitiate idx sub => Sys2Proof.Machine.execSdoUploadInitiate idx sub s
  | .sdoUploadSegment toggle => Sys2Proof.Machine.execSdoUploadSegment toggle s
  | .sdoBlockDownload frame => Sys2Proof.Machine.execSdoBlockDownload frame s
  | .sdoBlockUpload frame => Sys2Proof.Machine.execSdoBlockUpload frame s
  | .sdoTimeout x => Sys2Proof.Machine.execSdoTimeout x s
  | .sdoResponse x => Sys2Proof.Machine.execSdoResponse x s
  | .usdoDownload dst idx sub data => Sys2Proof.Machine.execUsdoDownload dst idx sub data s
  | .usdoUpload dst idx sub => Sys2Proof.Machine.execUsdoUpload dst idx sub s
  | .commandUpload x => Sys2Proof.Machine.execCommandUpload x s
  | .rpdoReceive k data => Sys2Proof.Machine.execRpdoReceive k data s
  | .syncReceive x => Sys2Proof.Machine.execSyncReceive x s
  | .tpdoEventTimer k => Sys2Proof.Machine.execTpdoEventTimer k s
  | .tpdoInhibitExpired k => Sys2Proof.Machine.execTpdoInhibitExpired k s
  | .heartbeatProduce x => Sys2Proof.Machine.execHeartbeatProduce x s
  | .heartbeatReceive x node => Sys2Proof.Machine.execHeartbeatReceive x node s
  | .heartbeatConsumerTimeout isl => Sys2Proof.Machine.execHeartbeatConsumerTimeout isl s
  | .emcyInhibitExpired x => Sys2Proof.Machine.execEmcyInhibitExpired x s
  | .canErrorDetected x tec rec overrun => Sys2Proof.Machine.execCanErrorDetected x tec rec overrun s
  | .canBusOffRecovery x => Sys2Proof.Machine.execCanBusOffRecovery x s
  | .nodeIdWrite p x v => Sys2Proof.Machine.execNodeIdWrite p x v s
  | .errorFieldClear p => Sys2Proof.Machine.execErrorFieldClear p s
  | .lssSwitchStateGlobal config => Sys2Proof.Machine.execLssSwitchStateGlobal config s
  | .lssSwitchStateSelective vendor product revision serial => Sys2Proof.Machine.execLssSwitchStateSelective vendor product revision serial s
  | .lssConfigureNodeId v => Sys2Proof.Machine.execLssConfigureNodeId v s
  | .lssConfigureBitTiming table index => Sys2Proof.Machine.execLssConfigureBitTiming table index s
  | .lssInquireIdentity which => Sys2Proof.Machine.execLssInquireIdentity which s
  | .lssIdentifyRemoteSlave vendor product revLow revHigh serLow serHigh => Sys2Proof.Machine.execLssIdentifyRemoteSlave vendor product revLow revHigh serLow serHigh s
  | .lssFastscan idNumber bitChecked sub next => Sys2Proof.Machine.execLssFastscan idNumber bitChecked sub next s
  | .enumReq p => Sys2Proof.Machine.execEnumReq p s
  | .linkPortUp port => Sys2Proof.Machine.execLinkPortUp port s
  | .linkPortDown port locked => Sys2Proof.Machine.execLinkPortDown port locked s
  | .enumFrameReceive v => Sys2Proof.Machine.execEnumFrameReceive v s
  | .ringSizeBroadcast size => Sys2Proof.Machine.execRingSizeBroadcast size s
  | .lineBurstReceive port bytes => Sys2Proof.Machine.execLineBurstReceive port bytes s
  | .seamBurstReceive port bytes => Sys2Proof.Machine.execSeamBurstReceive port bytes s
  | .fwdBurstReceive port bytes => Sys2Proof.Machine.execFwdBurstReceive port bytes s
  | .fwdRetBurstReceive port bytes => Sys2Proof.Machine.execFwdRetBurstReceive port bytes s
  | .ctrlBurstReceive port src seq void m n => Sys2Proof.Machine.execCtrlBurstReceive port src seq void m n s
  | .throughBurst dir bytes => Sys2Proof.Machine.execThroughBurst dir bytes s
  | .ackReceive dst seq => Sys2Proof.Machine.execAckReceive dst seq s
  | .nakReceive dst seq => Sys2Proof.Machine.execNakReceive dst seq s
  | .ackTimeout dst => Sys2Proof.Machine.execAckTimeout dst s
  | .alignFrameReceive port trip turn ring arrival fromRoot => Sys2Proof.Machine.execAlignFrameReceive port trip turn ring arrival fromRoot s
  | .ringUnwrap port => Sys2Proof.Machine.execRingUnwrap port s
  | .fwdOut p data => Sys2Proof.Machine.execFwdOut p data s
  | .fwdIn p => Sys2Proof.Machine.execFwdIn p s
  | .memberOutSet p => Sys2Proof.Machine.execMemberOutSet p s
  | .admissionGrant m => Sys2Proof.Machine.execAdmissionGrant m s
  | .collectorFreeBroadcast v => Sys2Proof.Machine.execCollectorFreeBroadcast v s
  | .powerReqWrite p v => Sys2Proof.Machine.execPowerReqWrite p v s
  | .onDelayExpired r => Sys2Proof.Machine.execOnDelayExpired r s
  | .railGood r pg => Sys2Proof.Machine.execRailGood r pg s
  | .pgTimeoutExpired r pg => Sys2Proof.Machine.execPgTimeoutExpired r pg s
  | .dischargeExpired r => Sys2Proof.Machine.execDischargeExpired r s
  | .railDischarged r pg => Sys2Proof.Machine.execRailDischarged r pg s
  | .offTimeoutExpired r pg => Sys2Proof.Machine.execOffTimeoutExpired r pg s
  | .railLost r pg => Sys2Proof.Machine.execRailLost r pg s
  | .dirtyClr p => Sys2Proof.Machine.execDirtyClr p s
  | .deviceResetWrite p v => Sys2Proof.Machine.execDeviceResetWrite p v s
  | .bootRailLost r pg => Sys2Proof.Machine.execBootRailLost r pg s
  | .aonPowerOn seqBoot => Sys2Proof.Machine.execAonPowerOn seqBoot s
  | .resetRelease parStyle linkRoot monitors refClk resetN => Sys2Proof.Machine.execResetRelease parStyle linkRoot monitors refClk resetN s
  | .tjSample t => Sys2Proof.Machine.execTjSample t s
  | .bar0WindowRead dword n first last => Sys2Proof.Machine.execBar0WindowRead dword n first last s
  | .pcieLinkUp speed width busMaster payload read => Sys2Proof.Machine.execPcieLinkUp speed width busMaster payload read s
  | .canBusIdleResume x => Sys2Proof.Machine.execCanBusIdleResume x s
  | .neighbourLinkAbsent m linkFenced => Sys2Proof.Machine.execNeighbourLinkAbsent m linkFenced s
  | .modeRequestTakeUp => Sys2Proof.Machine.execModeRequestTakeUp s
  | .modeTransitionDone => Sys2Proof.Machine.execModeTransitionDone s
  | .parkEntry => Sys2Proof.Machine.execParkEntry s
  | .tbHoldover => Sys2Proof.Machine.execTbHoldover s
  | .holdoverExit => Sys2Proof.Machine.execHoldoverExit s
  | .scanPeriodTick => Sys2Proof.Machine.execScanPeriodTick s
  | .rowTestStart => Sys2Proof.Machine.execRowTestStart s
  | .keySlotWiped => Sys2Proof.Machine.execKeySlotWiped s
  | .secureWipeDone => Sys2Proof.Machine.execSecureWipeDone s
  | .lcFusesBlown => Sys2Proof.Machine.execLcFusesBlown s
  | .commandFetch => Sys2Proof.Machine.execCommandFetch s
  | .commandFetchError => Sys2Proof.Machine.execCommandFetchError s
  | .qspiPortReset => Sys2Proof.Machine.execQspiPortReset s
  | .sdoAbortReceived => Sys2Proof.Machine.execSdoAbortReceived s
  | .lssActivateBitTiming => Sys2Proof.Machine.execLssActivateBitTiming s
  | .lssSwitchDelayExpired => Sys2Proof.Machine.execLssSwitchDelayExpired s
  | .lssInquireNodeId => Sys2Proof.Machine.execLssInquireNodeId s
  | .lssIdentifyNonConfigured => Sys2Proof.Machine.execLssIdentifyNonConfigured s
  | .lssStoreConfiguration => Sys2Proof.Machine.execLssStoreConfiguration s
  | .enumTimeout => Sys2Proof.Machine.execEnumTimeout s
  | .ackSendTimer => Sys2Proof.Machine.execAckSendTimer s
  | .alignExchangeTick => Sys2Proof.Machine.execAlignExchangeTick s
  | .rootAlignAbsent => Sys2Proof.Machine.execRootAlignAbsent s
  | .alignLostTimeout => Sys2Proof.Machine.execAlignLostTimeout s
  | .admissionRequest => Sys2Proof.Machine.execAdmissionRequest s
  | .joiningTimeout => Sys2Proof.Machine.execJoiningTimeout s
  | .collectorFreeTimeout => Sys2Proof.Machine.execCollectorFreeTimeout s
  | .collapseStep => Sys2Proof.Machine.execCollapseStep s
  | .resetNAsserted => Sys2Proof.Machine.execResetNAsserted s
  | .supplyLow => Sys2Proof.Machine.execSupplyLow s
  | .aonPowerFail => Sys2Proof.Machine.execAonPowerFail s
  | .bootRailTimeout => Sys2Proof.Machine.execBootRailTimeout s
  | .bootRetryDelay => Sys2Proof.Machine.execBootRetryDelay s
  | .startUpComplete => Sys2Proof.Machine.execStartUpComplete s
  | .lowVoltageCheckArmed => Sys2Proof.Machine.execLowVoltageCheckArmed s

end Sys2Proof.Machine
end

