-- ==== Sys2Proof/Machine/Idle.lean ====
section
/-! DEFINITION. What a step does where no command waits. -/
namespace Sys2Proof.Machine

/-- The time base goes on by one period of the 400 MHz island clock, 10 counts of 250 ps (R171); everything else that time
brings about is a command of the table (DESIGN CHOICE, log 2). -/
def idle (s : State) : Host.Outcome State Fault Refusal := Prog.done (.op (.advance 10)) s

end Sys2Proof.Machine
end

