-- ==== Sys2Proof/Safety.lean ====
section
/-! DEFINITION. The terms in which statements about the X9 are made: a command that completes with an effect, a write that the checks
of R115 let through, what an effect leaves alone, and the invariant of the state. -/
namespace Sys2Proof.Machine

/-- The command answers a next state that has the property. -/
def Answers (c : Instr) (s : State) (P : State → Prop) : Prop := ∃ t, exec c s = .next t ∧ P t

/-- The X9 is in service and the island is not fenced. -/
abbrev Running (s : State) (isl : Nat) : Prop := s.live = true ∧ s.fenced isl = false

/-- No command record waits behind another one. -/
abbrev NoHeld (s : State) : Prop := (s.cmd 3).held = [] ∧ (s.cmd 4).held = [] ∧ (s.cmd 5).held = []

/-- A write of `w` to `e` from `p` reaches the dictionary and passes every check of R115, and no record waits behind a mode request. -/
structure Takes (s : State) (p : Path) (e : Ent) (w : U32) : Prop where
  live : s.live = true
  up : pathUp s p = true
  ok : (verdict s { path := p, ents := [(e, w)] }).st = .ok
  held3 : (s.cmd 3).held = []
  held4 : (s.cmd 4).held = []
  held5 : (s.cmd 5).held = []

/-- A write of `w` to `e` from `p` reaches the dictionary and is refused by the checks of R115. -/
structure Refuses (s : State) (p : Path) (e : Ent) (w : U32) (st : Status) : Prop where
  live : s.live = true
  up : pathUp s p = true
  bad : (verdict s { path := p, ents := [(e, w)] }).st = st
  notOk : st ≠ .ok
  held3 : (s.cmd 3).held = []
  held4 : (s.cmd 4).held = []
  held5 : (s.cmd 5).held = []

/-! ### Command records -/

/-- A record from the path executes at once: the X9 is in service, HOST not fenced, nothing of the path waits, and fewer than 16
completions are unread or, on P5, not yet on the Link; on P0 a fetch is outstanding, and the posted queues of P1 and P2 are empty. P6 has no channel of commands. -/
def ReadyFor (s : State) (p : Path) : Prop :=
  s.live = true ∧ s.fenced islHost = false ∧ (s.cmd p.num).running = false ∧ NoHeld s ∧ p ≠ .p6 ∧ s.unreadNow p < 16
  ∧ (p = .p0 → s.ring.fetching = true) ∧ (p = .p1 → (s.port 1).waiting = none ∧ (s.port 1).queue = []) ∧ (p = .p2 → (s.port 2).queue = [])

/-- The 64 bytes of a completion of a record in a state that numbers it: its device sequence, HOST_SEQ, status, path, opcode, and the
length and bytes of its data (completion record table). -/
def isCompletion (t : State) (p : Path) (r : CmdRecord) (st : Status) (data : List Byte) (c : List Byte) : Bool :=
  c.length = 64 && leNat (c.take 4) = t.rep.seq.toNat && leNat ((c.drop 4).take 2) = r.hostSeq.toNat
    && (c.getD 6 0).toNat = st.code && (c.getD 7 0).toNat = p.num && c.getD 18 0 = r.opcode && (c.getD 19 0).toNat = data.length
    && leNat ((c.drop 20).take 2) = r.index.toNat && c.getD 22 0 = r.sub && (c.drop 24).take data.length = data

/-- A record of a path has completed with a status and data: on P1 to P4 its completion is the newest unread one, on P0 it is written to
the host's ring where the X9 may write there. -/
def Completed (s t : State) (p : Path) (r : CmdRecord) (st : Status) (data : List Byte) : Prop :=
  (t.cmd p.num).running = false
  ∧ (p ∈ [Path.p1, .p2, .p3, .p4] → (t.unread p.num).length = (s.unread p.num).length + 1
    ∧ (t.unread p.num).take (s.unread p.num).length = s.unread p.num
    ∧ ∀ c, (t.unread p.num).getLast? = some c → isCompletion t p r st data c = true)
  ∧ (p = .p0 → s.canInitiate = true → t.rdN .cplHead = (s.rdN .cplHead + 1) % 65536
    ∧ (t.out.any fun o => match o with
      | .hostWrite a c => a = s.host64 .cplBase + 64 * (s.rdN .cplHead % 2 ^ s.rdN .cmdLog2) && isCompletion t p r st data c
      | _ => false) = true)

/-! ### Frames -/

/-- The parts of the state beside the entries of the dictionary. -/
inductive Part where
  | mirror | mem | phase | modes | islands | vectors | heads | chans | pairs | watch
  | lanes | lineUnits | calTime | axes | pace | strings | convs | heath | timers | banks
  | rowTest | secure | retireds | cmds | ring | digests | streams | ports | ctrls | pdos
  | net | link | unreads | fwdIns | rails | seqr | time | rep | out | pending
  | fresh | tap
deriving DecidableEq, Repr

/-- A part is the same in two states. -/
def Part.same (x : Part) (s t : State) : Prop :=
  match x with
  | .mirror => t.mirror = s.mirror
  | .mem => t.mem = s.mem
  | .phase => t.phase = s.phase
  | .modes => t.modes = s.modes
  | .islands => t.islands = s.islands
  | .vectors => t.vectors = s.vectors
  | .heads => t.heads = s.heads
  | .chans => t.chans = s.chans
  | .pairs => t.pairs = s.pairs
  | .watch => t.watch = s.watch
  | .lanes => t.lanes = s.lanes
  | .lineUnits => t.lineUnits = s.lineUnits
  | .calTime => t.calTime = s.calTime
  | .axes => t.axes = s.axes
  | .pace => t.pace = s.pace
  | .strings => t.strings = s.strings
  | .convs => t.convs = s.convs
  | .heath => t.heath = s.heath
  | .timers => t.timers = s.timers
  | .banks => t.banks = s.banks
  | .rowTest => t.rowTest = s.rowTest
  | .secure => t.secure = s.secure
  | .retireds => t.retireds = s.retireds
  | .cmds => t.cmds = s.cmds
  | .ring => t.ring = s.ring
  | .digests => t.digests = s.digests
  | .streams => t.streams = s.streams
  | .ports => t.ports = s.ports
  | .ctrls => t.ctrls = s.ctrls
  | .pdos => t.pdos = s.pdos
  | .net => t.net = s.net
  | .link => t.link = s.link
  | .unreads => t.unreads = s.unreads
  | .fwdIns => t.fwdIns = s.fwdIns
  | .rails => t.rails = s.rails
  | .seqr => t.seqr = s.seqr
  | .time => t.time = s.time
  | .rep => t.rep = s.rep
  | .out => t.out = s.out
  | .pending => t.pending = s.pending
  | .fresh => t.fresh = s.fresh
  | .tap => t.tap = s.tap

/-- The parts that a report can change: the report system, what it sends (EMCYs, vectors), the count of free values. -/
def reporting : List Part := [.rep, .out, .ctrls, .vectors, .fresh]

/-- Of the entries, at most those with a key in `W` change, and of the other parts of the state at most those in `L`. -/
def Frame (W : List Nat) (L : List Part) (s t : State) : Prop :=
  (∀ n j i, keyOf n j i ∉ W → t.rd n j i = s.rd n j i) ∧ ∀ x : Part, x ∉ L → x.same s t

/-- The entry of a unit's epoch. -/
def epochKey (u : Nat) : Nat := keyOf .epoch 0 (u - 1)

/-- CAL_STATE of the four heads, which a write in PREPARE of an entry of R48 returns to NONE. -/
def calKeys : List Nat := (List.range 4).map fun h => keyOf .calState h 0

/-- FREE_RECORDS of the eight streams, which HOST sends as one (R659). -/
def freeKeys : List Nat := (List.range 8).map fun j => keyOf .freeRecords j 0

/-- The counts of bursts that a port sends again, which change where LINK sends what waits (R764). -/
def replayKeys : List Nat := [keyOf .replays 0 0, keyOf .replays 1 0, keyOf .voids 0 0, keyOf .voids 1 0]

/-- The newest event that the sequence point has numbered, its unit and its first parameter. -/
def State.newest (s : State) : Option (Event × Nat × U32) :=
  match s.rep.journal with
  | e :: _ => e.event.map fun ev => (ev, e.unit, e.value)
  | [] => none

/-! ### The invariant -/

/-- What every state of the X9 keeps: the memories and the stores of entries in their canonical form, the bounds of the journal
(R151), of the report queue (R183), of the error field (R737) and of EVENT_COUNT (R889), and a list of uncleared events that names
no event of a unit twice and none below FAULT (R874, R878). -/
structure State.Inv (s : State) : Prop where
  mem : Memory.wf s.mem = true
  dict : Store.rising s.dict = true
  mirror : Store.rising s.mirror = true
  journal : s.rep.journal.length ≤ 1024
  waiting : s.rep.waiting.length ≤ 256
  errors : s.rep.errors.length ≤ 8
  count : s.rep.eventCount ≤ 4294967295
  nodup : s.rep.uncleared.Nodup
  severe : ∀ x ∈ s.rep.uncleared, x.1.severity = .fault ∨ x.1.severity = .halt

end Sys2Proof.Machine
end

