-- ==== Sys2Proof/Certificates/Slice0/Obligations.lean ====
section
/-! DEFINITION. The statements about the X9 for the provers. The docstring of each says which rules of the spec it formalises. -/
open Sys2Proof Sys2Proof.Machine

/-- A step runs the command at the front of the queue. For every command c and state s, the step of s with c at the front of its
queue is exec of c on s with the queue's rest. That a block has a queue of commands is the model's (log 1).
(01_architecture.md) -/
def Obligations.StepRunsTheFrontCommand : Prop :=
    ∀ (c : Instr) (rest : List Instr) (s : State),
    step { s with pending := c :: rest } = exec c { s with pending := rest }

/-- On an empty queue a step lets one island clock pass and changes nothing else. With no command waiting a step advances the time
base by 10 counts of 250 ps and leaves every entry and every other part of the state as it was. That the tick is what an empty
queue does is the model's choice (log 2). (05_islands_and_time.md) -/
def Obligations.AnEmptyQueueLetsTimePass : Prop :=
    ∀ s : State, s.pending = [] → ∃ t, step s = .next t ∧ t.time = s.time + 10 ∧ Frame [] [.time] s t

/-- No command stops the machine. Every command answers a next state from every state: a refusal of the X9 is a status in its
state and no stop of the model. (01_architecture.md, 03_object_dictionary.md) -/
def Obligations.EveryCommandCompletes : Prop :=
    ∀ (c : Instr) (s : State), Answers c s fun _ => True

/-- A command leaves the queue to the step. Whatever a command does, the commands that wait behind it are unchanged. The queue is
the model's (log 1). (01_architecture.md) -/
def Obligations.NoCommandTouchesTheQueue : Prop :=
    ∀ (c : Instr) (s t : State), exec c s = .next t → t.pending = s.pending

/-- The invariant holds at reset. At reset the memories and the stores of entries are canonical and the report system is within
its bounds. That memory reads 0 where nothing is written is the model's choice (log 3). (R151, R183, R737, R889, R878) -/
def Obligations.ResetKeepsTheInvariant : Prop :=
    State.reset.Inv

/-- Every step keeps the invariant of the state. From every state that meets the invariant (canonical memories and stores, at most
1,024 journal entries, 256 waiting reports, 8 error codes and 2^32 - 1 counted events, a list of uncleared events without
repetition and with none below FAULT), every step gives a state that meets it. (R151, R152, R183, R737, R874, R878, R889) -/
def Obligations.EveryStepKeepsTheInvariant : Prop :=
    ∀ s t : State, s.Inv → step s = .next t → t.Inv

/-- What reset leaves. After reset the mode is PREPARE with BUSY clear, the device sequence and the time base are 0, the journal
and the list of uncleared events are empty, no island is fenced, every byte of the memories reads 0, and the entries PIXELS,
CLAIM, EPOCH, LEVEL_GRANTED and HEAD_STATE hold the defaults of their tables.
The IDCODE of the test access port has version 2 and part 0x0E59. (R36, R66, R149, R171, R585,
R852) -/
def Obligations.ResetLeavesTheStatedValues : Prop :=
    State.reset.modes.mode = .prepare ∧ State.reset.modes.target = none ∧ State.reset.rep.seq = 0 ∧ State.reset.time = 0
    ∧ State.reset.rep.journal = [] ∧ State.reset.rep.uncleared = [] ∧ (∀ i, State.reset.fenced i = false)
    ∧ (∀ a, State.reset.byteAt a = 0) ∧ (∀ u : Fin 56, State.reset.rd .claim 0 u = 0xFF ∧ State.reset.rd .epoch 0 u = 0)
    ∧ State.reset.rd .levelGranted = 0x40 ∧ (∀ h : Fin 4, State.reset.rd .headState h = 0 ∧ State.reset.rd .pixels h = dfltOf .pixels h 0)
    ∧ State.reset.tap.idcode.extractLsb' 12 20 = 0x20E59

/-- A refused write leaves its status and nothing else. Where the checks of R115 refuse a write that a command of one entry makes
(DICTIONARY_WRITE of an entry that exists, LEVEL_KEY_WRITE, HEAD_ENABLE standing for the rows of one entry each), LAST_STATUS
of the path takes the status and the entry, and of all entries only LAST_STATUS of that path and, on the register ports, their
error count change. A wrong key (R71) and a scan list found invalid (R509) are the two refusals with an effect, and are left
out here. A DICTIONARY_WRITE of a windowed entry whose byte enables are not those of a whole dword is refused with LENGTH.
(R77, R115, R117, R682, R690) -/
def Obligations.RefusedWritesLeaveTheRest : Prop :=
    ∀ (p : Path) (s : State) (st : Status), st ≠ .keyWrong → st ≠ .scanInvalid →
    (∀ (idx : BitVec 16) (sub : Byte) (v : U32) (e : Ent), lookup idx.toNat sub.toNat = .ok e → notForPath p e = false →
      ¬ (p ∈ [.p1, .p2] ∧ idx = 0x2020 ∧ sub = 0) → Refuses s p e v st →
      Answers (.dictionaryWrite p idx sub v 0xF) s fun t =>
        t.rd .lastStatus 0 p.num = u32 (st.code * 0x1000000 + e.index * 0x100 + e.sub)
        ∧ Frame [keyOf .lastStatus 0 p.num, keyOf .parErr 0 0, keyOf .qspiErr 0 0] [.ports] s t)
    ∧ (∀ (idx : BitVec 16) (sub : Byte) (v : U32) (e : Ent) (enables : BitVec 4), lookup idx.toNat sub.toNat = .ok e →
      notForPath p e = false → isDomain e = false → isCommand e = false → ¬ (p ∈ [.p1, .p2] ∧ idx = 0x2020 ∧ sub = 0) →
      s.live = true → pathUp s p = true → NoHeld s → enables ≠ 0xF →
      Answers (.dictionaryWrite p idx sub v enables) s fun t =>
        t.rd .lastStatus 0 p.num = u32 (Status.length.code * 0x1000000 + e.index * 0x100 + e.sub)
        ∧ Frame [keyOf .lastStatus 0 p.num, keyOf .parErr 0 0, keyOf .qspiErr 0 0] [.ports] s t)
    ∧ (∀ h : Fin 4, Refuses s p { name := .headEn, inst := h } 1 st →
      Answers (.headEnable p h) s fun t =>
        t.rd .lastStatus 0 p.num = u32 (st.code * 0x1000000 + (0x2400 + 0x20 * h.val) * 0x100 + 1)
        ∧ Frame [keyOf .lastStatus 0 p.num, keyOf .parErr 0 0, keyOf .qspiErr 0 0] [.ports] s t)

/-- The first check of R115 that fails gives the status. For a write of one entry that exists: an entry that is not RW, RWP or WO
is READ_ONLY whatever else fails; then an expert entry without a grant is LEVEL_DENIED; then a unit held by another path is
CLAIMED; then a fenced holder is UNIT_ABSENT; then an RWP entry outside PREPARE is NOT_PREPARE. P6 is not asked. DOMAIN
objects and the channel of commands are left out (step 2), and so are CLAIM, RESTORE_DEFAULTS, LC_ADVANCE and the pairs, which
have claims and modes of their own. (R74, R89, R37, R118) -/
def Obligations.ChecksComeInTheirOrder : Prop :=
    ∀ (s : State) (p : Path) (e : Ent) (w : U32), p ≠ .p6 → isDomain e = false → isCommand e = false →
    e.name ∉ [.claim, .restoreDefaults, .lcAdvance, .pairEn, .pairSkew] →
    let st := (verdict s { path := p, ents := [(e, w)] }).st
    let writable := accessOf e ∈ [Access.rw, .rwp, .wo]
    let denied := isExpert e = true ∧ s.granted p = false
    let claimed := ∃ u, e.unit = some u ∧ s.holderOf u ≠ 0xFF ∧ s.holderOf u ≠ p.num
    let absent := ∃ i, e.holder = some i ∧ s.fenced i = true
    (¬ writable → st = .readOnly) ∧ (writable → denied → st = .levelDenied) ∧ (writable → ¬ denied → claimed → st = .claimed)
    ∧ (writable → ¬ denied → ¬ claimed → absent → st = .unitAbsent)
    ∧ (writable → ¬ denied → ¬ claimed → ¬ absent → accessOf e = .rwp → s.preparing = false → st = .notPrepare)

/-- Without a grant no write command of a path changes an expert entry. A DICTIONARY_WRITE of an expert entry (3000 to 3FFF, and
KEY_LOAD) from a path without an expert grant leaves every entry of the dictionary but LAST_STATUS of the path and the port's
error count, and every other part of the state but the ports, as it was, whatever the state, as long as no record waits behind
a mode request. (R67, R74, R109) -/
def Obligations.NoGrantNoExpertEntry : Prop :=
    ∀ (s : State) (p : Path) (idx : BitVec 16) (sub : Byte) (v : U32) (enables : BitVec 4) (e : Ent) (t : State), p ≠ .p6 → s.granted p = false →
    lookup idx.toNat sub.toNat = .ok e → isExpert e = true → (s.cmd 3).held = [] → (s.cmd 4).held = [] → (s.cmd 5).held = [] →
    exec (.dictionaryWrite p idx sub v enables) s = .next t →
    Frame [keyOf .lastStatus 0 p.num, keyOf .parErr 0 0, keyOf .qspiErr 0 0] [.ports] s t

/-- What a write of an entry, of the level key and of a claim does. A DICTIONARY_WRITE that passes the checks of R115 gives an RW
or RWP entry its value (STRING_EN, whose value 2 reads back as 0, MODE_REQ and CLAIM have commands of their own).
LEVEL_KEY_WRITE leaves the path granted exactly where the value is not 0. CLAIM_TAKE of a free unit, CLAIM_RELEASE by its
holder and CLAIM_BROKEN by an expert path leave the CLAIM with the value written and the unit's epoch one higher, and change
no other entry. ERROR_FIELD_CLEAR empties the error field. (R69, R70, R87, R90, R95, R100, R115, R143) -/
def Obligations.DictionaryAndClaimWritesComplete : Prop :=
    (∀ (p : Path) (idx : BitVec 16) (sub : Byte) (v : U32) (e : Ent) (s : State), lookup idx.toNat sub.toNat = .ok e → notForPath p e = false →
      (accessOf e = .rw ∨ accessOf e = .rwp) → e.name ∉ [.modeReq, .claim, .stringEn] →
      ¬ (p ∈ [.p1, .p2] ∧ idx = 0x2020 ∧ sub = 0) → idleWrite s e v = false → Takes s p e v →
      Answers (.dictionaryWrite p idx sub v 0xF) s fun t => t.rd e.name e.inst e.item = masked e.name v)
    ∧ (∀ (p : Path) (v : U32) (s : State), p ≠ .p6 → Takes s p { name := .levelKey } v →
      Answers (.levelKeyWrite p v) s fun t =>
        t.granted p = decide (v ≠ 0) ∧ Frame [keyOf .levelGranted 0 0] reporting s t)
    ∧ (∀ (p : Path) (u : Fin 56) (v : BitVec 8) (s : State), Takes s p { name := .claim, item := u } (v.setWidth 32) →
      s.rd .claim 0 u = 0xFF → v ≠ 0xFF →
      Answers (.claimTake p u v) s fun t =>
        t.rd .claim 0 u = v.setWidth 32 ∧ t.epochOf (u + 1) = (s.epochOf (u + 1) + 1) % 65536
        ∧ Frame [keyOf .claim 0 u, keyOf .epoch 0 u] reporting s t)
    ∧ (∀ (p : Path) (u : Fin 56) (s : State), Takes s p { name := .claim, item := u } 0xFF → s.rdN .claim 0 u = p.num →
      Answers (.claimRelease p u) s fun t =>
        t.rd .claim 0 u = 0xFF ∧ t.epochOf (u + 1) = (s.epochOf (u + 1) + 1) % 65536
        ∧ Frame [keyOf .claim 0 u, keyOf .epoch 0 u] reporting s t)
    ∧ (∀ (p : Path) (u : Fin 56) (s : State), Takes s p { name := .claim, item := u } 0xFF → s.rdN .claim 0 u ≠ p.num →
      s.rdN .claim 0 u ≠ 0xFF → s.fenced islHost = false →
      Answers (.claimBroken p u) s fun t =>
        t.rd .claim 0 u = 0xFF ∧ t.epochOf (u + 1) = (s.epochOf (u + 1) + 1) % 65536
        ∧ t.newest = some (Event.claimBroken, u.val + 1, pack [(8, u.val + 1), (8, s.rdN .claim 0 u), (8, p.num)])
        ∧ Frame [keyOf .claim 0 u, keyOf .epoch 0 u] reporting s t)
    ∧ (∀ (p : Path) (s : State), Takes s p { name := .errorCount } 0 →
      Answers (.errorFieldClear p) s fun t => t.rep.errors = [] ∧ t.rd .errorCount = 0
        ∧ Frame [keyOf .errorCount 0 0] reporting s t)

/-- A wrong level key is refused with KEY_WRONG and clears the grant. A LEVEL_KEY write that the earlier checks of R115 let
through and whose value is neither 0 nor the key is refused with KEY_WRONG, and the path has no grant afterwards; a LEVEL_KEY
write refused at any other check leaves every grant as it was. (R71) -/
def Obligations.WrongKeysClearTheGrant : Prop :=
    (∀ (p : Path) (v : U32) (s : State), p ≠ .p6 → s.live = true → pathUp s p = true → s.fenced islHost = false →
      (s.cmd 3).held = [] → (s.cmd 4).held = [] → (s.cmd 5).held = [] → v ≠ 0 → v ≠ Config.levelKey →
      Answers (.levelKeyWrite p v) s fun t =>
        t.granted p = false ∧ t.rd .lastStatus 0 p.num = u32 (Status.keyWrong.code * 0x1000000 + 0x2000 * 0x100 + 0x10))
    ∧ (∀ (p : Path) (v : U32) (s : State) (st : Status), st ≠ .keyWrong → Refuses s p { name := .levelKey } v st →
      Answers (.levelKeyWrite p v) s fun t => ∀ q : Path, t.granted q = s.granted q)

/-- A claim write to a unit held by another path is refused with CLAIMED. CLAIM_TAKE of a unit held by another path is refused
with CLAIMED, and CLAIM_RELEASE of it by a path without an expert grant too (R90 gives the expert path's release); CLAIM stays
as it was. (R89) -/
def Obligations.ClaimedUnitsAreRefused : Prop :=
    ∀ (p : Path) (u : Fin 56) (s : State), p ≠ .p6 → s.live = true → pathUp s p = true → s.fenced islHost = false →
    (s.cmd 3).held = [] → (s.cmd 4).held = [] → (s.cmd 5).held = [] → s.rdN .claim 0 u ≠ 0xFF → s.rdN .claim 0 u ≠ p.num →
    (∀ v : BitVec 8, v ≠ 0xFF → Answers (.claimTake p u v) s fun t =>
      t.rd .claim 0 u = s.rd .claim 0 u
      ∧ t.rd .lastStatus 0 p.num = u32 (Status.claimed.code * 0x1000000 + 0x2001 * 0x100 + (u + 1)))
    ∧ (s.granted p = false → Answers (.claimRelease p u) s fun t =>
      t.rd .claim 0 u = s.rd .claim 0 u
      ∧ t.rd .lastStatus 0 p.num = u32 (Status.claimed.code * 0x1000000 + 0x2001 * 0x100 + (u + 1)))

/-- What RESTORE_DEFAULTS, MIRROR_UPDATE and STATE_DIGEST_UPDATE do. A RESTORE_DEFAULTS that passes the checks completes with
every entry that a restore sets at the default of its table, and with DEFAULTS_RESTORED, carrying the path, as the newest
report. MIRROR_UPDATE of an entry completes: of one of no unit, the mirror then holds the value that the entry has in its
island; of one of a unit, it holds the unit's epoch and the value of every entry of the unit whose place no other entry of the
unit has; it changes no entry, and no part but the mirror, the PDOs and the outputs. STATE_DIGEST_UPDATE completes with the
digest of the group's present state, and with DIGEST_SEQ at the newest change that the digest covers; it changes nothing else.
(R102, R104, R108, R111, R112, R162) -/
def Obligations.RestoresAndMirrorsComplete : Prop :=
    (∀ (p : Path) (v : U32) (s : State), Takes s p { name := .restoreDefaults } v → s.fenced islHost = false →
      Answers (.restoreDefaults p v) s fun t => t.newest = some (Event.defaultsRestored, 0, pack [(8, p.num)])
        ∧ ∀ n ∈ restoredNames, ∀ j < (rowOf n).count, ∀ i < (rowOf n).subCount, t.rd n j i = dfltOf n j i)
    ∧ (∀ (idx : BitVec 16) (sub : Byte) (e : Ent) (s : State), lookup idx.toNat sub.toNat = .ok e → s.live = true →
      s.fenced islHost = false → (∀ i, e.pusher = some i → s.fenced i = false) →
      Answers (.mirrorUpdate idx sub) s fun t =>
        (e.pushUnit = none → t.mirrored e = s.readEnt .p6 e)
        ∧ (∀ u, e.pushUnit = some u → t.mirrored { name := .epoch, item := u - 1 } = u32 (s.epochOf u)
          ∧ ∀ x ∈ unitEnts u, (∀ y ∈ unitEnts u, y.key = x.key → y = x) → x.key ≠ epochKey u → t.mirrored x = s.readEnt .p6 x)
        ∧ Frame [] [.mirror, .pdos, .out] s t)
    ∧ (∀ (g : Fin 16) (s : State), Running s islHost →
      Answers (.stateDigestUpdate g) s fun t => t.digest g = some (s.digestOf g)
        ∧ (∀ q, s.groupSeq g = some q → t.rd .digestSeq 0 g = q) ∧ Frame [keyOf .digestSeq 0 g] [.digests] s t)

/-- A mode request of a path becomes the pending request. MODE_REQ_PREPARE, MODE_REQ_CALIBRATE and MODE_REQ_SCAN that pass the
checks become the one pending request, and neither MODE nor MODE_REQ changes yet; a plain request that was pending completes
with MODE_SUPERSEDED in LAST_STATUS of its path. Where the pending request reached HOST in the same cycle of its clock from a
path that is later in the order P6, P0 to P5, it stays, and the new request completes with MODE_SUPERSEDED. MODE_REQ_PARK is
taken up at once: it leaves no pending request and reaches SEQ, or completes where the X9 is in PARK already. (R55, R56, R57,
R58, R923) -/
def Obligations.ModeRequestsWaitToBeTakenUp : Prop :=
    (∀ (p : Path) (s : State),
      let mine (m : Mode) : ModeReq := { path := p, mode := m, origin := .plain, since := s.time.toNat }
      let waits (c : Instr) (m : Mode) : Prop := Takes s p { name := .modeReq } (u32 m.code) → s.fenced islHost = false →
        ((∀ old, s.modes.pendingReq = some old → outranks old (mine m) = false) →
          Answers c s fun t => t.modes.pendingReq = some (mine m) ∧ t.modes.mode = s.modes.mode
            ∧ t.modes.target = s.modes.target ∧ t.rd .modeReq = s.rd .modeReq
            ∧ ∀ q m' w, s.modes.pendingReq = some { path := q, mode := m', origin := .plain, since := w } →
              t.rd .lastStatus 0 q.num = u32 (Status.modeSuperseded.code * 0x1000000 + 0x2000 * 0x100 + 1))
        ∧ (∀ old, s.modes.pendingReq = some old → outranks old (mine m) = true →
          Answers c s fun t => t.modes = s.modes ∧ t.rd .modeReq = s.rd .modeReq
            ∧ t.rd .lastStatus 0 p.num = u32 (Status.modeSuperseded.code * 0x1000000 + 0x2000 * 0x100 + 1))
      waits (.modeReqPrepare p) .prepare ∧ waits (.modeReqCalibrate p) .calibrate ∧ waits (.modeReqScan p) .scan)
    ∧ (∀ (p : Path) (s : State), Takes s p { name := .modeReq } 3 → s.fenced islHost = false →
      Answers (.modeReqPark p) s fun t => t.modes.pendingReq = none ∧ t.rd .modeReq = 3 ∧ t.modes.mode = s.modes.mode
        ∧ (¬ (s.modes.mode = .park ∧ s.modes.target = none) →
          t.modes.parkReq = s.modes.parkReq ++ [{ path := p, mode := .park, origin := .plain, since := s.time.toNat }]))

/-- What taking up a request, ending a transition and entering PARK do. MODE_REQUEST_TAKE_UP of a pending request for another mode
whose conditions hold puts it in flight: TARGET is its mode and MODE stays; while a halt line is asserted it completes a plain
request outside PARK with MODE_SUPERSEDED instead. MODE_TRANSITION_DONE, once every island has
completed its part, gives MODE the target and clears BUSY. PARK_ENTRY, with a halt line asserted or a PARK request taken up,
enters PARK from any other mode, abandons a transition, and leaves PARK_CAUSE with the event code of its cause. (R32, R35, R39,
R40, R44, R50, R51, R57, R918) -/
def Obligations.ModeTransitionsComplete : Prop :=
    (∀ (s : State) (q : ModeReq), Running s islHost → NoHeld s → s.modes.pendingReq = some q → s.modes.inFlight = none →
      s.modes.target = none → s.modes.parkReq = [] → s.modes.haltLines = [] → modeCheck s q.mode = .ok → q.mode ≠ s.modes.mode →
      Answers .modeRequestTakeUp s fun t => t.modes.target = some q.mode ∧ t.modes.inFlight = some q
        ∧ t.modes.pendingReq = none ∧ t.modes.mode = s.modes.mode ∧ t.rd .modeReq = u32 q.mode.code)
    ∧ (∀ (s : State) (p : Path) (m : Mode) (w : Nat), Running s islHost → NoHeld s → s.modes.inFlight = none → s.modes.target = none →
      s.modes.pendingReq = some { path := p, mode := m, origin := .plain, since := w } → s.modes.parkReq = [] →
      s.modes.haltLines ≠ [] → s.modes.mode ≠ .park →
      Answers .modeRequestTakeUp s fun t => t.modes.target = none ∧ t.modes.pendingReq = none ∧ t.modes.mode = s.modes.mode
        ∧ t.rd .lastStatus 0 p.num = u32 (Status.modeSuperseded.code * 0x1000000 + 0x2000 * 0x100 + 1))
    ∧ (∀ (s : State) (m : Mode), Running s islSeq → NoHeld s → s.modes.target = some m → s.transitionReady m = true →
      Answers .modeTransitionDone s fun t => t.modes.mode = m ∧ t.modes.target = none ∧ t.modes.inFlight = none)
    ∧ (∀ s : State, s.live = true → NoHeld s → s.modes.mode ≠ .park → s.modes.haltLines ≠ [] ∨ s.modes.parkReq ≠ [] →
      Answers .parkEntry s fun t => t.modes.mode = .park ∧ t.modes.target = none ∧ t.modes.inFlight = none
        ∧ t.rd .parkCause = u32 (match s.modes.haltLines with | ev :: _ => ev.code | [] => Event.code .parkRequested))

/-- What a mode request needs when it is taken up. With SEQ in service, a request from PREPARE for CALIBRATE or SCAN needs
SEQ_STATE ON, a request for SCAN needs a valid calibration, a request from PARK is granted for PREPARE alone and only with no
PARK cause active; with SEQ fenced it completes with UNIT_ABSENT. That MODE_REFUSED goes before CAL_INVALID where both conditions
fail is the model's choice (log 39). (R40, R46, R54, R924) -/
def Obligations.ModeChecksHold : Prop :=
    ∀ s : State,
    (s.fenced islSeq = true → ∀ m, modeCheck s m = .unitAbsent)
    ∧ (s.fenced islSeq = false → s.modes.mode = .prepare → s.rdN .seqState ≠ 3 →
      modeCheck s .calibrate = .modeRefused ∧ modeCheck s .scan = .modeRefused)
    ∧ (s.fenced islSeq = false → s.modes.mode = .prepare ∨ s.modes.mode = .calibrate → s.calValid = false → modeCheck s .scan ≠ .ok)
    ∧ (s.fenced islSeq = false → s.modes.mode = .park → modeCheck s .calibrate = .modeRefused ∧ modeCheck s .scan = .modeRefused
      ∧ (modeCheck s .prepare = .ok ↔ s.parkHeld = false))

/-- What a fence, an automatic fence and a readmission request start. FENCE_REQUEST on an island in service leaves FENCE_REQ at 1
and a fence on its way with cause 1; ISLAND_PLL_LOST and HANDSHAKE_TIMEOUT leave FENCE_REQ at 1, written by P6, and a fence on
its way with cause 2 or 3; READMIT_REQUEST moves a fenced island to LOCKING, and where the fence has not yet taken effect it
is kept for later. None changes another island. The write of an entry of the receiver that HANDSHAKE_TIMEOUT answers, where the
first six checks of R115 let it through, is refused with UNIT_ABSENT. (R169, R176, R177, R185, R915) -/
def Obligations.FenceRequestsComplete : Prop :=
    (∀ (p : Path) (i : Fin 15) (s : State), Takes s p { name := .fenceReq, item := i } 1 → s.rd .fenceReq 0 i ≠ 1 →
      (s.island i).st = .running → (s.island i).coming = none →
      Answers (.fenceRequest p i) s fun t => t.rd .fenceReq 0 i = 1 ∧ (t.island i).coming = some (1, 0)
        ∧ (t.island i).st = .running ∧ (∀ k, k ≠ i.val → t.island k = s.island k)
        ∧ Frame [keyOf .fenceReq 0 i] (.islands :: reporting) s t)
    ∧ (∀ (p : Path) (i : Fin 15) (s : State), Takes s p { name := .fenceReq, item := i } 0 → s.rd .fenceReq 0 i ≠ 0 →
      Answers (.readmitRequest p i) s fun t => t.rd .fenceReq 0 i = 0
        ∧ ((s.island i).coming = none → (s.island i).st = .fenced → (t.island i).st = .locking)
        ∧ ((s.island i).coming ≠ none → (t.island i).readmit = true ∧ (t.island i).coming = (s.island i).coming)
        ∧ (∀ k, k ≠ i.val → t.island k = s.island k) ∧ Frame [keyOf .fenceReq 0 i] (.islands :: reporting) s t)
    ∧ (∀ (i : Fin 15) (s : State), s.live = true → (s.island i).st = .running → (s.island i).coming = none →
      Answers (.islandPllLost i) s fun t => t.rd .fenceReq 0 i = 1 ∧ (t.island i).coming = some (2, 0)
        ∧ (∀ k, k ≠ i.val → t.island k = s.island k) ∧ Frame [keyOf .fenceReq 0 i] (.islands :: reporting) s t)
    ∧ (∀ (x i : Fin 15) (s : State), s.live = true → (s.island i).st = .running → (s.island i).coming = none →
      Answers (.handshakeTimeout x i .other) s fun t => t.rd .fenceReq 0 i = 1 ∧ (t.island i).coming = some (3, x.val)
        ∧ (∀ k, k ≠ i.val → t.island k = s.island k) ∧ Frame [keyOf .fenceReq 0 i] (.islands :: reporting) s t)
    ∧ (∀ (x i : Fin 15) (p : Path) (idx : BitVec 16) (sub : Byte) (v : U32) (e : Ent) (s : State), s.live = true → NoHeld s →
      i.val ≠ islHost → (s.island i).st = .running → (s.island i).coming = none → pathUp s p = true →
      lookup idx.toNat sub.toNat = .ok e → notForPath p e = false →
      stepWindow p e = .ok → stepAccess e = .ok → stepLevel s p e = .ok → stepClaim s p e v = .ok → e.holder = some i.val →
      Answers (.handshakeTimeout x i (.write p idx sub v)) s fun t => t.rd .fenceReq 0 i = 1 ∧ (t.island i).coming = some (3, x.val)
        ∧ t.rd .lastStatus 0 p.num = u32 (Status.unitAbsent.code * 0x1000000 + e.index * 0x100 + e.sub)
        ∧ (∀ k, k ≠ i.val → t.island k = s.island k)
        ∧ Frame [keyOf .fenceReq 0 i, keyOf .lastStatus 0 p.num, keyOf .parErr 0 0, keyOf .qspiErr 0 0]
          (.islands :: .ports :: reporting) s t)

/-- The steps of a fence and of a readmission. FENCE_TAKES_EFFECT leaves the island FENCED with the cause of the fence, or LOCKING
where a readmission was asked for meanwhile, and its event is the newest report. ISLAND_PLL_LOCK moves LOCKING to SYNCING, and
after a device reset notes the lock. READMIT_LOCK_TIMEOUT returns LOCKING to FENCED with FENCE_REQ at 1 and READMIT_FAILED.
SYNC_ATTEMPT_END of a consistent attempt moves SYNCING to WAITING; the third inconsistent attempt returns it to FENCED.
READMISSION_POINT moves WAITING to RUNNING. TB_HOLDOVER and HOLDOVER_EXIT set and clear HOLDOVER; START_UP_COMPLETE, with
islands 0 to 12 locked, puts the X9 in service. (R173, R179, R185, R186, R191, R834, R915, R917) -/
def Obligations.FencesAndReadmissionsComplete : Prop :=
    (∀ (i : Fin 15) (s : State) (c x : Nat), s.live = true → (s.island i).coming = some (c, x) →
      Answers (.fenceTakesEffect i) s fun t => (t.island i).coming = none ∧ (t.island i).cause = c
        ∧ (t.island i).st = (if (s.island i).readmit then .locking else .fenced)
        ∧ (c = 1 → s.fenced islHost = false → i.val ≠ islHost → t.newest = some (Event.islandFenced, islandUnit i, pack [(8, i.val)])))
    ∧ (∀ (i : Fin 15) (s : State),
      (s.phase = .starting → Answers (.islandPllLock i) s fun t => i.val ∈ t.seqr.locks ∧ Frame [] [.seqr] s t)
      ∧ (s.live = true → (s.island i).st = .locking → Answers (.islandPllLock i) s fun t =>
        (t.island i).st = .syncing ∧ (t.island i).attempts = 0 ∧ Frame [] [.islands] s t))
    ∧ (∀ (i : Fin 15) (s : State), s.live = true → (s.island i).st = .locking →
      Answers (.readmitLockTimeout i) s fun t => (t.island i).st = .fenced ∧ (t.island i).cause = (s.island i).cause
        ∧ t.rd .fenceReq 0 i = 1
        ∧ (s.fenced islHost = false → t.newest = some (Event.readmitFailed, islandUnit i,
          pack [(8, i.val), (8, (Config.readmitReason false).toNat)]))
        ∧ Frame [keyOf .fenceReq 0 i] (.islands :: reporting) s t)
    ∧ (∀ (i : Fin 15) (samples : List (U64 × U64)) (s : State), s.live = true → (s.island i).st = .syncing →
      (syncConsistent i samples = true → Answers (.syncAttemptEnd i samples) s fun t => (t.island i).st = .waiting ∧ Frame [] [.islands] s t)
      ∧ (syncConsistent i samples = false → (s.island i).attempts < 2 → Answers (.syncAttemptEnd i samples) s fun t =>
        (t.island i).st = .syncing ∧ (t.island i).attempts = (s.island i).attempts + 1 ∧ Frame [] [.islands] s t)
      ∧ (syncConsistent i samples = false → 2 ≤ (s.island i).attempts → Answers (.syncAttemptEnd i samples) s fun t =>
        (t.island i).st = .fenced ∧ t.rd .fenceReq 0 i = 1 ∧ Frame [keyOf .fenceReq 0 i] (.islands :: reporting) s t))
    ∧ (∀ (i : Fin 15) (s : State), s.live = true → NoHeld s → (s.island i).st = .waiting →
      Answers (.readmissionPoint i) s fun t => (t.island i).st = .running)
    ∧ (∀ s : State, s.phase ≠ .unpowered →
      (Answers .tbHoldover s fun t => bitAt (t.rdN .tbStatus) 1 = true ∧ Frame [keyOf .tbStatus 0 0] reporting s t)
      ∧ (Answers .holdoverExit s fun t => bitAt (t.rdN .tbStatus) 1 = false ∧ Frame [keyOf .tbStatus 0 0] [] s t))
    ∧ (∀ s : State, s.phase = .starting → (∀ i < 13, i ∈ s.seqr.locks) → Answers .startUpComplete s fun t => t.phase = .live
        ∧ (s.fenced islHost = false → (∃ e ∈ t.rep.journal, e.event = some .deviceReset ∧ e.value = pack [(8, s.rdN .resetCause)])
          ∧ ∀ n : Fin 6, ∃ e ∈ t.rep.journal, e.event = some .seqReset ∧ e.value = u32 n)
        ∧ Frame [] (.phase :: .seqr :: .modes :: reporting) s t)

/-- What HEAD_ENABLE, HEAD_DISABLE and HOST_TRIG do. HEAD_ENABLE moves a head that is OFF to IDLE, or to ARMED in SCAN.
HEAD_DISABLE moves a head that is not OFF to OFF with no line playing or pending. HOST_TRIG on an armed head outside a
calibration run starts the line with the present LINE_NUMBER, which steps on; on a head that plays a line it makes one
pending. (R221, R223, R226, R228) -/
def Obligations.HeadWritesComplete : Prop :=
    (∀ (p : Path) (h : Fin 4) (s : State), Takes s p { name := .headEn, inst := h } 1 → s.rd .headState h = 0 →
      Answers (.headEnable p h) s fun t => t.rd .headEn h = 1
        ∧ t.rd .headState h = (if s.modes.mode = .scan ∧ s.modes.target = none then 2 else 1)
        ∧ (¬ (s.modes.mode = .scan ∧ s.modes.target = none) →
          Frame ([keyOf .headEn h 0, keyOf .headState h 0, epochKey (unitHead h)] ++ calKeys) (.calTime :: reporting) s t))
    ∧ (∀ (p : Path) (h : Fin 4) (s : State), Takes s p { name := .headEn, inst := h } 0 → s.rd .headState h ≠ 0 →
      Answers (.headDisable p h) s fun t => t.rd .headEn h = 0 ∧ t.rd .headState h = 0 ∧ (t.head h).cur = none
        ∧ (t.head h).pendAt = none
        ∧ Frame ([keyOf .headEn h 0, keyOf .headState h 0, epochKey (unitHead h)] ++ calKeys)
          (.calTime :: .heads :: .lineUnits :: reporting) s t)
    ∧ (∀ (p : Path) (h : Fin 4) (s : State), Takes s p { name := .hostTrig, inst := h } 1 → s.fenced h = false →
      (s.head h).leaving = false → s.lineKind h = 0 →
      (s.rd .headState h = 2 → Answers (.hostTrig p h) s fun t => t.rd .headState h = 3
        ∧ t.rd .lineNumber h = s.rd .lineNumber h + 1 ∧ (t.head h).cur.map (·.number) = some (s.rdN .lineNumber h))
      ∧ (s.rd .headState h = 3 → Answers (.hostTrig p h) s fun t => t.rd .headState h = 4
        ∧ (t.head h).pendAt = some (s.time.toNat, false)
        ∧ Frame (keyOf .headState h 0 :: calKeys) [.heads, .calTime] s t)
      ∧ (s.rd .headState h = 4 → Answers (.hostTrig p h) s fun t => t.rd .headState h = 4
        ∧ t.rdN .trigDropped h = min (s.rdN .trigDropped h + 1) 4294967295))

/-- What a trigger, a position arrival and the end of a line do. LINE_TRIGGER from the line or the source that the head listens to
starts a line in ARMED, makes one pending in PLAYING and is dropped and counted in PENDING. RULING_POSITION_ARRIVAL past the
next compare point starts the line of that point in ARMED, whose number is the compare point, and steps on by the points
crossed. LINE_END without a pending line and outside a calibration run returns the head to ARMED and gives the line to LINE;
with a pending line that line starts. (R219, R222, R223, R226, R228, R232, R235, R237, R244) -/
def Obligations.LinesStartAndEnd : Prop :=
    (∀ (h : Fin 4) (src : TrigFrom) (s : State), s.live = true → s.fenced h = false → s.fenced islTimer = false →
      ((∃ l : Fin 16, src = .bus l ∧ s.rdN .trigSrc h = 1 ∧ s.rdN .trigBusLine h = l) ∨ (src = .frameSync ∧ s.rdN .trigSrc h = 3)) →
      (s.head h).leaving = false → s.lineKind h = 0 →
      (s.rd .headState h = 2 → Answers (.lineTrigger h src) s fun t => t.rd .headState h = 3
        ∧ t.rd .lineNumber h = s.rd .lineNumber h + 1 ∧ (t.head h).cur.map (·.number) = some (s.rdN .lineNumber h))
      ∧ (s.rd .headState h = 3 → Answers (.lineTrigger h src) s fun t => t.rd .headState h = 4
        ∧ (t.head h).pendAt = some (s.time.toNat, false))
      ∧ (s.rd .headState h = 4 → Answers (.lineTrigger h src) s fun t => t.rd .headState h = 4
        ∧ t.rdN .trigDropped h = min (s.rdN .trigDropped h + 1) 4294967295))
    ∧ (∀ (h : Fin 4) (f : Fin 256) (s : State), s.live = true → s.fenced h = false → s.fenced islMotion = false →
      s.rdN .trigSrc h = 2 → s.lineKind h = 0 → (s.head h).leaving = false → s.rd .headState h = 2 →
      (s.encAxis (s.rdN .rulingAxis h) = true ∨ (s.axis (s.rdN .rulingAxis h)).readmitted = false) →
      (256 * (s.head h).next : Nat) ≤ s.rulingAhead h (s.rulingL h f) →
      Answers (.rulingPositionArrival h f) s fun t =>
        (t.head h).cur.map (·.number) = some ((s.head h).next % 4294967296)
        ∧ (t.head h).next = (s.rulingAhead h (s.rulingL h f) / 256).toNat + 1
        ∧ t.rd .headState h = (if (t.head h).next = (s.head h).next + 1 then 3 else 4))
    ∧ (∀ (h : Fin 4) (s : State) (c : LineCap), Running s h → (s.head h).cur = some c → (s.head h).leaving = false →
      s.lineKind h = 0 → s.scanFull h = false →
      ((s.head h).pendAt = none → Answers (.lineEnd h) s fun t => t.rd .headState h = 2 ∧ (t.head h).cur = none
        ∧ (s.fenced islLine = false → (s.head h).skipping = false →
          ∃ c', (t.lineUnit h).queue = (s.lineUnit h).queue ++ [.line c'] ∧ c'.number = c.number ∧ c'.pix = c.pix))
      ∧ ((s.head h).pendAt ≠ none → Answers (.lineEnd h) s fun t => t.rd .headState h = 3
        ∧ (t.head h).cur.map (·.number) = some (s.rdN .lineNumber h) ∧ (t.head h).pendAt = none))

/-- The exposure windows and the reported line duration. EXPOSURE_WINDOW_OPEN opens the window of a colour whose latched length is
not 0 during a line, EXPOSURE_WINDOW_CLOSE closes an open window, and LINE_DUR_UPDATE leaves LINE_DUR at the line occupancy.
No entry but LINE_DUR of the head changes, and no byte of memory. (R206, R207, R212, R214) -/
def Obligations.ExposureAndDurationComplete : Prop :=
    ∀ (h : Fin 4) (s : State), Running s h →
    (∀ c : Fin 3, (s.head h).windowLine.isSome = true → ((s.head h).latched.getD c (0, 0)).2 ≠ 0 →
      Answers (.exposureWindowOpen h c) s fun t => (t.head h).windows = (s.head h).windows.set c true ∧ Frame [] [.heads] s t)
    ∧ (∀ c : Fin 3, (s.head h).windows.getD c false = true →
      Answers (.exposureWindowClose h c) s fun t => (t.head h).windows = (s.head h).windows.set c false
        ∧ Frame [] [.heads, .lineUnits] s t)
    ∧ Answers (.lineDurUpdate h) s fun t => t.rd .lineDur h = u32 (max (s.played h) 4000) ∧ Frame [keyOf .lineDur h 0] [] s t

/-- What the rows of a head leave alone. Of the entries, LINE_TRIGGER, RULING_POSITION_ARRIVAL and LINE_END of head h change at
most the head's state, epoch, line number, dropped triggers, the ranges of its three channels and of the odd one of a pair that
it clocks, TEMP_NOW and PACE_STATE, and no byte of memory, no string, stream, bank or mode; complete lists of the parts are in
the frame, and RULING_POSITION_ARRIVAL adds the axes, where it notes what it has reported. The rows of the lanes change at most
LANE_STATE, SYNC_ERRORS and the clip counters of the head. (R223, R228, R237, R273) -/
def Obligations.HeadRowsKeepTheirFrame : Prop :=
    ∀ (h : Fin 4) (s t : State),
    let keys := [epochKey (unitHead h), keyOf .headState h 0, keyOf .lineNumber h 0, keyOf .paceState 0 0, keyOf .rangeNow (3 * h) 0,
      keyOf .rangeNow (3 * h + 1) 0, keyOf .rangeNow (3 * h + 2) 0, keyOf .rangeNow (3 * h + 3) 0, keyOf .tempNow h 0, keyOf .trigDropped h 0]
    let parts := [.chans, .heads, .lanes, .lineUnits, .pairs, .watch] ++ reporting
    (∀ src, exec (.lineTrigger h src) s = .next t → Frame keys parts s t)
    ∧ (∀ f, exec (.rulingPositionArrival h f) s = .next t → Frame keys (.axes :: parts) s t)
    ∧ (exec (.lineEnd h) s = .next t → Frame keys parts s t)
    ∧ (∀ l w, exec (.lanePixelWord h l w) s = .next t →
      Frame [keyOf .clipCount (3 * h) 0, keyOf .clipCount (3 * h + 1) 0, keyOf .clipCount (3 * h + 2) 0] ([.chans, .heads, .lanes, .lineUnits] ++ reporting) s t
        ∨ ∃ c, (s.lane h).colour = some c ∧ 3 ≤ c)
    ∧ (∀ w k, exec (.laneStartOfLine h w k) s = .next t → Frame [keyOf .laneState h 0] (.lanes :: reporting) s t)
    ∧ (∀ l w, exec (.laneUnlistedCode h l w) s = .next t → Frame [keyOf .syncErrors h 0] (.heads :: .lanes :: reporting) s t)
    ∧ (∀ l, exec (.laneAlignmentLost h l) s = .next t → Frame [keyOf .laneState h 0] (.lanes :: reporting) s t)

/-- What a conversion and what arrives on the lanes do. ADC_SAMPLE of an unpaired channel during a line holds the reset and video
levels as the markers of PATTERN say; at a step that starts a conversion, at least 5 step clocks after the last one, it converts
their difference: on a CLAMP step it adds the code to the pedestal samples (at most 64, newest first) until PED is fixed; on a
PIXEL step after LINE_START it fixes PED, counts a pixel and hands on its sample: code, range tag, CLIP and the 24-bit N.
LANE_PIXEL_WORD of an open colour, of a word that is not all ones, puts the word, scaled to 24 bits, at its place in the line
with range tag 7. The four words of a sync sequence name a start of line of a colour, an end of line, idle or an unlisted code by
the top four bits of the code word. LANE_START_OF_LINE opens a colour not yet opened in the line, LANE_END_OF_LINE closes it.
LANE_IDLE_SEQUENCE marks a lane aligned; LANE_ALIGNMENT_LOST takes the mark away and the lane supplies zero for the rest of the
line; LANE_UNLISTED_CODE is counted and words are discarded until the next start of line. (R249, R250, R253, R255, R279, R280,
R281, R282, R283, R284, R285) -/
def Obligations.FrontEndRowsComplete : Prop :=
    (∀ (n : Fin 12) (clk : BitVec 32) (levels : List (BitVec 32 × Int)) (direct err werr : Int) (s : State) (cap : LineCap),
      let h : Nat := n / 3
      let w := s.stepWord h (s.stepAt h clk.toNat)
      let held := heldLevels s h clk.toNat levels ((s.chan n).resetLevel, (s.chan n).videoLevel)
      let r := if s.rdN .rangeMode n = 0 then s.rdN .rangeNow n else s.rdN .rangeFixed n
      let code := adcCode (s.rdN .offsetDac n) (s.gainOf n r) (if s.rdN .polarity n = 0 then held.1 - held.2 else held.2 - held.1) err
      let start := (s.head h).lastStart.getD 0 / 10
      let ped := if (s.chan n).fixed ∨ (s.chan n).peds = [] then (s.chan n).ped.getD (16 * s.rdN .offsetDac n) else pedMean (s.chan n).peds
      s.live = true → s.fenced h = false → s.rd .pairEn 0 (n / 2 : Nat) = 0 → s.rdN .videoSrc h = 0 → (s.head h).cur = some cap →
      bitAt w 27 = true → (∀ c, (s.chan n).lastClk = some c → c + 5 ≤ start + clk.toNat) →
      (bitAt w 24 = true → Answers (.adcSample n clk levels direct err werr) s fun t =>
        (t.chan n).lastClk = some (start + clk.toNat) ∧ (t.chan n).pixSeen = (s.chan n).pixSeen
        ∧ ((t.chan n).resetLevel, (t.chan n).videoLevel) = held
        ∧ (t.chan n).peds = (if (s.chan n).fixed then (s.chan n).peds else (code :: (s.chan n).peds).take 64)
        ∧ Frame [] [.chans, .watch] s t)
      ∧ (bitAt w 24 = false → bitAt w 29 = true → s.lineStarted h clk.toNat = true →
        Answers (.adcSample n clk levels direct err werr) s fun t =>
          (t.chan n).fixed = true ∧ (t.chan n).pixSeen = (s.chan n).pixSeen + 1 ∧ (t.chan n).lastClk = some (start + clk.toNat)
          ∧ t.rdN .pedMeas n = ped % 4294967296
          ∧ ((s.chan n).pixSeen < s.rdN .pixels h →
            (if s.lineWaits h then (s.head h).fill else (s.head h).fill - (s.time.toNat - (s.head h).fillAt) / 10) < 16384 →
            (t.head h).cur.map (·.pix) = some (
              { colour := n % 3, index := (s.chan n).pixSeen, code := BitVec.ofNat 16 code, tag := BitVec.ofNat 3 r,
                clip := decide (code = 0) || decide (code = 65535), n := n24 (linearN code ped (s.gainOf n r)) } :: cap.pix))))
    ∧ (∀ (h : Fin 4) (l : Fin 8) (w : BitVec 14) (s : State) (c : Nat) (cap : LineCap),
      let bitsW := s.rdN .wordBits h
      let word := w.toNat % 2 ^ bitsW
      let i := (s.lane h).posn.getD l 0 * s.rdN .lanes h + l
      Running s h → s.rdN .videoSrc h = 1 → (s.lane h).colour = some c → (s.lane h).discard = false → l.val < s.rdN .lanes h →
      l.val ∉ (s.lane h).dead → word ≠ 2 ^ bitsW - 1 → (s.head h).cur = some cap → i < s.rdN .pixels h →
      (if s.lineWaits h then (s.head h).fill else (s.head h).fill - (s.time.toNat - (s.head h).fillAt) / 10) < 16384 →
      Answers (.lanePixelWord h l w) s fun t =>
        (t.lane h).posn = (s.lane h).posn.set l ((s.lane h).posn.getD l 0 + 1)
        ∧ (t.head h).cur.map (·.pix) = some (
          { colour := c, index := i, code := BitVec.ofNat 16 word, tag := 7, clip := decide (word = 2 ^ bitsW - 2),
            n := BitVec.ofNat 24 (word * 2 ^ (23 - bitsW)) } :: cap.pix))
    ∧ (∀ (bitsW : Nat) (code : Fin 16), bitsW ∈ [10, 12, 14] →
      syncOf bitsW [BitVec.ofNat 14 (2 ^ bitsW - 1), 0, 0, BitVec.ofNat 14 (code * 2 ^ (bitsW - 4))]
        = some (match code.val with | 8 => .start 0 | 9 => .start 1 | 10 => .start 2 | 12 => .stop | 14 => .idle | _ => .unlisted))
    ∧ (∀ (h : Fin 4) (words : List (BitVec 14)) (s : State), Running s h → s.rdN .videoSrc h = 1 →
      (∀ (c : Nat) (k : List Int), syncOf (s.rdN .wordBits h) words = some (.start c) →
        Answers (.laneStartOfLine h words k) s fun t => (t.lane h).posn = [0, 0, 0, 0, 0, 0, 0, 0]
          ∧ (t.lane h).colour = (if (s.lineOf h).isSome ∧ c ∉ (s.lane h).opened then some c else none))
      ∧ (syncOf (s.rdN .wordBits h) words = some .stop →
        Answers (.laneEndOfLine h words) s fun t => (t.lane h).colour = none ∧ (t.lane h).discard = true ∧ Frame [] [.lanes] s t)
      ∧ ∀ l : Fin 8, l.val < s.rdN .lanes h →
        (syncOf (s.rdN .wordBits h) words = some .idle →
          Answers (.laneIdleSequence h l words) s fun t => t.rdN .laneState h = s.rdN .laneState h ||| 2 ^ l.val
            ∧ Frame [keyOf .laneState h 0] [] s t)
        ∧ (syncOf (s.rdN .wordBits h) words = some .unlisted →
          Answers (.laneUnlistedCode h l words) s fun t => (t.lane h).discard = true
            ∧ t.rdN .syncErrors h = min (s.rdN .syncErrors h + 1) (2 ^ (rowOf .syncErrors).ty.bits - 1))
        ∧ (bitAt (s.rdN .laneState h) l = true → Answers (.laneAlignmentLost h l) s fun t =>
          bitAt (t.rdN .laneState h) l = false ∧ l.val ∈ (t.lane h).dead))

/-- What LINE does with the oldest line of a head. LINE_RECORD_EMIT, with LINE running, no stream holding it back, and no line start
to come for lanes that still fill the line, completes. Of a settled scan line that waits for no partner: it takes the line from
the queue, notes its number as the last emitted and, where the head's ROUTE is a stream, sends its record there, which carries
the time, number, epoch, head and KIND of the line, with at most a TAG record behind it; no byte of memory changes. Of a line of
a capture: it takes it from the queue, counts it off the capture, sends its DARK or WHITE record, and changes no byte outside the
accumulators. Of the close of a page: it closes the page. SEAM_DATA_ARRIVAL takes the oldest overlap pixels from those sent, and
stores them on their side, or discards them where their line has been emitted or given up. SEAM_WAIT_EXPIRED gives up the wait
of the oldest line, which waits for its partner. (R296, R305, R306, R334, R336, R337, R340, R649) -/
def Obligations.LineRecordsComplete : Prop :=
    (∀ (h : Fin 4) (s : State) (c : LineCap) (rest : List LineItem),
      let s' := (closeLanes h).run s
      let r := s.rdN .lineRoute h
      let sent (t : State) (more : Nat) : Prop := r ≠ 0x10 → ∃ rcd l, (t.stream r).coming = (s.stream r).coming ++ rcd :: l ∧ l.length ≤ more
        ∧ rcd.take 20 = leBytes 4 0 ++ leBytes 8 c.start ++ leBytes 4 c.number ++ leBytes 2 c.epoch ++ leBytes 1 h ++ leBytes 1 c.kind
      Running s islLine → s.heldBack h = false → ((s.laneLine h).isSome && s.armedNow h) = false →
      (s'.lineUnit h).queue = .line c :: rest → c.unsettled = false →
      (c.kind = 0 → s'.seamAct h false c.number ≠ .wait → s'.seamAct h true c.number ≠ .wait →
        Answers (.lineRecordEmit h) s fun t => (t.lineUnit h).queue = rest ∧ (t.lineUnit h).emitted = some c.number
          ∧ sent t 1 ∧ ∀ a, t.byteAt a = s.byteAt a)
      ∧ (c.kind ≠ 0 → Answers (.lineRecordEmit h) s fun t => (t.lineUnit h).queue = rest
          ∧ (t.lineUnit h).capLeft = (s.lineUnit h).capLeft - 1 ∧ sent t 0
          ∧ (s.rdN .pixels h ≤ 32768 → ∀ a,
            ¬ (s.calAddr h (accBase (c.kind = 2)) ≤ a ∧ a < s.calAddr h (accBase (c.kind = 2)) + accSize) → t.byteAt a = s.byteAt a)))
    ∧ (∀ (h : Fin 4) (s : State) (x : Nat) (rest : List LineItem), Running s islLine → s.heldBack h = false →
      ((s.laneLine h).isSome && s.armedNow h) = false → ((closeLanes h).run s |>.lineUnit h).queue = .close x :: rest →
      Answers (.lineRecordEmit h) s fun t => (t.lineUnit h).queue = rest ∧ (t.lineUnit h).page = none ∧ ∀ a, t.byteAt a = s.byteAt a)
    ∧ (∀ (h : Fin 4) (s : State) (side : Bool) (d : SeamData) (rest : List (Bool × SeamData)), Running s islLine →
      (s.lineUnit h).seamIn = (side, d) :: rest →
      let own := (d.line + (s.seamOf h side).2.2.2) % 4294967296
      let past (n : Option Nat) : Prop := ∃ k, n = some k ∧ notBefore k own = true
      Answers (.seamDataArrival h) s fun t => (t.lineUnit h).seamIn = rest ∧ Frame [] [.lineUnits] s t
        ∧ (past (s.lineUnit h).emitted ∨ past (s.lineUnit h).gaveUp →
          (t.lineUnit h).seamL = (s.lineUnit h).seamL ∧ (t.lineUnit h).seamR = (s.lineUnit h).seamR)
        ∧ (¬ (past (s.lineUnit h).emitted ∨ past (s.lineUnit h).gaveUp) →
          (if side then (t.lineUnit h).seamR else (t.lineUnit h).seamL) = (d :: if side then (s.lineUnit h).seamR else (s.lineUnit h).seamL).take 64))
    ∧ (∀ (h : Fin 4) (s : State) (c : LineCap) (rest : List LineItem), Running s islLine → (s.lineUnit h).queue = .line c :: rest →
      c.kind = 0 → s.seamAct h false c.number = .wait ∨ s.seamAct h true c.number = .wait →
      Answers (.seamWaitExpired h) s fun t => (t.lineUnit h).seamGiveUp = true ∧ (t.lineUnit h).gaveUp = some c.number
        ∧ Frame [] [.lineUnits] s t)

/-- The steps of a calibration. CAL_DARK and CAL_WHITE that pass the checks start their run with CAL_LINES lines to come, with the
accumulators of the run cleared (both for a dark run), and arm the head, which starts its first line at once where its source
is Ruling; CAL_COMPUTE enters COMPUTING. CAL_CAPTURE_DONE after the last line ends a run, and the head is IDLE.
CAL_COMPUTE_DONE ends in DONE, or in FAILED where a colour has more defects than DEFECT_MAX. Bytes outside the calibration
bank's tables and accumulators stay. (R303, R304, R305, R306, R308, R310, R311) -/
def Obligations.CalibrationRowsComplete : Prop :=
    (∀ (p : Path) (h : Fin 4) (s : State),
      (Takes s p { name := .calCmd, inst := h } 1 → Answers (.calDark p h) s fun t => t.rd .calState h = 1
        ∧ (t.lineUnit h).capLeft = s.rdN .calLines h ∧ t.rd .headState h = (if s.rdN .trigSrc h = 2 then 3 else 2)
        ∧ (∀ k < accSize, t.byteAt (s.calAddr h (accBase false) + k) = 0 ∧ t.byteAt (s.calAddr h (accBase true) + k) = 0)
        ∧ ∀ a, ¬ (s.calAddr h (accBase false) ≤ a ∧ a < s.calAddr h (accBase false) + accSize) →
          ¬ (s.calAddr h (accBase true) ≤ a ∧ a < s.calAddr h (accBase true) + accSize) → t.byteAt a = s.byteAt a)
      ∧ (Takes s p { name := .calCmd, inst := h } 2 → Answers (.calWhite p h) s fun t => t.rd .calState h = 3
        ∧ (t.lineUnit h).capLeft = s.rdN .calLines h ∧ t.rd .headState h = (if s.rdN .trigSrc h = 2 then 3 else 2)
        ∧ (∀ k < accSize, t.byteAt (s.calAddr h (accBase true) + k) = 0)
        ∧ ∀ a, ¬ (s.calAddr h (accBase true) ≤ a ∧ a < s.calAddr h (accBase true) + accSize) → t.byteAt a = s.byteAt a)
      ∧ (Takes s p { name := .calCmd, inst := h } 3 → Answers (.calCompute p h) s fun t => t.rd .calState h = 5
        ∧ Frame [keyOf .calState h 0] [] s t))
    ∧ (∀ (h : Fin 4) (s : State), Running s islLine → (s.lineUnit h).capLeft = 0 →
      (s.rd .calState h = 1 ∨ s.rd .calState h = 3) →
      Answers (.calCaptureDone h) s fun t => t.rd .calState h = s.rd .calState h + 1 ∧ t.rd .headState h = 1
        ∧ Frame [keyOf .calState h 0, keyOf .headState h 0, epochKey (unitHead h), keyOf .tCal h 0] [.heads, .lineUnits, .fresh] s t)
    ∧ (∀ (h : Fin 4) (s : State), Running s islLine → s.rd .calState h = 5 →
      Answers (.calComputeDone h) s fun t =>
        t.rd .calState h = (if s.rdN .defectMax h < (((List.range 3).map fun c => ((s.calRow h c).filter fun x => x.2.2).length).foldl max 0)
          then 7 else 6)
        ∧ (s.rdN .pixels h ≤ 32768 → ∀ a, ¬ (s.calAddr h 0 ≤ a ∧ a < s.calAddr h 0x60000) →
          ¬ (s.calAddr h 0x62000 ≤ a ∧ a < s.calAddr h 0x65000) → t.byteAt a = s.byteAt a))

/-- Temperatures and covers in LINE and in the heads. TEMPERATURE_ARRIVAL_LINE gives every head with that source the entry's
value, fresh. TEMP_AGE_EXPIRED makes it stale. COVER_INPUT_CHANGE follows the input and debounces a change of an enabled
cover. COVER_DEBOUNCE_EXPIRED declares the cover as its input is, and an opening in SCAN or CALIBRATE is reported with
COVER_OPEN. (R317, R318, R328, R329, R346) -/
def Obligations.TemperaturesAndCoversComplete : Prop :=
    (∀ (e : Fin 64) (s : State), Running s islLine → s.fenced islHeath = false →
      Answers (.temperatureArrivalLine e) s fun t =>
        (∀ h : Fin 4, s.rdN .lineTempSrc h = e → (t.lineUnit h).tempNext = s.rd .heathValue 0 e ∧ (t.lineUnit h).aged = false)
        ∧ (∀ h : Fin 4, s.rdN .lineTempSrc h ≠ e → t.lineUnit h = s.lineUnit h) ∧ Frame [] [.lineUnits] s t)
    ∧ (∀ (h : Fin 4) (s : State), Running s islLine → s.rdN .tempMaxAge h ≠ 0 → s.rdN .lineTempSrc h ≤ 63 →
      Answers (.tempAgeExpired h) s fun t => (t.lineUnit h).aged = true ∧ Frame [] [.lineUnits] s t)
    ∧ (∀ (h : Fin 4) (high : Bool) (s : State), s.live = true →
      Answers (.coverInputChange h high) s fun t => (t.head h).coverPin = high
        ∧ ((t.head h).coverRuns = true ↔ s.rd .coverEn h ≠ 0 ∧ high ≠ decide (s.rd .coverState h ≠ 0)) ∧ Frame [] [.heads] s t)
    ∧ (∀ (h : Fin 4) (s : State), Running s h → s.rd .coverEn h ≠ 0 → (s.head h).coverRuns = true →
      Answers (.coverDebounceExpired h) s fun t => t.rd .coverState h = u32 (bit01 (s.head h).coverPin)
        ∧ (t.head h).coverRuns = false
        ∧ ((s.head h).coverPin = true → s.modes.mode = .scan ∨ s.modes.mode = .calibrate → s.fenced islHost = false →
          t.newest = some (Event.coverOpen, unitHead h, u32 h))
        ∧ Frame [keyOf .coverState h 0] (.heads :: .modes :: reporting) s t)

/-- What the writes of an axis do. AXIS_EN 1 takes an axis from OFF to STANDSTILL where its mode is not OFF; AXIS_EN 0 leaves it
OFF. MOVE_CMD 1 to 4 and 7 leave the move waiting for the next planning cycle; 5 stops within DEC_MAX (STOPPING), 6 at once
(STANDSTILL, speed 0; an open-loop axis becomes uncertain, an encoder axis takes its position from the encoder). RETARGET sets
TARGET and waits in the same way. POS_SET sets POS, and ENC_POS to match on an encoder axis. FAULT_CLR takes an axis from
FAULT to STANDSTILL without a cause. ENC_EN sets or clears POS_UNCERTAIN. Nothing else changes but the axis epoch, CAL_STATE
in PREPARE (R48) and, where the axis is paced, PACE_STATE. (R361, R367, R370, R371, R372, R378, R380, R382, R384, R385) -/
def Obligations.AxisWritesComplete : Prop :=
    ∀ (p : Path) (a : Fin 6) (s : State),
    let kept (t : State) : Prop := ∀ b : Fin 6, b ≠ a → t.axis b = s.axis b
    let ep := epochKey (unitAxis a)
    (Takes s p { name := .axisEn, inst := a } 1 → Answers (.axisEnable p a) s fun t => t.rd .axisEn a = 1
      ∧ t.rdN .axisState a = (if s.rdN .axisState a = 0 ∧ s.rdN .axisMode a ≠ 0 then 1 else s.rdN .axisState a) ∧ kept t
      ∧ Frame (keyOf .axisEn a 0 :: keyOf .axisState a 0 :: ep :: calKeys) (.axes :: .calTime :: reporting) s t)
    ∧ (Takes s p { name := .axisEn, inst := a } 0 → Answers (.axisDisable p a) s fun t => t.rd .axisEn a = 0 ∧ t.rd .axisState a = 0
      ∧ (s.inMotion a = true → s.rdB .encEn a = false → t.uncertain a = true ∧ t.homed a = false) ∧ kept t
      ∧ Frame ([keyOf .axisEn a 0, keyOf .axisState a 0, keyOf .axisStatus a 0, keyOf .pos a 0, keyOf .speed a 0, keyOf .paceState 0 0, ep]
        ++ calKeys) (.axes :: .calTime :: reporting) s t)
    ∧ (Takes s p { name := .moveCmd, inst := a } 1 → Answers (.moveAbs p a) s fun t =>
      (t.axis a).pend = some (.abs (s.rdZ .axisTarget a)) ∧ kept t ∧ Frame [] [.axes] s t)
    ∧ (Takes s p { name := .moveCmd, inst := a } 2 → Answers (.moveRel p a) s fun t =>
      (t.axis a).pend = some (.rel (s.rdZ .axisTarget a)) ∧ kept t ∧ Frame [] [.axes] s t)
    ∧ (Takes s p { name := .moveCmd, inst := a } 3 → Answers (.moveVelPos p a) s fun t =>
      (t.axis a).pend = some (.vel true) ∧ kept t ∧ Frame [] [.axes] s t)
    ∧ (Takes s p { name := .moveCmd, inst := a } 4 → Answers (.moveVelNeg p a) s fun t =>
      (t.axis a).pend = some (.vel false) ∧ kept t ∧ Frame [] [.axes] s t)
    ∧ (Takes s p { name := .moveCmd, inst := a } 7 → Answers (.moveHome p a) s fun t =>
      (t.axis a).pend = some .home ∧ kept t ∧ Frame [] [.axes] s t)
    ∧ (Takes s p { name := .moveCmd, inst := a } 5 → Answers (.moveStop p a) s fun t => (t.axis a).pend = none
      ∧ t.rdN .axisState a = (if s.rdN .axisState a = 2 ∨ s.rdN .axisState a = 4 then 3 else s.rdN .axisState a) ∧ kept t
      ∧ Frame [keyOf .axisState a 0, keyOf .paceState 0 0, ep] (.axes :: reporting) s t)
    ∧ (Takes s p { name := .moveCmd, inst := a } 6 → Answers (.moveHalt p a) s fun t => (t.axis a).pend = none
      ∧ (s.inMotion a = true → t.rd .axisState a = 1 ∧ t.rd .speed a = 0 ∧ (s.rdB .encEn a = true → t.rd .pos a = i32 (s.encUnits a))
        ∧ (s.rdB .encEn a = false → t.uncertain a = true ∧ t.homed a = false ∧ t.rd .pos a = s.rd .pos a))
      ∧ (s.inMotion a = false → Frame [keyOf .paceState 0 0] (.axes :: reporting) s t) ∧ kept t
      ∧ Frame [keyOf .axisState a 0, keyOf .axisStatus a 0, keyOf .pos a 0, keyOf .speed a 0, keyOf .paceState 0 0, ep]
        (.axes :: reporting) s t)
    ∧ (∀ v : U32, Takes s p { name := .retarget, inst := a } v → Answers (.retarget p a v) s fun t => t.rd .axisTarget a = v
      ∧ ((s.axis a).halted = false → (t.axis a).pend = some (.retarget v.toInt)) ∧ kept t
      ∧ Frame (keyOf .retarget a 0 :: keyOf .axisTarget a 0 :: ep :: calKeys) (.axes :: .calTime :: reporting) s t)
    ∧ (∀ v : U32, Takes s p { name := .posSet, inst := a } v → Answers (.posSet p a v) s fun t => t.rd .pos a = v
      ∧ (s.rdB .encEn a = true → t.rd .encPos a = i32 (roundRat (mkRat (v.toInt * 65536) (max 1 (s.rdN .encScale a))))) ∧ kept t
      ∧ (s.rdB .encEn a = false → t.rd .encPos a = s.rd .encPos a)
      ∧ Frame [keyOf .pos a 0, keyOf .encPos a 0] [.axes] s t)
    ∧ (Takes s p { name := .axisFaultClr, inst := a } 1 → Answers (.axisFaultClr p a) s fun t =>
      (s.rdN .axisState a = 5 → t.rd .axisState a = 1 ∧ t.rd .axisFaultCause a = 0) ∧ kept t
      ∧ Frame [keyOf .axisState a 0, keyOf .axisFaultCause a 0, ep] (.axes :: reporting) s t)
    ∧ (∀ on : Bool, Takes s p { name := .encEn, inst := a } (u32 (bit01 on)) → Answers (.encEnWrite p a on) s fun t =>
      t.rdB .encEn a = on ∧ t.uncertain a = !on ∧ (on = false → t.homed a = false) ∧ kept t
      ∧ Frame (keyOf .encEn a 0 :: keyOf .axisStatus a 0 :: ep :: calKeys) (.axes :: .calTime :: reporting) s t)

/-- FAULT_CLR while the cause is present, and of other values. Where the checks before it pass (the X9 in service, the path up, no
other holder of the axis, MOTION not fenced), FAULT_CLR 1 of an axis in FAULT whose cause is still present is refused with
AXIS_FAULT, and the axis stays as it was; FAULT_CLR of any other value is refused with RANGE. The check of values (step 10)
precedes that of the function's state (step 11), so only the value 1 can meet AXIS_FAULT. (R374) -/
def Obligations.FaultClearIsRefusedWhileTheCauseIsPresent : Prop :=
    ∀ (p : Path) (a : Fin 6) (s : State), s.live = true → pathUp s p = true → NoHeld s → (p = .p6 ∨ s.rdN .claim 0 (unitAxis a - 1) = 0xFF) →
    s.fenced islMotion = false →
    (s.rdN .axisState a = 5 → s.causePresent a = true → Answers (.axisFaultClr p a) s fun t =>
      t.rd .axisState a = 5 ∧ t.rd .axisFaultCause a = s.rd .axisFaultCause a ∧ t.axis a = s.axis a
      ∧ (p ≠ .p6 → t.rd .lastStatus 0 p.num = u32 (Status.axisFault.code * 0x1000000 + (0x2600 + 0x20 * a.val) * 0x100 + 0x0F)))
    ∧ ∀ v : U32, v ≠ 1 → (verdict s { path := p, ents := [({ name := .axisFaultClr, inst := a }, v)] }).st = .range

/-- How the axes move. PLANNING_CYCLE takes the sensed currents and the waiting command of every axis: in SCAN or CALIBRATE a move
from STANDSTILL, and a new target in motion, leave the axis MOVING (where no pacing is enabled); an axis at rest with nothing
waiting keeps POS; an axis that moves takes the speed and acceleration of its profile, SPEED shows that speed, the acceleration
changes by no more than JERK allows in 10 µs, and a profile that ends at a target leaves POS at it. TARGET_REACHED ends a move
whose profile is at rest exactly at its target in STANDSTILL, and one planned to end at a limit with AT_LIMIT and LIMIT_STOP.
STOP_COMPLETE ends a stop at rest in STANDSTILL. ENCODER_TRANSITION counts one step, reversed by ENC_INVERT; where both channels
change it counts an error, which is a fault of an encoder axis that is on. ENCODER_INDEX takes ENC_POS; HOME_SWITCH_EDGE changes
the axis alone, HOLD_DELAY_EXPIRED the axis and its BOOST. That the profile takes the least time within its limits is the model's
reading (log 45). (R362, R364, R365, R368, R369, R371, R372, R378, R383, R396) -/
def Obligations.AxisMotionCompletes : Prop :=
    (∀ (l : List (Nat × Nat)) (s : State), Running s islMotion → Answers (.planningCycle l) s fun t =>
      Frame (calKeys ++ [keyOf .endTarget 0 0, keyOf .freeMin 0 0, keyOf .lastStatus 0 6, keyOf .paceState 0 0, keyOf .pauseCount 0 0,
          keyOf .stopLines 0 0, keyOf .tNom 0 0, keyOf .vCap 0 0]
          ++ (s.feedAxis :: List.range 6).flatMap fun b => [Name.axisSkipCount, .axisState, .axisStatus, .axisTarget, .duty, .encPos,
          .iSenseA, .iSenseB, .pos, .retarget, .speed, .vMax].map (fun n => keyOf n b 0) ++ [epochKey (unitAxis b)])
        (.axes :: .pace :: .calTime :: reporting) s t ∧ ∀ a : Fin 6,
      let unpaced := s.rdN .paceState = 0 ∧ s.rdN .paceEn = 0
      let moves := s.modes.mode = .scan ∨ s.modes.mode = .calibrate
      t.rdN .iSenseA a = min 4095 (l.getD a (0, 0)).1 ∧ t.rdN .iSenseB a = min 4095 (l.getD a (0, 0)).2
      ∧ (unpaced → (t.axis a).pend = none ∧ (t.axis a).halted = false)
      ∧ (s.inMotion a = false → (s.axis a).pend = none → t.rd .pos a = s.rd .pos a)
      ∧ (unpaced → moves → s.rdN .axisState a = 1 →
        ((s.axis a).pend = some (.vel true) ∨ (s.axis a).pend = some (.vel false) ∨ (∃ x, (s.axis a).pend = some (.abs x))
          ∨ (∃ x, (s.axis a).pend = some (.rel x)) ∨ ∃ x, (s.axis a).pend = some (.retarget x)) → t.rdN .axisState a = 2)
      ∧ (unpaced → moves → s.rdN .axisState a = 2 ∨ s.rdN .axisState a = 3 →
        (∃ x, (s.axis a).pend = some (.retarget x)) → t.rdN .axisState a = 2)
      ∧ (s.rdN .axisState a = 2 ∨ s.rdN .axisState a = 3 → (s.axis a).pend = none →
        ((t.axis a).vel, (t.axis a).acc) = s.planned a ∧ t.rd .speed a = i32 (roundDiv (s.planned a).1 20000000000)
        ∧ ((t.axis a).acc - (s.axis a).acc).natAbs ≤ s.rdN .jerk a * 1024
        ∧ (s.rdN .axisState a = 2 → s.planned a = (0, 0) → ∀ x : Int, (s.axis a).goal = .target x → t.rd .pos a = i32 x)))
    ∧ (∀ (a : Fin 6) (s : State), Running s islMotion → s.rdN .axisState a = 2 → s.isPaced a = false → s.atRest a = true →
      (s.axis a).frac = 0 → ∀ x : Int, s.rd .pos a = i32 x →
      ((s.axis a).goal = .target x → Answers (.targetReached a) s fun t => t.rd .pos a = i32 x ∧ t.rd .axisState a = 1 ∧ t.rd .speed a = 0
        ∧ Frame [keyOf .axisState a 0, keyOf .speed a 0, epochKey (unitAxis a)] [.axes] s t)
      ∧ ∀ high : Bool, (s.axis a).goal = .limit x high → Answers (.targetReached a) s fun t => t.rd .pos a = i32 x
        ∧ t.rd .axisState a = 1 ∧ t.statusBit a 3 = true
        ∧ (s.fenced islHost = false → t.newest = some (Event.limitStop, unitAxis a, u32 a))
        ∧ Frame [keyOf .axisState a 0, keyOf .speed a 0, keyOf .axisStatus a 0, epochKey (unitAxis a)] (.axes :: reporting) s t)
    ∧ (∀ (a : Fin 6) (s : State), Running s islMotion → s.rdN .axisState a = 3 → s.isPaced a = false → s.atRest a = true →
      Answers (.stopComplete a) s fun t => t.rd .axisState a = 1 ∧ t.rd .speed a = 0 ∧ t.rd .pos a = s.rd .pos a
        ∧ Frame [keyOf .axisState a 0, keyOf .speed a 0, epochKey (unitAxis a)] [.axes] s t)
    ∧ (∀ (a : Fin 6) (x y : Bool) (s : State), s.live = true → Answers (.encoderTransition a x y) s fun t =>
        (t.axis a).encA = x ∧ (t.axis a).encB = y
        ∧ (∀ d : Int, quadStep (s.axis a).encA (s.axis a).encB x y = some d →
          t.rd .encPos a = (if d = 0 then s.rd .encPos a else i32 (s.rdZ .encPos a + (if s.rdB .encInvert a then -d else d)))
          ∧ Frame [keyOf .encPos a 0] [.axes] s t)
        ∧ (quadStep (s.axis a).encA (s.axis a).encB x y = none → t.rdN .encErrors a = min (s.rdN .encErrors a + 1) 4294967295
          ∧ (s.rdB .encEn a = false → Frame [keyOf .encErrors a 0] [.axes] s t)
          ∧ (s.rdB .encEn a = true → s.fenced islMotion = false → s.rdN .axisState a ≠ 0 →
            t.rd .axisState a = 5 ∧ t.rdN .axisFaultCause a = Event.code .encFault)))
    ∧ (∀ (a : Fin 6) (s : State), s.live = true → Answers (.encoderIndex a) s fun t => t.rd .indexPos a = s.rd .encPos a
        ∧ Frame [keyOf .indexPos a 0] [.axes] s t)
    ∧ (∀ (a : Fin 6) (low : Bool) (s : State), s.live = true → Answers (.homeSwitchEdge a low) s fun t => (t.axis a).homeLow = low
        ∧ Frame [] [.axes] s t)
    ∧ ∀ (a : Fin 6) (s : State), Running s islMotion → s.inMotion a = false → (s.axis a).holdRuns = true →
      Answers (.holdDelayExpired a) s fun t => (t.axis a).atHold = true ∧ (t.axis a).holdRuns = false
        ∧ Frame [keyOf .axisStatus a 0] [.axes] s t

/-- Faults of the axes. COIL_OPEN (with SENSE_EN, every sample of the coil below half of a reference of 64 or more), OVERCURRENT
(every sample above I_LIMIT: 4 of them with SENSE_EN, or 256 of coil A in DC mode) and STALL (past DEV_WIN, not in the hard-stop
step of homing) of an axis that is on leave it in FAULT with the event's code as cause and speed 0 where it moved, and report the
event; of an axis that is OFF they only report it. I_SENSE takes the last sample. Nothing else changes. (R372, R384, R400, R401,
R402, R409, R412) -/
def Obligations.AxisFaultsComplete : Prop :=
    ∀ (a : Fin 6) (s : State), Running s islMotion → s.isPaced a = false →
    let sensed := [keyOf .iSenseA a 0, keyOf .iSenseB a 0]
    let fault (ev : Event) (v : U32) (t : State) : Prop :=
      (s.rdN .axisState a ≠ 0 → t.rd .axisState a = 5 ∧ t.rdN .axisFaultCause a = ev.code ∧ (s.inMotion a = true → t.rd .speed a = 0
        ∧ (s.rdB .encEn a = false → t.uncertain a = true)))
      ∧ (s.rdN .axisState a = 0 → Frame sensed reporting s t)
      ∧ (s.fenced islHost = false → t.newest = some (ev, unitAxis a, v))
      ∧ (∀ b : Fin 6, b ≠ a → t.axis b = s.axis b)
      ∧ Frame ([keyOf .axisFaultCause a 0, keyOf .axisState a 0, keyOf .axisStatus a 0, keyOf .pos a 0, keyOf .speed a 0, epochKey (unitAxis a)]
        ++ sensed) (.axes :: reporting) s t
    (∀ (coil : Fin 2) (samples : List (BitVec 12)) (last : BitVec 12),
      let read (t : State) : Prop := t.rdN (if coil = 0 then .iSenseA else .iSenseB) a = last.toNat
      let ref := if coil = 0 then (s.axis a).irefA else (s.axis a).irefB
      samples.getLast? = some last →
      (s.rdB .senseEn a = true → 64 ≤ ref → (∀ x ∈ samples, 8 * x.toNat < 4 * ref) →
        Answers (.coilOpen a coil samples) s fun t => fault .coilOpen (u32 (a.val + 256 * coil.val)) t ∧ read t)
      ∧ ((s.rdB .senseEn a = true ∧ s.rdN .axisMode a ≠ 3 ∧ 4 ≤ samples.length
          ∨ s.rdN .axisMode a = 3 ∧ coil = 0 ∧ 256 ≤ samples.length) → (∀ x ∈ samples, s.rdN .iLimit a < x.toNat) →
        Answers (.overcurrent a coil samples) s fun t => fault .overcurrent (u32 (a.val + 256 * coil.val)) t ∧ read t))
    ∧ (s.rdB .encEn a = true → s.rdN .devWin a ≠ 0 → s.rdN .devWin a < (s.devOf a).natAbs → ¬ (s.rdN .axisState a = 4 ∧ (s.axis a).home = 7) →
      Answers (.stall a) s (fault .stall (u32 a)))

/-- LOW_WM stays below HIGH_WM. Where some value of LOW_WM or HIGH_WM would be taken from a path, a value that would leave HIGH_WM
at or below LOW_WM is refused with RANGE, and both keep their values. That other checks come first is R115. (R424) -/
def Obligations.WatermarksKeepTheirOrder : Prop :=
    ∀ (p : Path) (s : State) (v w : U32),
    (Takes s p { name := .lowWm } w → s.rdN .highWm ≤ v.toNat → Answers (.dictionaryWrite p 0x2700 4 v 0xF) s fun t =>
      (p ≠ .p6 → t.rd .lastStatus 0 p.num = u32 (Status.range.code * 0x1000000 + 0x270004)) ∧ t.rd .lowWm = s.rd .lowWm ∧ t.rd .highWm = s.rd .highWm)
    ∧ (Takes s p { name := .highWm } w → v.toNat ≤ s.rdN .lowWm → Answers (.dictionaryWrite p 0x2700 5 v 0xF) s fun t =>
      (p ≠ .p6 → t.rd .lastStatus 0 p.num = u32 (Status.range.code * 0x1000000 + 0x270005)) ∧ t.rd .lowWm = s.rd .lowWm ∧ t.rd .highWm = s.rd .highWm)

/-- The paced feed at rest and as free space arrives. FREE_SPACE_ARRIVAL takes the free space that HOST reports for the stream, and
that of the collector from LINK, and does nothing else until the next planning cycle. PLANNING_CYCLE shows the smallest free space
in FREE_MIN; in RUN and APPROACH, with the feed axis on its way, a value at or below LOW_WM stops the feed (DECEL), counts and
reports a pause; in WAIT a value at or above HIGH_WM starts the approach to END_TARGET, where the checks of V_MAX and RETARGET
let it. STOP_COMPLETE of the feed axis in DECEL starts the backoff from the position reached; TARGET_REACHED in BACKOFF leaves
WAIT, or APPROACH where there is room. LINE_DURATION_ARRIVAL of PACE_HEAD sets the scale of the constant-photon feed. (R23, R421,
R427, R428, R430, R434, R435) -/
def Obligations.PacedFeedFollowsItsStates : Prop :=
    (∀ (k : Fin 8) (s : State), Running s islMotion → s.fenced islHost = false → Answers (.freeSpaceArrival k) s fun t =>
      Store.get 0 t.pace.free k = s.rdN .freeRecords k ∧ (s.fenced islLink = false → Store.get 0 t.pace.free 8 = s.link.collFree)
      ∧ Frame [] [.pace] s t)
    ∧ (∀ (l : List (Nat × Nat)) (a : Fin 6) (s : State), Running s islMotion → s.fenced islHost = false → s.feedAxis = a →
      (s.axis a).pend = none → Answers (.planningCycle l) s fun t =>
      t.rd .freeMin = u32 s.freeMinOf
      ∧ (s.rdN .paceState = 1 ∨ s.rdN .paceState = 5 → s.rdN .axisState a = 2 → s.planned a ≠ (0, 0) → s.freeMinOf ≤ s.rdN .lowWm →
        t.rdN .paceState = 2 ∧ t.rdN .pauseCount = min (s.rdN .pauseCount + 1) 4294967295 ∧ t.rdN .axisState a = 3
        ∧ t.newest = some (Event.pacePause, unitHead s.paceHead, t.rd .freeMin))
      ∧ (s.rdN .paceState = 4 → s.rdN .axisState a = 1 → s.rdN .highWm ≤ s.freeMinOf → s.freeMinOf < 4294967296 →
        s.vMaxGate a s.pace.vEff = .ok → s.retargetGate a (s.rdZ .endTarget) = .ok →
        t.rdN .paceState = 5 ∧ t.rd .axisTarget a = s.rd .endTarget ∧ t.rdN .vMax a = s.pace.vEff
        ∧ (t.axis a).pend = some (.retarget (s.rdZ .endTarget)))
      ∧ (s.rdN .paceState = 3 → t.rdN .paceState = 3))
    ∧ (∀ (a : Fin 6) (s : State), Running s islMotion → s.isPaced a = true → s.atRest a = true →
      (s.rdN .axisState a = 3 → s.rdN .paceState = 2 → s.vMaxGate a (s.rdN .backoffV) = .ok →
        s.retargetGate a (s.posZ a - s.paceDir * s.backoffOf) = .ok →
        Answers (.stopComplete a) s fun t => t.rdN .axisState a = 1 ∧ t.rdN .paceState = 3
        ∧ t.pace.pStop = s.posZ a ∧ t.rd .backoffDist = u32 s.backoffOf ∧ t.rd .vMax a = s.rd .backoffV
        ∧ t.rd .axisTarget a = i32 (s.posZ a - s.paceDir * s.backoffOf))
      ∧ (s.rdN .axisState a = 2 → s.rdN .paceState = 3 → (s.axis a).frac = 0 → ∀ x : Int, (s.axis a).goal = .target x →
        s.rd .pos a = i32 x → Answers (.targetReached a) s fun t =>
        t.rd .pos a = i32 x ∧ t.rdN .axisState a = 1 ∧ t.rdN .paceState = (if s.rdN .highWm ≤ s.rdN .freeMin then 5 else 4)))
    ∧ ∀ (h : Fin 4) (s : State), Running s islLight → s.rdN .photonMode = 1 → s.rdN .paceHead = h → s.fenced h = false →
      Answers (.lineDurationArrival h) s fun t => t.pace.scale = s.photonScaleOf (s.head h).predict ∧ Frame [] [.pace] s t

/-- What the writes of a string do. STRING_EN 1 starts the soft start of a string in OFF and turns a fading one back to ON;
STRING_EN 0 lets a lit string fade; STRING_EN 2 turns it off at once with the gate off and reads back as 0. A string that was
fenced is off first (R494). FAULT_CLR takes a string from FAULT to OFF without a cause or a lamp fault, and releases the held
strings of its group where no other string of the group is in FAULT. (R462, R463, R466, R480, R494) -/
def Obligations.StringWritesComplete : Prop :=
    ∀ (p : Path) (k : Fin 8) (s : State),
    let was := if (s.lstr k).rejoin = true ∧ s.lit k = true then 0 else s.stringState k
    let own (t : State) : Prop := (t.lstr k).rejoin = false ∧ (∀ j : Fin 8, j ≠ k → t.lstr j = s.lstr j)
      ∧ Frame ([keyOf .stringEn k 0, keyOf .stringState k 0, epochKey (unitString k)] ++ calKeys) (.strings :: .calTime :: reporting) s t
    (Takes s p { name := .stringEn, inst := k } 1 → Answers (.stringOn p k) s fun t =>
      t.rd .stringEn k = 1 ∧ t.stringState k = (if was = 0 then 1 else if was = 3 then 2 else was) ∧ own t)
    ∧ (Takes s p { name := .stringEn, inst := k } 0 → Answers (.stringOffFade p k) s fun t =>
      t.rd .stringEn k = 0 ∧ t.stringState k = (if was = 1 ∨ was = 2 then 3 else was)
      ∧ (was = 1 ∨ was = 2 → (t.lstr k).fade.map (·.stop) = some 0) ∧ own t)
    ∧ (Takes s p { name := .stringEn, inst := k } 2 → Answers (.stringOffNow p k) s fun t =>
      t.rd .stringEn k = 0 ∧ t.stringState k = (if was = 1 ∨ was = 2 ∨ was = 3 then 0 else was)
      ∧ (was = 1 ∨ was = 2 ∨ was = 3 → (t.lstr k).gate = false ∧ (t.lstr k).fade = none ∧ (t.lstr k).level = 0) ∧ own t)
    ∧ (Takes s p { name := .lsFaultClr, inst := k } 1 → Answers (.stringFaultClr p k) s fun t =>
      (s.stringState k = 4 → t.stringState k = 0 ∧ t.rd .lsFaultCause k = 0 ∧ (k.val < 2 → t.rd .lampFault k 0 = 0 ∧ t.rd .lampFault k 1 = 0)
        ∧ ∀ j : Fin 8, s.stringState j = 5 → s.groupOf j = s.groupOf k →
          (∀ i : Fin 8, i ≠ k → s.groupOf i = s.groupOf k → s.stringState i ≠ 4) → t.stringState j = 0)
      ∧ Frame ([keyOf .lsFaultCause k 0, keyOf .lampFault k 0, keyOf .lampFault k 1] ++ calKeys
        ++ (List.range 8).flatMap fun j => [keyOf .stringState j 0, epochKey (unitString j)]) (.strings :: .calTime :: reporting) s t)

/-- Faults of strings and lamps. A fault declared outside OFF under the condition of the fault table leaves the string in FAULT
with its cause, its gate off and STRING_EN 0, reports its event (GROUP_OFF too in a group), and puts every other string of its
group that is not in FAULT in GROUP_HELD, unless the group is relaxed or there is none. This holds of STRING_SHORT_SS (below a
tenth of VOUT_NOM or 16 limit trips, in the soft start), STRING_OVERCURRENT (lit, 16 limit trips), STRING_OPEN (plain, above
OVP_V), LAMP_SHORT (plain, 64 values 0.6 LAMP_V below the baseline) and, with its event after the locate step, LAMP_OPEN
(matrix). LAMP_LOCATE_DONE marks the lamps of LAMP_MASK whose voltage reached OVP_V and reports LAMP_OPEN with the lowest.
LAMP_CHECK, in a period with a long enough on-time, goes on to the next lamp, and a lamp that drops less than 0.4 LAMP_V is
marked and a fault. (R462, R475, R477, R478, R479, R480, R482, R483) -/
def Obligations.StringFaultsComplete : Prop :=
    ∀ (k : Fin 8) (s : State), Running s islLight →
    let g := s.groupOf k
    let held (j : Nat) : Prop := g ≤ 7 ∧ s.rdB .groupRelax g = false ∧ s.groupOf j = g ∧ s.stringState j ≠ 4
    let fault (ev : Event) (v : U32) (t : State) : Prop :=
      t.stringState k = 4 ∧ t.rdN .lsFaultCause k = ev.code ∧ t.rd .stringEn k = 0 ∧ (t.lstr k).gate = false
      ∧ (∀ j : Fin 8, j ≠ k → (held j → t.stringState j = 5 ∧ t.rd .stringEn j = 0 ∧ (t.lstr j).gate = false)
        ∧ (¬ held j → t.stringState j = s.stringState j ∧ t.rd .stringEn j = s.rd .stringEn j))
      ∧ (7 < g → ev ≠ .lampOpen → s.fenced islHost = false → t.newest = some (ev, unitString k, v))
      ∧ Frame ([keyOf .lsFaultCause k 0, keyOf .lampFault k 0, keyOf .lampFault k 1] ++ calKeys
        ++ (List.range 8).flatMap fun j => [keyOf .stringState j 0, keyOf .stringEn j 0, epochKey (unitString j)])
        (.strings :: .calTime :: reporting) s t
    let trips (cs : List (BitVec 12)) : Prop := 16 ≤ cs.length ∧ ∀ x ∈ cs, s.rdN .csLimit k ≤ x.toNat
    (∀ (v : BitVec 16) (cs : List (BitVec 12)), s.stringState k = 1 → (trips cs ∨ 10 * v.toNat < s.rdN .voutNom k) →
      Answers (.stringShortSs k v cs) s (fault .stringShortSs (u32 k)))
    ∧ (∀ cs : List (BitVec 12), s.stringState k = 2 ∨ s.stringState k = 3 → trips cs →
      Answers (.stringOvercurrent k cs) s (fault .stringOvercurrent (u32 k)))
    ∧ (∀ v : BitVec 16, s.stringState k ≠ 0 → s.matrix k = false → s.rdN .ovpV k < v.toNat →
      Answers (.stringOpen k v) s (fault .stringOpen (u32 k)))
    ∧ (∀ vs : List (BitVec 16), s.stringState k = 2 ∨ s.stringState k = 3 → s.matrix k = false → (s.lstr k).learn = false →
      64 ≤ vs.length → (∀ v ∈ vs, 10 * 65536 * (v.toNat : Int) < 10 * (s.lstr k).base - 6 * 65536 * s.rdN .lampV k) →
      Answers (.lampShort k vs) s (fault .lampShort (u32 (k.val + 0xFF00))))
    ∧ (∀ v : BitVec 16, s.stringState k ≠ 0 → s.matrix k = true → s.rdN .ovpV k < v.toNat → (s.lstr k).locating = false →
      Answers (.lampOpen k v) s fun t => fault .lampOpen 0 t ∧ (t.lstr k).locating = true)
    ∧ (∀ vs : List (BitVec 16), s.matrix k = true → (s.lstr k).locating = true → Answers (.lampLocateDone k vs) s fun t =>
      t.pair64 .lampFault k = s.pair64 .lampFault k ||| s.located k vs ∧ (t.lstr k).locating = false
      ∧ (∀ j : Fin 64, bitAt (s.located k vs) j = true → (∀ i : Fin 64, i < j → bitAt (s.located k vs) i = false) →
        s.fenced islHost = false → t.newest = some (Event.lampOpen, unitString k, u32 (k.val + 256 * j.val)))
      ∧ Frame [keyOf .lampFault k 0, keyOf .lampFault k 1] (.strings :: reporting) s t)
    ∧ (∀ (b a : BitVec 16) (j : Nat), s.matrix k = true → s.modes.mode = .calibrate ∨ (s.modes.mode = .scan ∧ s.rdB .checkScan k = true) →
      s.stringState k = 2 ∨ s.stringState k = 3 → s.longOn k = true →
      (((List.range 64).map fun i => ((s.lstr k).lamp + i) % 64).find? fun i => bitAt (s.pair64 .lampMask k) i && !bitAt (s.pair64 .bypPattern k) i) = some j →
      Answers (.lampCheck k b a) s fun t => (t.lstr k).lamp = (j + 1) % 64
        ∧ (10 * ((b.toNat : Int) - a.toNat) < 4 * s.rdN .lampV k →
          fault .lampShort (u32 (k.val + 256 * j)) t ∧ t.pair64 .lampFault k = s.pair64 .lampFault k ||| 2 ^ j)
        ∧ (¬ 10 * ((b.toNat : Int) - a.toNat) < 4 * s.rdN .lampV k → Frame [] [.strings] s t))

/-- Dimming periods, soft starts, baselines and temperatures of the strings. DIMMING_PERIOD_START loads DIM, PWM_PERIOD, I_SET
and the scale as its buffer holds them and shows VOUT_MEAS; of a string below T_SHUT it takes the next step of a fade that did
not begin in this LIGHT cycle and ends a fade-out at level 0 in OFF, and a string that was fenced is off. SOFT_START_DONE takes
a string to ON with the fade up to its level. BASELINE_LEARN_END takes the mean as the baseline. STRING_TEMPERATURE_ARRIVAL
gives every string with that source the temperature, and one at or above T_SHUT that is not OFF is in FAULT by STRING_TSHUT.
STRING_TEMP_STALE reports the first of an episode. (R455, R457, R461, R462, R469, R476, R481, R486, R488, R490, R494) -/
def Obligations.LightRowsComplete : Prop :=
    (∀ (k : Fin 8) (v : BitVec 16) (q : List (BitVec 32)) (s : State), Running s islLight → Answers (.dimmingPeriodStart k v q) s fun t =>
      let cool := ∀ x, (s.lstr k).temp = some x → s.rdN .lsTempSrc k ≠ 0xFF → realRat x < realRat (s.rd .tShut k)
      let keys := [keyOf .voutMeas k 0, keyOf .lsSkipCount k 0, keyOf .photonClips k 0, keyOf .photonScale 0 0, keyOf .stringEn k 0,
        keyOf .stringState k 0, epochKey (unitString k)]
      t.rdN .voutMeas k = v.toNat ∧ (t.lstr k).dim = s.buffered k 0 (s.rdN .dim k)
      ∧ (t.lstr k).period = s.buffered k 1 (s.rdN .lsPwmPeriod k) ∧ (t.lstr k).iSet = s.buffered k 2 (s.rdN .iSet k)
      ∧ (t.lstr k).scale = s.scaleFor k ∧ (t.lstr k).rejoin = false
      ∧ s.rdN .lsSkipCount k ≤ t.rdN .lsSkipCount k ∧ t.rdN .lsSkipCount k ≤ s.rdN .lsSkipCount k + q.length + 1
      ∧ (cool → ((s.lstr k).rejoin = true → s.lit k = true → t.stringState k = 0 ∧ t.rd .stringEn k = 0 ∧ (t.lstr k).gate = false)
        ∧ ((s.lstr k).rejoin = false →
          (∀ f : Fade, (s.lstr k).fade = some f → (s.lstr k).made ≠ s.lightNow → (t.lstr k).level = fadeLevel { f with step := f.step + 1 })
          ∧ ((s.lstr k).fade = none → (t.lstr k).level = (s.lstr k).level)
          ∧ t.stringState k = (if s.stringState k = 3 ∧ (t.lstr k).level = 0 then 0 else s.stringState k)
          ∧ (t.stringState k = 2 ∨ t.stringState k = 3 → (t.lstr k).gate = true ∧ (t.lstr k).dimOut = true))
        ∧ (∀ j : Fin 8, j ≠ k → t.lstr j = s.lstr j) ∧ Frame keys (.strings :: reporting) s t)
      ∧ Frame (keys ++ calKeys ++ (List.range 8).flatMap fun j => [keyOf .lsFaultCause j 0, keyOf .stringState j 0, keyOf .stringEn j 0,
        epochKey (unitString j)]) (.strings :: .calTime :: reporting) s t)
    ∧ (∀ (k : Fin 8) (s : State), Running s islLight → s.stringState k = 1 → Answers (.softStartDone k) s fun t =>
      t.stringState k = 2 ∧ (t.lstr k).fade.map (·.stop) = some (s.fullLevel k) ∧ (t.lstr k).learn = !s.matrix k
      ∧ Frame [keyOf .stringState k 0, epochKey (unitString k)] [.strings] s t)
    ∧ (∀ (k : Fin 8) (v : BitVec 16) (s : State), Running s islLight → (s.lstr k).learn = true → Answers (.baselineLearnEnd k v) s fun t =>
      (t.lstr k).learn = false ∧ (t.lstr k).base = 65536 * (v.toNat : Int) ∧ Frame [] [.strings] s t)
    ∧ (∀ (e : Fin 64) (s : State), Running s islLight → s.fenced islHeath = false → Answers (.stringTemperatureArrival e) s fun t =>
      (∀ k : Fin 8, s.rdN .lsTempSrc k = e → (t.lstr k).temp = some (s.rd .heathValue 0 e) ∧ (t.lstr k).stale = false
        ∧ (realRat (s.rd .tShut k) ≤ realRat (s.rd .heathValue 0 e) → s.stringState k ≠ 0 → s.stringState k ≠ 4 →
          t.stringState k = 4 ∧ t.rdN .lsFaultCause k = Event.code .stringTshut ∧ t.rd .stringEn k = 0 ∧ (t.lstr k).gate = false))
      ∧ (∀ k : Fin 8, s.rdN .lsTempSrc k ≠ e → (t.lstr k).temp = (s.lstr k).temp)
      ∧ ((∀ k : Fin 8, s.rdN .lsTempSrc k = e → realRat (s.rd .heathValue 0 e) < realRat (s.rd .tShut k)) →
        Frame ((List.range 8).map fun k => keyOf .derate k 0) [.strings] s t)
      ∧ Frame (calKeys ++ (List.range 8).flatMap fun j => [keyOf .derate j 0, keyOf .lsFaultCause j 0, keyOf .stringState j 0,
        keyOf .stringEn j 0, epochKey (unitString j)]) (.strings :: .calTime :: reporting) s t)
    ∧ (∀ (k : Fin 8) (s : State), Running s islLight → s.rdN .lsTempSrc k ≤ 63 → (s.lstr k).stale = false →
      Answers (.stringTempStale k) s fun t => (t.lstr k).stale = true ∧ (s.fenced islHost = false → t.newest = some (Event.stringTempStale, unitString k, u32 k))
        ∧ Frame [] (.strings :: reporting) s t)

/-- What the writes of Heath do. HEATH_EN 1 that passes the checks starts Heath from OFF: BAD_ENTRY reads 0xFF and every converter
with entries routes its first; refused with SCAN_INVALID it leaves the lowest failing entry in BAD_ENTRY. HEATH_EN 0 stops it:
OFF where nothing converts or awaits delivery, STOPPING otherwise. URGENT routes its entry on an idle converter at once and
waits on another. PLAUS_CLR clears the halts of the pairs named. Nothing else changes but Heath's epoch and PASS_COUNT. (R509,
R511, R523, R527, R532, R534) -/
def Obligations.HeathWritesComplete : Prop :=
    ∀ (p : Path) (s : State),
    (Takes s p { name := .heathEn } 1 → s.heathSt = 0 → Answers (.heathEnable p) s fun t =>
      t.rd .heathEn = 1 ∧ t.heathSt = 1 ∧ t.rd .badEntry = 0xFF ∧ t.heath.seen = []
      ∧ (∀ k : Fin 3, ((s.nextEntry k 0).isSome = true → (t.conv k).phase = 1 ∧ some (t.conv k).entry = s.nextEntry k 0)
        ∧ (s.nextEntry k 0 = none → (t.conv k).phase = 0) ∧ (t.conv k).results = [])
      ∧ Frame [keyOf .heathEn 0 0, keyOf .heathState 0 0, keyOf .badEntry 0 0, keyOf .passCount 0 0, epochKey unitHeath]
        (.convs :: .heath :: reporting) s t)
    ∧ (Takes s p { name := .heathEn } 1 → s.heathSt = 1 → Answers (.heathEnable p) s fun t =>
      t.rd .heathEn = 1 ∧ t.heathSt = 1 ∧ Frame [keyOf .heathEn 0 0, epochKey unitHeath] reporting s t)
    ∧ (Refuses s p { name := .heathEn } 1 .scanInvalid → Answers (.heathEnable p) s fun t =>
      t.rdN .badEntry = s.badScan.getD 0xFF ∧ t.heathSt = s.heathSt)
    ∧ (Takes s p { name := .heathEn } 0 → Answers (.heathDisable p) s fun t => t.rd .heathEn = 0
      ∧ t.heathSt = (if s.heathSt = 1 then (if ∀ k : Fin 3, (s.conv k).phase ≤ 1 ∧ (s.conv k).results = [] then 0 else 2) else s.heathSt)
      ∧ (s.heathSt = 1 → ∀ k : Fin 3, (t.conv k).want = none ∧ (t.conv k).inPass = false ∧ (t.conv k).results = (s.conv k).results)
      ∧ Frame [keyOf .heathEn 0 0, keyOf .heathState 0 0, epochKey unitHeath] (.convs :: reporting) s t)
    ∧ (∀ v : BitVec 8, Takes s p { name := .urgent } (v.setWidth 32) → Answers (.urgent p v) s fun t =>
      let k := s.scanConv v.toNat - 1
      ((s.conv k).phase = 0 → (t.conv k).phase = 1 ∧ (t.conv k).entry = v.toNat ∧ (t.conv k).urgent = true)
      ∧ ((s.conv k).phase ≠ 0 → (t.conv k).want = some v.toNat ∧ (t.conv k).phase = (s.conv k).phase) ∧ Frame [] [.convs] s t)
    ∧ (∀ v : BitVec 8, Takes s p { name := .plausClr } (v.setWidth 32) → Answers (.plausClr p v) s fun t =>
      (∀ j : Fin 4, j.val ∈ t.heath.halts ↔ j.val ∈ s.heath.halts ∧ bitAt v.toNat j = false) ∧ Frame [] (.heath :: reporting) s t)

/-- Routing, conversion and delivery of Heath. HEATH_ROUTING_DONE starts the conversion. HEATH_CONVERSION_END queues its result
with its code held to the converter's span, and a current source driven past 10 V marked as open. SCAN_PERIOD_TICK starts a
pass on every converter whose pass has ended. MAINS_ZERO_CROSSING keeps the last eight periods and shows their mean frequency;
the eighth outside 45 to 65 Hz loses the mains. HEATH_RESULT_DELIVERY takes the oldest result: VALUE of its entry, linear for
curve 0 without excitation, and a record of 64 bytes to the stream of ROUTE, or to the slot RING_HEAD of the ring, where only
that slot's bytes change. (R500, R504, R505, R506, R507, R512, R516, R522, R523, R528, R529) -/
def Obligations.HeathRowsComplete : Prop :=
    (∀ (k : Fin 3) (s : State), Running s islHeath → s.heathSt ≠ 0 → (s.conv k).phase = 1 → Answers (.heathRoutingDone k) s fun t =>
      (t.conv k).phase = 2 ∧ (t.conv k).entry = (s.conv k).entry ∧ (t.conv k).period = s.mainsPeriod.1 ∧ Frame [] [.convs, .out] s t)
    ∧ (∀ (k : Fin 3) (c c2 q : Int) (e1 e2 : BitVec 32) (o : BitVec 16) (s : State), Running s islHeath → (s.conv k).phase = 2 →
      Answers (.heathConversionEnd k c c2 q e1 e2 o) s fun t =>
        (t.conv k).results.length = (s.conv k).results.length + 1
        ∧ (∀ r, (t.conv k).results.getLast? = some r → r.entry = (s.conv k).entry ∧ r.code = s.codeOf (s.conv k).entry c ∧ r.e1 = e1.toNat
          ∧ r.opened = (decide (10000 < o.toNat) && decide (s.scanExc (s.conv k).entry = 1)) ∧ r.urgent = (s.conv k).urgent ∧ r.time = (s.stamp islHeath).toNat)
        ∧ (s.heathSt ≠ 1 → (t.conv k).phase = 0)
        ∧ Frame [keyOf .passCount 0 0] [.convs, .fresh, .out] s t)
    ∧ (∀ s : State, Running s islHeath → s.heathSt = 1 → s.rdN .scanPeriod ≠ 0 → Answers .scanPeriodTick s fun t =>
      (∀ k : Fin 3, (s.conv k).inPass = false → ∀ e : Nat, s.nextEntry k 0 = some e → (t.conv k).inPass = true
        ∧ (t.conv k).pass = ((s.conv k).pass + 1) % 4294967296
        ∧ ((s.conv k).phase = 0 → (s.conv k).want = none → (t.conv k).phase = 1 ∧ (t.conv k).entry = e))
      ∧ (∀ k : Fin 3, (s.conv k).inPass = true → t.conv k = s.conv k)
      ∧ ((∃ k : Fin 3, (s.conv k).inPass = true) → t.heath.overrun = true)
      ∧ Frame [keyOf .passCount 0 0] (.convs :: .heath :: reporting) s t)
    ∧ (∀ (v : BitVec 32) (s : State), Running s islHeath → Answers (.mainsZeroCrossing v) s fun t =>
      t.heath.periods = (v.toNat :: s.heath.periods).take 8
      ∧ t.rd .mainsFreq = ratReal (mkRat (1000000000 * t.heath.periods.length : Nat) (max 1 (t.heath.periods.foldl (· + ·) 0)))
      ∧ (1000000000 ≤ 65 * v.toNat → 45 * v.toNat ≤ 1000000000 → t.heath.bad = 0 ∧ t.heath.lost = false)
      ∧ (¬ (1000000000 ≤ 65 * v.toNat ∧ 45 * v.toNat ≤ 1000000000) → t.heath.bad = s.heath.bad + 1
        ∧ (7 ≤ s.heath.bad → t.heath.lost = true
          ∧ (s.heath.lost = false → s.fenced islHost = false → t.newest.map (·.1) = some Event.mainsLost)))
      ∧ Frame [keyOf .mainsFreq 0 0] (.heath :: reporting) s t)
    ∧ (∀ (k : Fin 3) (s : State) (r : HResult) (rest : List HResult), Running s islHeath → (s.conv k).results = r :: rest →
      Answers (.heathResultDelivery k) s fun t => (t.conv k).results = rest ∧ r.entry ∈ t.heath.seen
        ∧ (s.scan r.entry 6 = 0 → 15 < s.scan r.entry 7 → s.scanExc r.entry = 0 →
          t.rd .heathValue 0 r.entry
            = ratReal (realRat (s.scanReal r.entry 12) * s.volts r.entry r.code + realRat (s.scanReal r.entry 16)))
        ∧ (s.rdN .heathRoute = 0xFF → s.fenced islStore = false → t.rdN .ringHead = (s.rdN .ringHead + 1) % 1024
          ∧ ∀ a, ¬ (resultRingAt + 64 * s.rdN .ringHead ≤ a ∧ a < resultRingAt + 64 * s.rdN .ringHead + 64) → t.byteAt a = s.byteAt a)
        ∧ (s.rdN .heathRoute = 0xFF → s.fenced islStore = true →
          t.rdN .heathDropped = min (s.rdN .heathDropped + 1) 4294967295 ∧ t.rd .ringHead = s.rd .ringHead ∧ t.mem = s.mem)
        ∧ (s.rdN .heathRoute ≠ 0xFF → t.mem = s.mem ∧ t.rd .ringHead = s.rd .ringHead
          ∧ (t.stream (s.rdN .heathRoute)).coming.length = (s.stream (s.rdN .heathRoute)).coming.length + 1
          ∧ (t.stream (s.rdN .heathRoute)).coming.getLast?.map List.length = some 64)
        ∧ Frame [keyOf .heathValue 0 r.entry, keyOf .plausState 0 0, keyOf .heathDropped 0 0, keyOf .ringHead 0 0, keyOf .heathState 0 0,
          epochKey unitHeath] (.convs :: .heath :: .streams :: .mem :: .modes :: reporting) s t)

/-- What the writes of a timer channel do. RUN 1 starts a STOPPED channel at count 0 with the shadow as its period, ARMED in
trigger mode and RUNNING otherwise; RUN 0 stops it at its count, but for a slave reset of the same cycle, and discards an open
pair; a capture of the same cycle is taken back. A compare write takes its half of
the comparator at once, and one that equals the present count bars a match until the count changes. A period write goes to the
shadow; the live period stays. Nothing else changes but the group's epoch, and CAL_STATE in PREPARE. (R537, R541, R543, R546,
R548, R549, R566) -/
def Obligations.TimerWritesComplete : Prop :=
    ∀ (p : Path) (c : Fin 32) (s : State),
    let kept (t : State) : Prop := ∀ d : Fin 32, d ≠ c → t.timer d = s.timer d
    (Takes s p { name := .tmrRun, inst := c } 1 → Answers (.timerStart p c) s fun t => t.rd .tmrRun c = 1
      ∧ (s.rdN .tmrState c = 0 → t.rdN .tmrState c = (if s.rdN .slaveMode c = 2 then 1 else 2) ∧ (t.timer c).count = 0
        ∧ (t.timer c).period = s.periodShadow c ∧ (t.timer c).acc = 0)
      ∧ (s.rdN .tmrState c ≠ 0 → t.rd .tmrState c = s.rd .tmrState c ∧ t.timer c = s.timer c) ∧ kept t
      ∧ Frame ([keyOf .tmrRun c 0, keyOf .tmrState c 0, epochKey (unitTimer c)] ++ calKeys) (.timers :: .calTime :: reporting) s t)
    ∧ (Takes s p { name := .tmrRun, inst := c } 0 → Answers (.timerStop p c) s fun t => t.rd .tmrRun c = 0 ∧ t.rdN .tmrState c = 0
      ∧ (s.rdN .tmrState c ≠ 0 → (t.timer c).openRise = none
        ∧ ((∀ n, (s.timer c).resetAt ≠ some (s.cycle, n)) → s.counting c = false ∨ (s.ticks c).isSome = true →
          t.timerCount c = s.timerCount c)) ∧ kept t
      ∧ ((s.timer c).capAt ≠ some s.cycle →
        Frame ([keyOf .tmrRun c 0, keyOf .tmrState c 0, epochKey (unitTimer c)] ++ calKeys) (.timers :: .calTime :: reporting) s t)
      ∧ Frame ([keyOf .tmrRun c 0, keyOf .tmrState c 0, epochKey (unitTimer c)] ++ captureEntries.map (fun x => keyOf x.1 c x.2) ++ calKeys)
        (.timers :: .calTime :: reporting) s t)
    ∧ (∀ (useB high : Bool) (v : U32),
      let n : Name := if useB then (if high then .cmpBHi else .cmpBLo) else (if high then .cmpAHi else .cmpALo)
      Takes s p { name := n, inst := c } v → Answers (.compareWrite p c useB high v) s fun t => t.rd n c = masked n v
        ∧ (s.counting c = false ∨ (s.ticks c).isSome = true →
          (useB = false → t.cmpA c = s.timerCount c → (t.timer c).barA = some (s.timerCount c))
          ∧ (useB = true → t.cmpB c = s.timerCount c → (t.timer c).barB = some (s.timerCount c)))
        ∧ (t.timer c).count = (s.timer c).count ∧ (t.timer c).period = (s.timer c).period ∧ kept t
        ∧ Frame (keyOf n c 0 :: epochKey (unitTimer c) :: calKeys) (.timers :: .calTime :: reporting) s t)
    ∧ (∀ (high : Bool) (v : U32), let n : Name := if high then .periodHi else .periodLo
      Takes s p { name := n, inst := c } v → Answers (.periodWrite p c high v) s fun t => t.rd n c = masked n v
        ∧ (t.timer c).period = (s.timer c).period ∧ (t.timer c).count = (s.timer c).count ∧ kept t
        ∧ Frame (keyOf n c 0 :: epochKey (unitTimer c) :: calKeys) (.timers :: .calTime :: reporting) s t)

/-- Timer settings are refused while the channel runs. A write of one of these entries that would be taken were the channel
STOPPED is refused with TIMER_RUNNING while it is not, and no entry takes a value. That the checks of R115 that come first are
met is what the hypothesis says. (R542) -/
def Obligations.TimerSettingsNeedAStoppedChannel : Prop :=
    ∀ (p : Path) (c : Fin 32) (n : Name) (w : U32) (s : State), n ∈ [Name.clkSrc, .prescN, .prescF, .oneShot, .outPin, .slaveMode, .slaveSrc, .slaveEdgeSel,
      .slaveWatch, .capSrc, .capEdge, .capFilter, .capPresc] → s.rdN .tmrState c ≠ 0 →
    Takes ((Op.put .tmrState c 0 0).apply s) p { name := n, inst := c } w →
    (verdict s { path := p, ents := [({ name := n, inst := c }, w)] }).st = .timerRunning
    ∧ Answers (.dictionaryWrite p (BitVec.ofNat 16 (Ent.index { name := n, inst := c })) (BitVec.ofNat 8 (Ent.sub { name := n, inst := c })) w 0xF) s fun t =>
      t.rd n c = s.rd n c

/-- Rollovers, matches, slave edges and captures. TIMER_ROLLOVER of a channel whose count has reached P sets the count to 0,
counts a rollover and loads the period shadow; a one-shot channel stops (or is ARMED again in trigger mode). TIMER_MATCH of a
comparator that the count reaches marks it matched and sets, clears or toggles the output; match A of channel 31 gives the
frame-sync trigger. SLAVE_EDGE, past the filter, in reset mode zeroes a RUNNING count, in place of a rollover of its cycle, and in
trigger mode starts an ARMED channel. CAPTURE_EDGE of a qualifying edge past the filter stores count and time and steps CAP_SEQ;
an edge at a pin less than 2 ns after the one before is passed over. (R540, R541, R543, R545, R552, R555, R556, R559, R560, R562,
R565) -/
def Obligations.TimerRowsComplete : Prop :=
    (∀ (c : Fin 32) (s : State), Running s islTimer → s.counting c = true →
      (∀ n : Nat, s.ticks c = some n → s.livePeriod c ≤ (s.timer c).count + n) → Answers (.timerRollover c) s fun t =>
        (t.timer c).count = 0 ∧ t.rdN .rollovers c = min (s.rdN .rollovers c + 1) 4294967295
        ∧ ((s.timer c).wrP = none → (t.timer c).period = s.periodShadow c)
        ∧ (s.rdB .oneShot c = false → t.rd .tmrState c = s.rd .tmrState c)
        ∧ (s.rdB .oneShot c = true → s.rdN .slaveMode c = 2 → t.rdN .tmrState c = 1)
        ∧ (s.rdB .oneShot c = true → s.rdN .slaveMode c ≠ 2 → t.rdN .tmrState c = 0 ∧ t.rd .tmrRun c = 0)
        ∧ (s.rdN .slaveMode c = 1 → s.rdN .slaveWatch c ≠ 0 → s.rdN .slaveWatch c ≤ (s.timer c).turns + 1 → (t.timer c).lost = true)
        ∧ Frame ([keyOf .rollovers c 0, keyOf .tmrState c 0, keyOf .tmrRun c 0, epochKey (unitTimer c)] ++ calKeys)
          (.timers :: .calTime :: reporting) s t)
    ∧ (∀ (c : Fin 32) (s : State), Running s islTimer → (s.timer c).wrA = none → (s.timer c).wrB = none →
      (s.reaches c (s.cmpA c) (s.timer c).barA = true → Answers (.timerMatch c false) s fun t => (t.timer c).barA = some (s.cmpA c)
        ∧ (t.timer c).pin = (if s.rdN .outMode c = 2 then !(s.timer c).pin
          else if s.rdN .outMode c = 1 ∧ (s.timer c).lowAt ≠ some s.cycle then true else (s.timer c).pin)
        ∧ (c.val = 31 → t.out.head? = some (.frameSync s.cycle)) ∧ Frame [] [.timers, .out] s t)
      ∧ (s.reaches c (s.cmpB c) (s.timer c).barB = true → Answers (.timerMatch c true) s fun t => (t.timer c).barB = some (s.cmpB c)
        ∧ (t.timer c).pin = (if s.rdN .outMode c = 1 then false else (s.timer c).pin) ∧ Frame [] [.timers, .out] s t))
    ∧ (∀ (c : Fin 32) (level : Bool) (held : BitVec 16) (s : State), Running s islTimer → s.rdN .slaveSrc c ≠ 0 →
      s.filtered c (s.rdN .slaveSrc c) held.toNat = true → Answers (.slaveEdge c level held) s fun t =>
      (t.timer c).level = level
      ∧ (s.rdN .slaveMode c = 1 → level = decide (s.rdN .slaveEdgeSel c = 0) → (t.timer c).turns = 0 ∧ (t.timer c).lost = false
        ∧ (s.rdN .tmrState c = 2 → (t.timer c).count = 0 ∧ (t.timer c).period = s.periodShadow c
          ∧ ((s.timer c).rollAt = some s.cycle → t.rdN .rollovers c = (s.timer c).rollsWas % 4294967296)))
      ∧ (s.rdN .slaveMode c = 2 → level = decide (s.rdN .slaveEdgeSel c = 0) → s.rdN .tmrState c = 1 →
        t.rdN .tmrState c = 2 ∧ (t.timer c).count = 0)
      ∧ (s.rdN .slaveMode c ≠ 2 → t.rd .tmrState c = s.rd .tmrState c)
      ∧ Frame [keyOf .tmrState c 0, keyOf .rollovers c 0, epochKey (unitTimer c)] [.timers, .fresh, .out] s t)
    ∧ (∀ (c : Fin 32) (rising : Bool) (ago : BitVec 16) (s : State), Running s islTimer → s.rdN .tmrState c ≠ 0 → s.rdN .capSrc c ≠ 0 →
      s.filtered c (s.rdN .capSrc c) ago.toNat = true →
      let near := s.rdN .capSrc c ≤ 0x11 ∧ ∃ e, (s.timer c).lastEdge = some e ∧ s.time.toNat - ago.toNat < e + 8
      let counted := rising = decide (s.rdN .capEdge c ≠ 1)
      let n := if s.rdN .capPresc c = 0 then 256 else s.rdN .capPresc c
      let taken := (counted ∧ n ≤ (s.timer c).edges + 1) ∨ (¬ counted ∧ s.rdN .capEdge c = 2 ∧ (s.timer c).openRise.isSome = true)
      Answers (.captureEdge c rising ago) s fun t =>
        (near → Frame [] [] s t)
        ∧ (¬ near → taken → t.rdN .capSeq c = (s.rdN .capSeq c + 1) % 4294967296 ∧ t.rdN .capTime c 0 = (s.time.toNat - ago.toNat) % 4294967296
          ∧ (rising = true → t.rd .capRiseLo c = u32 (s.timerCount c) ∧ t.rd .capRiseHi c = u32 (s.timerCount c / 4294967296))
          ∧ (rising = false → t.rd .capFallLo c = u32 (s.timerCount c) ∧ t.rd .capFallHi c = u32 (s.timerCount c / 4294967296)))
        ∧ (¬ near → ¬ taken → (counted → (t.timer c).edges = (s.timer c).edges + 1) ∧ Frame [] [.timers] s t)
        ∧ Frame [keyOf .capRiseLo c 0, keyOf .capRiseHi c 0, keyOf .capFallLo c 0, keyOf .capFallHi c 0, keyOf .capTime c 0, keyOf .capTime c 1,
          keyOf .capPeriod c 0, keyOf .capWidth c 0, keyOf .capSeq c 0] [.timers, .fresh] s t)

/-- What the writes of a bank do. An OWNER write that changes the owner leaves the bank in DRAIN with the new owner, marked as in
transition. POWER_REQ 0 and 1 drain an ON bank towards OFF and FALLOW; 0 turns a FALLOW bank OFF at once, with its content
zero and no owner; 2 marks the bank until its power is up. A write of the value that stands has no effect at all. No other
bank changes; bytes outside the bank stay, and the bank's too unless it goes from FALLOW to OFF. (R575, R576, R577, R578,
R579) -/
def Obligations.BankWritesComplete : Prop :=
    ∀ (p : Path) (b : Fin 24) (s : State),
    let kept (t : State) : Prop := (∀ d : Fin 24, d ≠ b → t.bank d = s.bank d ∧ t.rd .bankState d = s.rd .bankState d)
      ∧ ∀ a, ¬ (bankBase b ≤ a ∧ a < bankBase b + 0x200000) → t.byteAt a = s.byteAt a
    let keys (n : Name) : List Nat := [keyOf n b 0, keyOf .owner b 0, keyOf .bankState b 0, epochKey (unitBank b)] ++ calKeys
      ++ (List.range 8).map fun k => keyOf .streamDropped k 0
    (∀ v : BitVec 8, Takes s p { name := .owner, inst := b } (v.setWidth 32) →
      (v.toNat ≠ s.rdN .owner b → Answers (.bankOwnerWrite p b v) s fun t => t.rdN .owner b = v.toNat ∧ t.bankSt b = 3 ∧ (t.bank b).mark = true
        ∧ (t.bank b).goal = 1 ∧ t.mem = s.mem ∧ kept t
        ∧ Frame (keys .owner)
          (.banks :: .rowTest :: .streams :: .calTime :: reporting) s t)
      ∧ (v.toNat = s.rdN .owner b → Answers (.bankOwnerWrite p b v) s fun t => Frame [] [] s t))
    ∧ (∀ v : Nat, v ≤ 2 → Takes s p { name := .bankPowerReq, inst := b } (u32 v) →
      let c : Instr := if v = 0 then .bankPowerOff p b else if v = 1 then .bankFallow p b else .bankPowerOn p b
      (s.rdN .bankPowerReq b ≠ v → Answers c s fun t => t.rdN .bankPowerReq b = v
        ∧ (v = 2 → (t.bank b).mark = true ∧ t.rd .bankState b = s.rd .bankState b ∧ t.mem = s.mem)
        ∧ (v ≤ 1 → s.bankSt b = 2 → t.bankSt b = 3 ∧ (t.bank b).mark = true ∧ (t.bank b).goal = (if v = 1 then 2 else 3) ∧ t.mem = s.mem)
        ∧ (v = 0 → s.bankSt b = 4 → t.bankSt b = 0 ∧ t.rdN .owner b = 0xFF
          ∧ ∀ a, bankBase b ≤ a → a < bankBase b + 0x200000 → t.byteAt a = 0)
        ∧ kept t
        ∧ Frame (keys .bankPowerReq) (.banks :: .rowTest :: .streams :: .mem :: .calTime :: reporting) s t)
      ∧ (s.rdN .bankPowerReq b = v → Answers c s fun t => Frame [] [] s t))

/-- The transitions and row tests of the banks. BANK_DRAIN_DONE goes on to BLOT, to FALLOW with the content kept, or to OFF with
the content zero and no owner. BANK_BLOT_DONE leaves the bank ON, every byte zero, and reports BANK_GRANTED to its owner.
BANK_POWER_UP_DONE takes an OFF bank that is to be on to BLOT, BANK_RETENTION_EXIT a FALLOW one to ON with its content.
ROW_TEST_START takes a row that was put ahead, and marks its bank; ROW_TEST_DONE ends the test, and a failed row takes the
lowest unused spare. Bytes outside the bank never change. (R575, R578, R580, R581, R582, R592, R593, R596) -/
def Obligations.BankTransitionsComplete : Prop :=
    (∀ (b : Fin 24) (s : State), Running s islStore →
      let other (t : State) : Prop := ∀ a, ¬ (bankBase b ≤ a ∧ a < bankBase b + 0x200000) → t.byteAt a = s.byteAt a
      let zero (t : State) : Prop := ∀ a, bankBase b ≤ a → a < bankBase b + 0x200000 → t.byteAt a = 0
      let keys : List Nat := [keyOf .bankState b 0, keyOf .owner b 0, epochKey (unitBank b)] ++ (List.range 8).map fun k => keyOf .streamDropped k 0
      (s.bankSt b = 3 → Answers (.bankDrainDone b) s fun t => other t
        ∧ ((s.bank b).goal = 1 → t.bankSt b = 1 ∧ t.rd .owner b = s.rd .owner b ∧ t.mem = s.mem)
        ∧ ((s.bank b).goal = 2 → t.bankSt b = 4 ∧ t.rd .owner b = s.rd .owner b ∧ t.mem = s.mem ∧ (t.bank b).mark = false)
        ∧ ((s.bank b).goal ≠ 1 → (s.bank b).goal ≠ 2 → t.bankSt b = 0 ∧ t.rdN .owner b = 0xFF ∧ zero t ∧ (t.bank b).mark = false)
        ∧ Frame keys [.banks, .rowTest, .mem] s t)
      ∧ (s.bankSt b = 1 → Answers (.bankBlotDone b) s fun t => other t ∧ zero t ∧ t.bankSt b = 2 ∧ (t.bank b).mark = false
        ∧ (s.rdN .owner b ≠ 0xFF → s.rdN .owner b < 256 → s.fenced islHost = false →
          t.newest = some (Event.bankGranted, unitBank b, u32 (b.val + 256 * s.rdN .owner b)))
        ∧ Frame keys (.banks :: .rowTest :: .mem :: reporting) s t)
      ∧ (s.bankSt b = 0 → s.rdN .bankPowerReq b = 2 → Answers (.bankPowerUpDone b) s fun t => t.bankSt b = 1 ∧ Frame keys [.banks, .rowTest] s t)
      ∧ (s.bankSt b = 4 → s.rdN .bankPowerReq b = 2 → Answers (.bankRetentionExit b) s fun t => t.bankSt b = 2 ∧ (t.bank b).mark = false
        ∧ t.rd .owner b = s.rd .owner b ∧ Frame keys [.banks, .rowTest] s t))
    ∧ (∀ (s : State) (b r : Nat) (rest : List (Nat × Nat)), Running s islStore → s.rdB .bgtEn = true → s.rowTest.testing = none →
      s.rowTest.ahead = (b, r) :: rest → s.testable b r = true → Answers .rowTestStart s fun t =>
        t.rowTest.testing = some (b, r) ∧ t.rowTest.ahead = rest ∧ t.rowTest.pos = s.rowTest.pos
        ∧ (b < 24 → bitAt (t.rdN .bankState b) 6 = true ∧ t.bankSt b = s.bankSt b) ∧ Frame [keyOf .bankState b 0] [.rowTest] s t)
    ∧ (∀ (failed : Bool) (s : State) (b r : Nat), Running s islStore → s.rowTest.testing = some (b, r) → Answers (.rowTestDone failed) s fun t =>
      t.rowTest.testing = none ∧ (b < 24 → bitAt (t.rdN .bankState b) 6 = false ∧ t.bankSt b = s.bankSt b)
      ∧ (failed = false → t.retireds = s.retireds)
      ∧ (failed = true → r < rowsOf b → ∀ k : Fin 4, (∀ x ∈ s.retired b, x.1 ≠ k.val) → (∀ j : Fin 4, j < k → ∃ x ∈ s.retired b, x.1 = j.val) →
        t.retired b = s.retired b ++ [(k.val, r)])
      ∧ Frame [keyOf .bankState b 0, keyOf .bgtPasses 0 0] (.banks :: .rowTest :: .retireds :: reporting) s t)

/-- Accesses to the banks. BANK_ACCESS_READ of a bank by its owner gives its bytes, with 0 in words that have an uncorrectable
error; by any other master it gives zeros and counts a foreign access; without errors an owner's read changes nothing.
BANK_ACCESS_WRITE by the owner stores its bytes at the address, within the bank, and nothing else but the words it writes in
part that have an uncorrectable error; by another master it stores nothing and counts. The HMAC unit's read with an
uncorrectable error starts a wipe. While STORE is fenced a read gives zeros and a write has no effect. (R569, R570, R573,
R574, R587, R588, R589, R602, R622) -/
def Obligations.BankAccessesComplete : Prop :=
    ∀ (m : Master) (addr : BitVec 26) (s : State), s.live = true →
    let b := addr.toNat / 0x200000
    let off := addr.toNat % 0x200000
    (b < 24 → m ≠ .hmac → (m = .path .p0 → s.linkUp = true ∧ s.fenced islHost = false) →
      (∀ (n : BitVec 13) (ce ue : List (BitVec 18)), Answers (.bankAccessRead m addr n ce ue) s fun t =>
        (let l := s.bankData b (masterCode m) off n.toNat ue;
          (if m = .path .p0 then Output.pcieReply l else .busData l) ∈ t.out ∧ l.length = n.toNat
          ∧ (s.fenced islStore = true ∨ s.owns b (masterCode m) = false → l = List.replicate n.toNat 0)
          ∧ (s.fenced islStore = false → s.owns b (masterCode m) = true → ∀ k : Nat, k < n.toNat → off + k < 0x200000 →
            l.getD k 0 = (if ∃ w ∈ ue, w.toNat = (off + k) / 8 then 0 else s.byteAt (addr.toNat + k))))
        ∧ (s.fenced islStore = true ∨ (s.owns b (masterCode m) = true ∧ ce = [] ∧ ue = []) → Frame [] [.out] s t)
        ∧ (s.fenced islStore = false → s.owns b (masterCode m) = false → t.rdN .foreignCount b = min (s.rdN .foreignCount b + 1) 4294967295
          ∧ (t.bank b).foreignR = true)
        ∧ Frame [keyOf .ceCount b 0, keyOf .ueCount b 0, keyOf .lastUeAddr b 0, keyOf .foreignCount b 0]
          (.banks :: .rowTest :: reporting) s t)
      ∧ (∀ (data : List Byte) (ce ue : List (BitVec 18)), Answers (.bankAccessWrite m addr data ce ue) s fun t =>
        (s.fenced islStore = true → Frame [] [] s t)
        ∧ (s.fenced islStore = false → s.owns b (masterCode m) = false → t.mem = s.mem
          ∧ t.rdN .foreignCount b = min (s.rdN .foreignCount b + 1) 4294967295 ∧ (t.bank b).foreignW = true)
        ∧ (s.fenced islStore = false → s.owns b (masterCode m) = true →
          (∀ k : Nat, k < data.length → off + k < 0x200000 → t.byteAt (addr.toNat + k) = data.getD k 0)
          ∧ (∀ a, ¬ (addr.toNat ≤ a ∧ a < addr.toNat + data.length ∧ a < 0x200000 * (b + 1)) →
            (∀ w ∈ ue, ¬ (bankBase b + 8 * w.toNat ≤ a ∧ a < bankBase b + 8 * w.toNat + 8)) → t.byteAt a = s.byteAt a))
        ∧ Frame [keyOf .ceCount b 0, keyOf .ueCount b 0, keyOf .lastUeAddr b 0, keyOf .foreignCount b 0]
          (.banks :: .rowTest :: .mem :: reporting) s t))
    ∧ (∀ (n : BitVec 13) (ce ue : List (BitVec 18)), ue ≠ [] → Answers (.bankAccessRead .hmac addr n ce ue) s fun t =>
      t.rd .keyState = 2 ∧ t.rd .keyId = 0 ∧ t.secure.causes = s.secure.causes ++ [4] ∧ Frame [keyOf .keyState 0 0, keyOf .keyId 0 0] [.secure] s t)

/-- KEY_LOAD. A KEY_LOAD of exactly 32 bytes that the checks take stores the key in the key slot, sets KEY_STATE to 1 and KEY_ID
to the first 4 bytes of its SHA-256, and reports KEY_LOADED; every other byte stays. Another length is refused with LENGTH.
Past the checks that come before, it is refused with UNIT_ABSENT while SAFE is fenced, with LC_STATE in MANUFACTURE and
RETURNED, and with KEY_PRESENT while KEY_STATE is not 0. KEY_ID reads 0 once the key is wiped. (R598, R599, R600) -/
def Obligations.TheKeyIsLoadedOnce : Prop :=
    ∀ (p : Path) (s : State) (data : List Byte),
    let st := (domVerdict s { path := p, ent := { name := .keyLoad }, size := data.length, data := data }).st
    (s.live = true → pathUp s p = true → st = .ok → Answers (.keyLoad p data) s fun t => data.length = 32
      ∧ t.rd .keyState = 1 ∧ t.rd .keyId = u32 (leNat ((sha256 data).take 4))
      ∧ (∀ k : Nat, k < 32 → t.byteAt (secureBase + k) = data.getD k 0)
      ∧ (∀ a, ¬ (secureBase ≤ a ∧ a < secureBase + 32) → t.byteAt a = s.byteAt a)
      ∧ (s.fenced islHost = false → t.newest = some (Event.keyLoaded, 0, t.rd .keyId))
      ∧ Frame [keyOf .keyLoad 0 0, keyOf .keyState 0 0, keyOf .keyId 0 0] (.mem :: reporting) s t)
    ∧ (data.length ≠ 32 → st = .length)
    ∧ (data.length = 32 → p = .p6 ∨ s.granted p = true → s.fenced islSafe = true → st = .unitAbsent)
    ∧ (data.length = 32 → p = .p6 ∨ s.granted p = true → s.fenced islSafe = false →
      (s.rdN .lifeCycle ∉ [1, 2] → st = .lcState)
      ∧ (s.rdN .lifeCycle ∈ [1, 2] → s.rdN .keyState ≠ 0 → st = .keyPresent)
      ∧ (s.rdN .lifeCycle ∈ [1, 2] → s.rdN .keyState = 0 → st = .ok))
    ∧ (∀ w : U32, Takes s p { name := .wipe } w → Answers (.wipe p w) s fun t => t.rd .keyState = 2 ∧ t.rd .keyId = 0)

/-- Wipes, the life cycle and tamper detection. WIPE starts a wipe with cause 3, LC_ADVANCE one with cause 2 while the fuses blow,
a detector bit newly set by TAMPER_DETECTED one with cause 1: KEY_STATE reads 2 and KEY_ID 0. KEY_SLOT_WIPED zeroes the key
slot and closes open pages; SECURE_WIPE_DONE zeroes all of SECURE, with KEY_STATE 0, and reports the causes. LC_FUSES_BLOWN
advances LIFE_CYCLE and from DEPLOYED on fixes TAMPER_EN at 0x0F. TAMPER_CLR clears the bits named. LOW_VOLTAGE_CHECK_ARMED
arms the check. No byte outside SECURE changes. (R601, R602, R603, R604, R605, R606, R607, R608, R610) -/
def Obligations.SafeRowsComplete : Prop :=
    (∀ (p : Path) (s : State),
      (∀ w : U32, Takes s p { name := .wipe } w → Answers (.wipe p w) s fun t => t.rd .keyState = 2 ∧ t.rd .keyId = 0
        ∧ t.secure.causes = s.secure.causes ++ [3] ∧ Frame [keyOf .keyState 0 0, keyOf .keyId 0 0] [.secure] s t)
      ∧ (∀ v : BitVec 8, Takes s p { name := .lcAdvance } (v.setWidth 32) → Answers (.lcAdvance p v) s fun t => t.secure.blow = some v.toNat
        ∧ v.toNat = s.rdN .lifeCycle + 1 ∧ t.rd .keyState = 2 ∧ t.rd .keyId = 0 ∧ t.secure.causes = s.secure.causes ++ [2]
        ∧ Frame [keyOf .keyState 0 0, keyOf .keyId 0 0] [.secure] s t)
      ∧ (∀ v : BitVec 8, Takes s p { name := .tamperClr } (v.setWidth 32) → Answers (.tamperClr p v) s fun t =>
        t.rdN .tamperState = s.rdN .tamperState &&& (255 - v.toNat) ∧ Frame [keyOf .tamperState 0 0] reporting s t))
    ∧ (∀ (conds : BitVec 4) (dip : Bool) (s : State),
      let seen := (conds.toNat ||| (if dip && s.secure.armed then 4 else 0)) &&& s.rdN .tamperEn
      Answers (.tamperDetected conds dip) s fun t => t.secure.present = conds.toNat ∧ t.rdN .tamperState = s.rdN .tamperState ||| seen
        ∧ (s.rdN .tamperState ||| seen ≠ s.rdN .tamperState → t.rd .keyState = 2 ∧ t.rd .keyId = 0 ∧ t.secure.causes = s.secure.causes ++ [1]
          ∧ (s.rdN .tamperState = 0 → s.live = true → s.fenced islHost = false → t.newest = some (Event.tamper, 0, t.rd .tamperState)))
        ∧ (s.rdN .tamperState ||| seen = s.rdN .tamperState → Frame [] [.secure] s t)
        ∧ Frame [keyOf .tamperState 0 0, keyOf .keyState 0 0, keyOf .keyId 0 0] (.secure :: .modes :: reporting) s t)
    ∧ (∀ s : State, s.secure.causes ≠ [] →
      (Answers .keySlotWiped s fun t => (∀ k : Nat, k < 32 → t.byteAt (secureBase + k) = 0)
        ∧ (∀ a, ¬ (secureBase ≤ a ∧ a < secureBase + 32) → t.byteAt a = s.byteAt a)
        ∧ (∀ h : Fin 4, (s.lineUnit h).page.isSome = true → ∃ d ≤ stampQuantum islLine, (t.lineUnit h).queue = (s.lineUnit h).queue ++ [.close (s.time + BitVec.ofNat 64 d).toNat])
        ∧ Frame [] [.lineUnits, .mem, .fresh] s t)
      ∧ Answers .secureWipeDone s fun t => (∀ k : Nat, k < 0x40000 → t.byteAt (secureBase + k) = 0)
        ∧ (∀ a, ¬ (secureBase ≤ a ∧ a < secureBase + 0x40000) → t.byteAt a = s.byteAt a)
        ∧ t.rd .keyState = 0 ∧ t.secure.causes = [] ∧ Frame [keyOf .keyState 0 0] (.secure :: .mem :: reporting) s t)
    ∧ (∀ (s : State) (v : Nat), s.secure.blow = some v → Answers .lcFusesBlown s fun t => t.rd .lifeCycle = u32 v ∧ t.secure.blow = none
      ∧ t.rdN .tamperEn = (if 2 ≤ v then 0x0F else s.rdN .tamperEn)
      ∧ (s.live = true → s.fenced islHost = false → t.newest = some (Event.lcChanged, 0, u32 v))
      ∧ Frame [keyOf .lifeCycle 0 0, keyOf .tamperEn 0 0] (.secure :: reporting) s t)
    ∧ (∀ s : State, s.phase ≠ .unpowered → Answers .lowVoltageCheckArmed s fun t => t.secure.armed = true ∧ Frame [] [.secure] s t)

/-- What the writes of a stream do. STREAM_EN 1 takes a STOPPED stream to RUNNING, empty. STREAM_EN 0 of a running one keeps at
most the record in flight, counts the others as discarded, and is STOPPING while one is in flight, STOPPED otherwise. RD_PTR
takes its value and FREE_RECORDS follows. A new buffer base or size sets both pointers to 0. Nothing else changes but the
stream's epoch, the FREE_RECORDS that HOST sends with it, and CAL_STATE in PREPARE. (R639, R653, R655, R656, R658, R659, R661, R662) -/
def Obligations.StreamWritesComplete : Prop :=
    ∀ (p : Path) (k : Fin 8) (s : State),
    let kept (t : State) : Prop := ∀ j : Fin 8, j ≠ k → t.stream j = s.stream j
    let flight := if (s.stream k).begun = s.hostCycle then [] else (s.stream k).flight.take 1
    (Takes s p { name := .streamEn, inst := k } 1 → Answers (.streamEnable p k) s fun t => t.rd .streamEn k = 1 ∧ t.streamSt k = 1
      ∧ (s.streamSt k = 0 → (t.stream k).store = [] ∧ (t.stream k).flight = [] ∧ (t.stream k).storeLost = false
        ∧ t.rd .freeRecords k = u32 (t.freeRecordsNow k)) ∧ kept t
      ∧ Frame ([keyOf .streamEn k 0, keyOf .streamState k 0, epochKey (unitStream k)] ++ freeKeys ++ calKeys)
        (.streams :: .calTime :: reporting) s t)
    ∧ (Takes s p { name := .streamEn, inst := k } 0 → Answers (.streamDisable p k) s fun t => t.rd .streamEn k = 0
      ∧ (s.streamSt k = 1 → (t.stream k).flight = flight ∧ t.streamSt k = (if flight = [] then 0 else 2)
        ∧ t.rdN .streamDiscarded k = min 4294967295 (s.rdN .streamDiscarded k + ((s.stream k).flight.length - flight.length)
          + (if flight = [] then (s.stream k).store.length else 0)))
      ∧ (s.streamSt k ≠ 1 → t.rd .streamState k = s.rd .streamState k ∧ t.stream k = s.stream k) ∧ kept t
      ∧ Frame ([keyOf .streamEn k 0, keyOf .streamState k 0, keyOf .streamDiscarded k 0, epochKey (unitStream k)] ++ freeKeys ++ calKeys)
        (.streams :: .calTime :: reporting) s t)
    ∧ (∀ v : U32, Takes s p { name := .rdPtr, inst := k } v → Answers (.rdPtrWrite p k v) s fun t => t.rd .rdPtr k = v
      ∧ t.rd .freeRecords k = u32 (t.freeRecordsNow k) ∧ kept t
      ∧ Frame ([keyOf .rdPtr k 0, epochKey (unitStream k)] ++ freeKeys ++ calKeys) (.streams :: .calTime :: reporting) s t)
    ∧ (∀ (part : Fin 3) (v : U32), let e : Ent := if part.val = 2 then { name := .bufLog2, inst := k } else { name := .bufBase, inst := k, item := part }
      Takes s p e v → Answers (.streamBufferConfig p k part v) s fun t => t.rd e.name e.inst e.item = v ∧ t.rd .wrPtr k = 0 ∧ t.rd .rdPtr k = 0
        ∧ Frame ([e.key, keyOf .wrPtr k 0, keyOf .rdPtr k 0, epochKey (unitStream k)] ++ calKeys) (.calTime :: reporting) s t)

/-- Records through a stream. STREAM_RECORD_ARRIVAL takes the oldest record on its way, unless the stream is still writing another and
holds its source back: while HOST is fenced it is dropped and counted; on a stream that does not run, or in a mode that does
not let it out (the model's choice, log 68), it is discarded and counted; one longer than the buffer is dropped and stops the
stream; otherwise it joins the records placed in the buffer, or the store, with the next device sequence in its first four
bytes, or is dropped. STAGE_TRANSFER moves the oldest of the store where there is room and nothing is being written.
STREAM_RECORD_WRITTEN writes the record at WR_PTR, wrapping, in writes within the payload size in force, and steps WR_PTR and
the count. STREAM_IRQ_TIMEOUT signals the stream's vector. MSIX_HOLDOFF_EXPIRED signals again where a cause arose meanwhile.
(R619, R627, R640, R641, R642, R645, R648, R649, R655, R657, R660) -/
def Obligations.StreamRowsComplete : Prop :=
    (∀ (k : Fin 8) (s : State) (r : List Byte) (rest : List (List Byte)), s.live = true → (s.stream k).coming = r :: rest → 64 ≤ r.length →
      (s.streamBusy k r = true → Answers (.streamRecordArrival k) s fun t => t = s)
      ∧ (s.streamBusy k r = false → Answers (.streamRecordArrival k) s fun t => (t.stream k).coming = rest
        ∧ (s.fenced islHost = true → t.rdN .streamDropped k = min (s.rdN .streamDropped k + 1) 4294967295 ∧ (t.stream k).flight = (s.stream k).flight
          ∧ (t.stream k).store = (s.stream k).store)
        ∧ (s.fenced islHost = false → s.streamSt k ≠ 1 ∨ s.modes.mode.delivers (recordKind r) = false →
          t.rdN .streamDiscarded k = min 4294967295 (s.rdN .streamDiscarded k + 1)
          ∧ (t.stream k).flight = (s.stream k).flight ∧ t.rd .streamState k = s.rd .streamState k)
        ∧ (s.fenced islHost = false → s.streamSt k = 1 → s.modes.mode.delivers (recordKind r) = true →
          (2 ^ s.rdN .bufLog2 k < r.length → t.rdN .streamDropped k = min (s.rdN .streamDropped k + 1) 4294967295 ∧ t.streamSt k ≠ 1)
          ∧ (r.length ≤ 2 ^ s.rdN .bufLog2 k → t.streamSt k = 1
            ∧ ((s.stream k).store = [] → r.length ≤ s.bufRoom k →
              (t.stream k).flight = (s.stream k).flight ++ [leBytes 4 (s.rep.seq + 1).toNat ++ r.drop 4] ∧ (t.stream k).store = [])
            ∧ (¬ ((s.stream k).store = [] ∧ r.length ≤ s.bufRoom k) → r.length ≤ s.storeRoom k →
              (t.stream k).store = (s.stream k).store ++ [leBytes 4 (s.rep.seq + 1).toNat ++ r.drop 4] ∧ (t.stream k).flight = (s.stream k).flight)
            ∧ (¬ ((s.stream k).store = [] ∧ r.length ≤ s.bufRoom k) → ¬ r.length ≤ s.storeRoom k →
              t.rdN .streamDropped k = min (s.rdN .streamDropped k + 1) 4294967295 ∧ (t.stream k).overflow = true)))
        ∧ Frame ([keyOf .streamState k 0, keyOf .streamDropped k 0, keyOf .streamDiscarded k 0, epochKey (unitStream k),
          keyOf .heathDropped 0 0] ++ freeKeys) (.streams :: .heath :: reporting) s t))
    ∧ (∀ (k : Fin 8) (s : State) (r : List Byte) (rest : List (List Byte)), Running s islHost → s.streamSt k = 1 → (s.stream k).store = r :: rest →
      (r.length ≤ s.bufRoom k → (s.stream k).flight = [] → Answers (.stageTransfer k) s fun t => (t.stream k).store = rest
        ∧ (t.stream k).flight = [r] ∧ Frame [] [.streams] s t)
      ∧ (¬ r.length ≤ s.bufRoom k ∨ (s.stream k).flight ≠ [] → Answers (.stageTransfer k) s fun t => t = s))
    ∧ (∀ (k : Fin 8) (s : State) (r : List Byte) (rest : List (List Byte)), Running s islHost → s.canInitiate = true → (s.stream k).flight = r :: rest →
      let size := 64 * s.bufUnits k
      let off := 64 * (s.rdN .wrPtr k % s.bufUnits k)
      let most := max 1 s.ring.maxPayload
      let first := payloads most (r.take (size - off)).length (s.rd64 .bufBase k + off) (r.take (size - off))
      let second := payloads most (r.drop (size - off)).length (s.rd64 .bufBase k) (r.drop (size - off))
      Answers (.streamRecordWritten k) s fun t => (t.stream k).flight = rest
        ∧ t.rdN .wrPtr k = ((s.rdN .wrPtr k + r.length / 64) % s.ptrMod k) % 4294967296
        ∧ t.rdN .streamRecords k = min (s.rdN .streamRecords k + 1) 4294967295
        ∧ (∀ o ∈ first ++ second, o ∈ t.out ∧ ∃ a l, o = .hostWrite a l ∧ l.length ≤ most)
        ∧ ((first ++ second).flatMap fun o => match o with | .hostWrite _ l => l | _ => []) = r
        ∧ Frame ([keyOf .wrPtr k 0, keyOf .streamRecords k 0, keyOf .streamState k 0, keyOf .streamDiscarded k 0,
          epochKey (unitStream k)] ++ freeKeys) (.streams :: reporting) s t)
    ∧ (∀ (k : Fin 8) (s : State), Running s islHost → s.rdN .irqTime k ≠ 0 → (s.stream k).since ≠ 0 → Answers (.streamIrqTimeout k) s fun t =>
      (t.stream k).since = 0 ∧ (s.canInitiate = true → t.out = .msix (5 + k) :: s.out) ∧ Frame [] [.streams, .out] s t)
    ∧ (∀ (v : Fin 5) (s : State), s.live = true → Answers (.msixHoldoffExpired v) s fun t =>
      ((s.vector v).again = false → t.vector v = {} ∧ t.out = s.out)
      ∧ ((s.vector v).again = true → s.canInitiate = true → s.fenced islHost = false → t.out = .msix v :: s.out ∧ (t.vector v).holdoff = true)
      ∧ Frame [] [.vectors, .out] s t)

/-- The command ring and the PCI Express link. CMD_EN 1 starts a ring that is OFF with all four indices 0, and resumes a halted
one where it stands; CMD_EN 0 turns it OFF once nothing of it is outstanding. The tails take their values. COMMAND_FETCH reads
the entry at CMD_HEAD; COMMAND_FETCH_COMPLETE executes the record as the row of its opcode does and steps CMD_HEAD;
COMMAND_FETCH_ERROR halts the ring with PCIE_FETCH_ERROR. PCIE_LINK_UP of a permitted width shows the link and takes the sizes of
payload and read request that the host programs, the payload within the 512 bytes advertised; PCIE_LINK_LOSS stops the streams and
the ring, resets P0's sequence, grant and claims, and is reported. PCIE_REQUEST_REFUSED only answers. What code PCIE_LINK_DOWN
gives a cause is a free value of the model (log 30). (R619, R621, R623, R632, R633, R634, R636, R637, R663, R664) -/
def Obligations.RingAndLinkRowsComplete : Prop :=
    (∀ (p : Path) (s : State),
      (Takes s p { name := .cmdEn } 1 → Answers (.cmdRingEnable p) s fun t => t.rd .cmdEn = 1 ∧ t.rdN .ringState = 1
        ∧ (s.rdN .ringState = 0 → t.rd .cmdHead = 0 ∧ t.rd .cmdTail = 0 ∧ t.rd .cplHead = 0 ∧ t.rd .cplTail = 0 ∧ t.ring = { s.ring with fetching := false, stopping := false })
        ∧ (s.rdN .ringState ≠ 0 → t.rd .cmdHead = s.rd .cmdHead ∧ t.rd .cplHead = s.rd .cplHead)
        ∧ Frame [keyOf .cmdEn 0 0, keyOf .ringState 0 0, keyOf .cmdHead 0 0, keyOf .cmdTail 0 0, keyOf .cplHead 0 0, keyOf .cplTail 0 0]
          (.ring :: reporting) s t)
      ∧ (Takes s p { name := .cmdEn } 0 → Answers (.cmdRingDisable p) s fun t => t.rd .cmdEn = 0
        ∧ (s.rdN .ringState = 2 ∨ (s.rdN .ringState = 1 ∧ s.ring.fetching = false ∧ (s.cmd 0).running = false) →
          t.rdN .ringState = 0 ∧ t.ring = { s.ring with fetching := false, stopping := false })
        ∧ (s.rdN .ringState = 1 → s.ring.fetching = true ∨ (s.cmd 0).running = true → t.rdN .ringState = 1 ∧ t.ring.stopping = true)
        ∧ Frame [keyOf .cmdEn 0 0, keyOf .ringState 0 0] (.ring :: reporting) s t)
      ∧ (∀ v : BitVec 16, Takes s p { name := .cmdTail } (v.setWidth 32) → Answers (.cmdTailWrite p v) s fun t =>
        t.rdN .cmdTail = v.toNat ∧ Frame [keyOf .cmdTail 0 0] reporting s t)
      ∧ (∀ v : BitVec 16, Takes s p { name := .cplTail } (v.setWidth 32) → Answers (.cplTailWrite p v) s fun t =>
        t.rdN .cplTail = v.toNat ∧ Frame [keyOf .cplTail 0 0] reporting s t))
    ∧ (∀ s : State, Running s islHost →
      (s.rdN .ringState = 1 → s.ring.fetching = false → s.ring.stopping = false → (s.cmd 0).running = false → s.canInitiate = true → s.rdN .cmdHead ≠ s.rdN .cmdTail →
        (s.rdN .cplHead + 65536 - s.rdN .cplTail) % 65536 < 2 ^ s.rdN .cmdLog2 → Answers .commandFetch s fun t => t.ring.fetching = true
          ∧ t.out = .hostRead (s.host64 .cmdBase + 64 * (s.rdN .cmdHead % 2 ^ s.rdN .cmdLog2)) 64 :: s.out ∧ Frame [] [.ring, .out] s t)
      ∧ (∀ bytes : List Byte, s.ring.fetching = true →
        ((parseRecord bytes).opcode = 0 → exec (.commandFetchComplete bytes) s = exec (.nop .p0 (parseRecord bytes)) s)
        ∧ ((parseRecord bytes).opcode = 1 → exec (.commandFetchComplete bytes) s = exec (.read .p0 (parseRecord bytes)) s)
        ∧ ((parseRecord bytes).opcode = 2 → exec (.commandFetchComplete bytes) s = exec (.write .p0 (parseRecord bytes)) s)
        ∧ ((parseRecord bytes).opcode = 3 → exec (.commandFetchComplete bytes) s = exec (.domainWrite .p0 (parseRecord bytes)) s)
        ∧ ((parseRecord bytes).opcode = 4 → exec (.commandFetchComplete bytes) s = exec (.domainRead .p0 (parseRecord bytes)) s)
        ∧ ((parseRecord bytes).opcode = 5 → exec (.commandFetchComplete bytes) s = exec (.journalRead .p0 (parseRecord bytes)) s)
        ∧ (6 ≤ (parseRecord bytes).opcode.toNat → exec (.commandFetchComplete bytes) s = exec (.commandBadOpcode .p0 (parseRecord bytes)) s)
        ∧ ((parseRecord bytes).opcode = 0 → NoHeld s → Answers (.commandFetchComplete bytes) s fun t =>
          t.rdN .cmdHead = (s.rdN .cmdHead + 1) % 65536 ∧ t.ring.fetching = false))
      ∧ (s.ring.fetching = true → Answers .commandFetchError s fun t => t.ring.fetching = false
        ∧ t.rdN .ringState = (if s.ring.stopping = true ∧ (s.cmd 0).running = false then 0 else 2)
        ∧ t.newest = some (Event.pcieFetchError, 0, u32 (s.rdN .cmdHead)) ∧ Frame [keyOf .ringState 0 0] (.ring :: reporting) s t))
    ∧ (∀ s : State, s.live = true →
      (∀ (sp : Fin 4) (w : Fin 9) (bm : Bool) (payload read : Fin 6),
        (w.val ∈ [1, 2, 4, 8] → Answers (.pcieLinkUp sp w bm payload read) s fun t =>
          t.rdN .linkStatus = sp + 1 + 16 * w + 4096 + 8192 * bit01 bm
          ∧ t.ring = { s.ring with maxPayload := min 512 (128 * 2 ^ payload.val), maxRead := 128 * 2 ^ read.val }
          ∧ Frame [keyOf .linkStatus 0 0] [.ring] s t)
        ∧ (w.val ∉ [1, 2, 4, 8] → Answers (.pcieLinkUp sp w bm payload read) s fun t => t = s))
      ∧ (∀ c : Fin 5, s.rdN .linkStatus ≠ 0 → Answers (.pcieLinkLoss c) s fun t =>
        t.rdN .linkStatus = (if c.val ≤ 1 then s.rdN .linkStatus % 8192 else 0) ∧ t.rdN .ringState = 0 ∧ t.ring = { s.ring with fetching := false, stopping := false }
        ∧ (∀ k : Fin 8, t.streamSt k = 0 ∧ (s.streamSt k ≠ 0 → (t.stream k).flight = [] ∧ (t.stream k).store = []))
        ∧ t.rdN .lastHostSeq 0 0 = 0xFFFF ∧ t.granted .p0 = false ∧ (∀ u : Fin 56, s.rdN .claim 0 u = 0 → t.rdN .claim 0 u = 0xFF)
        ∧ (∀ u : Fin 56, s.rdN .claim 0 u ≠ 0 → t.rd .claim 0 u = s.rd .claim 0 u)
        ∧ (s.fenced islHost = false → t.newest = some (Event.pcieLinkDown, 0, Config.linkLossCode c))
        ∧ Frame ([keyOf .linkStatus 0 0, keyOf .ringState 0 0, keyOf .lastHostSeq 0 0, keyOf .levelGranted 0 0]
          ++ ((List.range 8).flatMap fun k => [keyOf .streamState k 0, keyOf .streamDiscarded k 0, keyOf .freeRecords k 0, epochKey (unitStream k)])
          ++ (List.range 56).flatMap fun u => [keyOf .claim 0 u, keyOf .epoch 0 u]) (.streams :: .ring :: reporting) s t)
      ∧ (∀ b : Bool, Answers (.pcieRequestRefused b) s fun t => t.out = (if b then .poisoned else .unsupported) :: s.out ∧ Frame [] [.out] s t))

/-- Command records that change no entry. Where a path may take a record: one whose HOST_SEQ is not the next completes with
SEQ_GAP and the next expected, and leaves LAST_HOST_SEQ. With the next HOST_SEQ, which LAST_HOST_SEQ takes, NOP of length 0
completes with OK; an opcode above the table's with BAD_OPCODE; READ with the present values of its entries, or with
EPOCH_STALE where its condition fails for any of them; JOURNAL_READ with the entry that follows. On P5 the completion leaves on
the Link. No entry changes but LAST_HOST_SEQ and, on P0, the ring's indices, as long as READ does not read an error count, and
on P5 the replays that LINK still owes. (R125, R127, R129, R130, R135, R136, R137, R138, R155, R910, R911, R912) -/
def Obligations.RecordsComplete : Prop :=
    ∀ (p : Path) (s : State) (r : CmdRecord), ReadyFor s p →
    let next := (s.rdN .lastHostSeq 0 p.num + 1) % 65536
    let only (t : State) : Prop := Frame ([keyOf .lastHostSeq 0 p.num, keyOf .cmdHead 0 0, keyOf .cplHead 0 0, keyOf .ringState 0 0]
      ++ (if p = .p5 then replayKeys else [])) (.cmds :: .unreads :: .ports :: .ring :: .link :: reporting) s t
    let only' (t : State) : Prop := Frame ([keyOf .lastHostSeq 0 p.num, keyOf .lastStatus 0 p.num, keyOf .parErr 0 0, keyOf .qspiErr 0 0,
      keyOf .cmdHead 0 0, keyOf .cplHead 0 0, keyOf .ringState 0 0] ++ (if p = .p5 then replayKeys else [])) (.cmds :: .unreads :: .ports :: .ring :: .link :: reporting) s t
    (r.hostSeq.toNat ≠ next →
      (r.opcode = 0 → Answers (.nop p r) s fun t => Completed s t p r .seqGap (leBytes 2 next) ∧ t.rd .lastHostSeq 0 p.num = s.rd .lastHostSeq 0 p.num ∧ only' t)
      ∧ (r.opcode = 2 → Answers (.write p r) s fun t => Completed s t p r .seqGap (leBytes 2 next) ∧ t.rd .lastHostSeq 0 p.num = s.rd .lastHostSeq 0 p.num ∧ only' t)
      ∧ (r.opcode = 3 → Answers (.domainWrite p r) s fun t => Completed s t p r .seqGap (leBytes 2 next)
        ∧ t.rd .lastHostSeq 0 p.num = s.rd .lastHostSeq 0 p.num ∧ only' t))
    ∧ (r.hostSeq.toNat = next →
      (r.opcode = 0 → r.length = 0 → r.conditional = false → r.bankRef = false → Answers (.nop p r) s fun t => Completed s t p r .ok []
        ∧ t.rdN .lastHostSeq 0 p.num = next ∧ only t)
      ∧ (6 ≤ r.opcode.toNat → Answers (.commandBadOpcode p r) s fun t => Completed s t p r .badOpcode [] ∧ t.rdN .lastHostSeq 0 p.num = next ∧ only' t)
      ∧ (r.opcode = 5 → r.length = 4 → r.conditional = false → r.bankRef = false → Answers (.journalRead p r) s fun t =>
        (∀ e : JEntry, (journalFind s (u32 (r.dataAt 0 4))).2 = some e → Completed s t p r (journalFind s (u32 (r.dataAt 0 4))).1 e.bytes)
        ∧ ((journalFind s (u32 (r.dataAt 0 4))).2 = none → Completed s t p r (journalFind s (u32 (r.dataAt 0 4))).1 [])
        ∧ t.rdN .lastHostSeq 0 p.num = next ∧ only t)
      ∧ (∀ es : List Ent, r.opcode = 1 → r.bankRef = false → r.lengthStatus = .ok → lookupRun p r.index.toNat r.sub.toNat r.count = .ok es →
        (∀ e ∈ es, ∀ i, e.holder = some i → s.fenced i = false) →
        (∀ e ∈ es, e.name ∉ [.lastHostSeq, .deviceSeq, .parPending, .qspiPending, .parErr, .qspiErr, .cmdHead]) →
        (r.conditional = false → Answers (.read p r) s fun t => Completed s t p r .ok (es.flatMap fun e => leBytes 4 (s.readEnt p e).toNat)
          ∧ t.rdN .lastHostSeq 0 p.num = next ∧ only t)
        ∧ (r.conditional = true → (∀ e ∈ es, e.unit.isSome = true) →
          ((∀ e ∈ es, ∀ u, e.unit = some u → s.epochOf u = r.expEpoch.toNat) → Answers (.read p r) s fun t =>
            Completed s t p r .ok (es.flatMap fun e => leBytes 4 (s.readEnt p e).toNat) ∧ t.rdN .lastHostSeq 0 p.num = next ∧ only t)
          ∧ ((∃ e ∈ es, ∃ u, e.unit = some u ∧ s.epochOf u ≠ r.expEpoch.toNat) → Answers (.read p r) s fun t =>
            Completed s t p r .epochStale [] ∧ t.rdN .lastHostSeq 0 p.num = next ∧ only' t))))

/-- Command records that write. A WRITE that passes the checks of R115 completes with OK, and an RW or RWP entry that it writes
alone takes its value; a read-back of SCAN_LIST shows no reserved bit. A DOMAIN_WRITE that passes stores its data, inline or
from the path's bank, at the object's table and nowhere else, and completes with the count. A DOMAIN_READ that passes stores
the object's bytes at the place in the path's bank and nowhere else, and completes with the count; where the bank is not ON
that is a foreign write, and nothing is stored (R573). Entries that answer for themselves or reset the path are left out:
MODE_REQ, NODE_ID, DEVICE_RESET, the ring's and the Link's own. (R82, R83, R84, R125, R126, R131, R132, R134, R573) -/
def Obligations.RecordWritesComplete : Prop :=
    ∀ (p : Path) (s : State) (r : CmdRecord), ReadyFor s p → r.hostSeq.toNat = (s.rdN .lastHostSeq 0 p.num + 1) % 65536 →
    (∀ es : List Ent, r.opcode = 2 → r.bankRef = false → lookupRun p r.index.toNat r.sub.toNat r.count = .ok es →
      (∀ e ∈ es, (accessOf e = .rw ∨ accessOf e = .rwp) ∧ e.name ∉ [.modeReq, .nodeId, .cmdEn, .memberOut, .stringEn, .claim]) →
      let l : List (Ent × U32) := es.zipIdx.map fun x => (x.1, u32 (r.dataAt (4 * x.2) 4))
      (verdict s { path := p, hostSeq := some r.hostSeq.toNat, exp := r.exp, lenSt := r.lengthStatus, ents := l }).st = .ok →
      Answers (.write p r) s fun t => Completed s t p r .ok [] ∧ t.rdN .lastHostSeq 0 p.num = r.hostSeq.toNat
        ∧ ∀ e : Ent, es = [e] → idleWrite s e (u32 (r.dataAt 0 4)) = false → t.rd e.name e.inst e.item = masked e.name (u32 (r.dataAt 0 4)))
    ∧ (∀ (e : Ent) (a : Nat) (n : Nat), r.opcode = 3 → lookup r.index.toNat r.sub.toNat = .ok e → notForPath p e = false →
      s.table e.name e.inst = some (a, n) →
      let size := if r.bankRef then r.bankCount else r.length.toNat
      let data := if r.bankRef then s.bytesAt (bankBase r.bank + r.bankOffset) size else (r.data ++ List.replicate 48 0).take size
      (r.bankRef = true → refStatus s p r = .ok ∧ s.fenced islStore = false ∧ s.owns r.bank p.num = true) →
      (domVerdict s { path := p, hostSeq := some r.hostSeq.toNat, exp := r.exp, lenSt := r.lengthStatus, ent := e, size := size, data := data }).st = .ok →
      Answers (.domainWrite p r) s fun t => Completed s t p r .ok (leBytes 4 size) ∧ t.rdN .lastHostSeq 0 p.num = r.hostSeq.toNat
        ∧ t.rdN e.name e.inst e.item = size % 4294967296
        ∧ (∀ k : Nat, k < size → t.byteAt (a + k) = (storedAs e.name data).getD k 0) ∧ (∀ x, ¬ (a ≤ x ∧ x < a + size) → t.byteAt x = s.byteAt x))
    ∧ (∀ e : Ent, r.opcode = 4 → r.bankRef = true → r.lengthStatus = .ok → lookup r.index.toNat r.sub.toNat = .ok e → notForPath p e = false →
      isDomain e = true → e.name ∉ [.command, .fwdIn] → s.fenced islStore = false → r.conditional = false → refStatus s p r = .ok →
      (isCalTable e.name = true → s.calOwned e.inst = true) →
      let data := (s.domContent p e).take r.bankCount
      (s.owns r.bank p.num = false → Answers (.domainRead p r) s fun t => Completed s t p r .ok (leBytes 4 data.length) ∧ t.mem = s.mem
        ∧ t.rdN .foreignCount r.bank = min (s.rdN .foreignCount r.bank + 1) 4294967295)
      ∧ (s.owns r.bank p.num = true → Answers (.domainRead p r) s fun t => Completed s t p r .ok (leBytes 4 data.length) ∧ t.rdN .lastHostSeq 0 p.num = r.hostSeq.toNat
        ∧ (∀ k : Nat, k < data.length → t.byteAt (bankBase r.bank + r.bankOffset + k) = data.getD k 0)
        ∧ (∀ x, ¬ (bankBase r.bank + r.bankOffset ≤ x ∧ x < bankBase r.bank + r.bankOffset + data.length) → t.byteAt x = s.byteAt x)
        ∧ Frame ([keyOf .lastHostSeq 0 p.num, keyOf .cmdHead 0 0, keyOf .cplHead 0 0, keyOf .ringState 0 0]
          ++ (if p = .p5 then replayKeys else [])) (.mem :: .cmds :: .unreads :: .ports :: .ring :: .link :: reporting) s t))

/-- The parallel port. PAR_READ of a lower half gives the low 16 bits of the entry as mirrored and holds its value for the upper
half, which gives the high 16 bits held (of the present value without one); of no entry it gives 0 and is refused; while HOST
is fenced it gives FFFF. PAR_WRITE_LOWER_HALF posts an entry of at most 16 bits, sign-extended by its type, and stages the
half of a wider one; PAR_WRITE_UPPER_HALF posts the staged value, and without a matching stage is refused with LENGTH.
PAR_FIFO_WRITE assembles a record. COMMAND_FIFO_READ returns the next bytes of the oldest completion. PAR_ERR_READ returns the
count and clears it. FIFO_RESET_WRITE empties the assembly. POSTED_QUEUE_DISPATCH applies the front of the queue and removes
it. While PAR_WAIT_N holds a write, the next access ends its strobe: the write is dropped and refused with BUSY, and what it
staged stays. (R671, R672, R673, R674, R675, R676, R678, R682, R693, R694, R696, R871) -/
def Obligations.ParallelPortRowsComplete : Prop :=
    (∀ (a : BitVec 25) (s : State), s.live = true → let idx := a.toNat / 512
      let sub := a.toNat / 2 % 256
      (s.fenced islHost = true → Answers (.parRead a) s fun t => t.out = .parData 0xFFFF :: s.out ∧ Frame [] [.out] s t)
      ∧ (∀ (i j : Nat) (x : U32) (e : Ent), s.fenced islHost = false → (s.port 1).waiting = some (.write i j x) → lookup idx sub = .ok e →
        ¬ (idx = 0x2020 ∧ sub = 0) → e.name ≠ .parErr → Answers (.parRead a) s fun t => (t.port 1).waiting = none
          ∧ (t.port 1).queue = (s.port 1).queue ∧ t.rd .lastStatus 0 1 = u32 (Status.busy.code * 0x1000000 + i * 0x100 + j)
          ∧ t.rdN .parErr = min (s.rdN .parErr + 1) 65535 ∧ (t.port 1).err = true
          ∧ (∀ f : Ent, lookup i j = .ok f → 2 < (typeOf f).bytes → (t.port 1).stage = some (i, j, x.toNat % 65536)))
      ∧ (s.fenced islHost = false → (s.port 1).waiting = none → ¬ (idx = 0x2020 ∧ sub = 0) →
        (∀ e : Ent, lookup idx sub = .ok e →
          let v := s.windowRead .p1 e
          (a.getLsbD 0 = false → Answers (.parRead a) s fun t => t.out = .parData (v.setWidth 16) :: s.out ∧ (t.port 1).hold = some (idx, sub, v)
            ∧ Frame (if e.name ∈ [.parErr, .qspiErr] then [e.key] else []) [.out, .ports] s t)
          ∧ (a.getLsbD 0 = true → Answers (.parRead a) s fun t => (t.port 1).hold = none ∧ Frame [] [.out, .ports] s t
            ∧ ((s.port 1).hold = none → t.out = .parData ((v >>> 16).setWidth 16) :: s.out)
            ∧ ∀ x : U32, (s.port 1).hold = some (idx, sub, x) → t.out = .parData ((x >>> 16).setWidth 16) :: s.out))
        ∧ (∀ st : Status, lookup idx sub = .error st → Answers (.parRead a) s fun t => t.out = .parData 0 :: s.out
          ∧ t.rd .lastStatus 0 1 = u32 (st.code * 0x1000000 + idx * 0x100 + sub) ∧ t.rdN .parErr = min (s.rdN .parErr + 1) 65535
          ∧ Frame [keyOf .lastStatus 0 1, keyOf .parErr 0 0] [.out, .ports] s t)))
    ∧ (∀ (a : BitVec 24) (d : BitVec 16) (s : State) (e : Ent), Running s islHost → (s.port 1).waiting = none →
      let idx := a.toNat / 256
      let sub := a.toNat % 256
      lookup idx sub = .ok e → isDomain e = false → ¬ (idx = 0x2020 ∧ sub = 0) →
      let posted (t : State) (v : U32) : Prop := ((s.port 1).queue.length < 64 → (t.port 1).queue = (s.port 1).queue ++ [.write idx sub v])
        ∧ (64 ≤ (s.port 1).queue.length → (t.port 1).queue = (s.port 1).queue ∧ (t.port 1).waiting = some (.write idx sub v))
      (narrow e = true → e.name ≠ .parFifoReset → Answers (.parWriteLowerHalf a d) s fun t =>
        posted t (if (typeOf e).signed then d.signExtend 32 else d.setWidth 32) ∧ Frame [] [.ports] s t)
      ∧ (narrow e = false → Answers (.parWriteLowerHalf a d) s fun t => (t.port 1).stage = some (idx, sub, d.toNat)
        ∧ (t.port 1).queue = (s.port 1).queue ∧ Frame [] [.ports] s t)
      ∧ (∀ lo : Nat, narrow e = false → (s.port 1).stage = some (idx, sub, lo) → Answers (.parWriteUpperHalf a d) s fun t =>
        posted t (u32 (lo + 65536 * d.toNat)) ∧ (t.port 1).stage = none ∧ Frame [] [.ports] s t)
      ∧ ((s.port 1).stage = none ∨ narrow e = true → Answers (.parWriteUpperHalf a d) s fun t => (t.port 1).queue = (s.port 1).queue
        ∧ t.rd .lastStatus 0 1 = u32 (Status.length.code * 0x1000000 + idx * 0x100 + sub)
        ∧ Frame [keyOf .lastStatus 0 1, keyOf .parErr 0 0] [.ports] s t))
    ∧ (∀ (d : BitVec 16) (s : State), Running s islHost → (s.port 1).waiting = none → Answers (.parFifoWrite d) s fun t =>
      let asm := (s.port 1).asm ++ [d.setWidth 8, (d >>> 8).setWidth 8]
      (asm.length < 64 → (t.port 1).asm = asm ∧ (t.port 1).queue = (s.port 1).queue)
      ∧ (64 ≤ asm.length → (t.port 1).asm = [] ∧ ((s.port 1).queue.length < 64 → (t.port 1).queue = (s.port 1).queue ++ [.record asm]))
      ∧ Frame [] [.ports] s t)
    ∧ (∀ (port : Fin 2) (s : State), Running s islHost → (port.val = 0 → (s.port 1).waiting = none) → let p : Nat := port.val + 1
      let n : Nat := 2 * p
      (s.unread p = [] → Answers (.commandFifoRead port) s fun t =>
        t.out = (if p = 1 then .parData 0 else .qspiData [0, 0, 0, 0]) :: s.out ∧ Frame [] [.out, .ports] s t)
      ∧ (∀ (c : List Byte) (rest : List (List Byte)), s.unread p = c :: rest → Answers (.commandFifoRead port) s fun t =>
        let b := (c.drop (s.port p).pos).take n
        t.out = (if p = 1 then .parData (BitVec.ofNat 16 (leNat b)) else .qspiData b) :: s.out
        ∧ ((s.port p).pos + n < 64 → (t.port p).pos = (s.port p).pos + n ∧ t.unread p = s.unread p)
        ∧ (64 ≤ (s.port p).pos + n → (t.port p).pos = 0 ∧ t.unread p = rest) ∧ Frame [] [.out, .ports, .unreads] s t))
    ∧ (∀ (p : Path) (s : State), Running s islHost → (p = .p1 → (s.port 1).waiting = none) → Answers (.parErrRead p) s fun t => t.rd .parErr = 0 ∧ (t.port 1).err = false
      ∧ (p = .p1 → t.out = .parData ((s.rd .parErr).setWidth 16) :: s.out) ∧ Frame [keyOf .parErr 0 0] [.out, .ports] s t)
    ∧ (∀ (p : Path) (port : Fin 2) (v : BitVec 8) (s : State),
      Takes s p { name := if port.val = 0 then .parFifoReset else .qspiFifoReset } (v.setWidth 32) → Answers (.fifoResetWrite p port v) s fun t =>
        (t.port (port.val + 1)).asm = [] ∧ (t.port (port.val + 1)).pos = 0 ∧ (t.port (port.val + 1)).queue = (s.port (port.val + 1)).queue
        ∧ Frame [] [.ports] s t)
    ∧ (∀ (port : Fin 2) (s : State) (rest : List Posted), Running s islHost → NoHeld s →
      let p := portPath port
      (s.cmd p.num).running = false →
      (∀ (idx sub : Nat) (v : U32) (e : Ent), (s.port p.num).queue = .write idx sub v :: rest → lookup idx sub = .ok e → notForPath p e = false →
        (accessOf e = .rw ∨ accessOf e = .rwp) → e.name ∉ [.modeReq, .claim, .stringEn] → idleWrite s e v = false →
        (verdict s { path := p, ents := [(e, v)] }).st = .ok → Answers (.postedQueueDispatch port) s fun t =>
          t.rd e.name e.inst e.item = masked e.name v ∧ (t.port p.num).queue = rest ++ (s.port p.num).waiting.toList)
      ∧ (∀ (idx sub : Nat) (v : U32) (st : Status), (s.port p.num).queue = .write idx sub v :: rest → lookup idx sub = .error st →
        Answers (.postedQueueDispatch port) s fun t => (t.port p.num).queue = rest ++ (s.port p.num).waiting.toList
          ∧ t.rd .lastStatus 0 p.num = u32 (st.code * 0x1000000 + idx * 0x100 + sub)
          ∧ Frame [keyOf .lastStatus 0 p.num, keyOf .parErr 0 0, keyOf .qspiErr 0 0] [.ports, .cmds] s t)
      ∧ (∀ b : List Byte, (s.port p.num).queue = .record b :: rest → 16 ≤ (s.unread p.num).length → Answers (.postedQueueDispatch port) s fun t =>
        (t.port p.num).queue = rest ++ (s.port p.num).waiting.toList
        ∧ t.rd .lastStatus 0 p.num = u32 (Status.busy.code * 0x1000000 + 0x202000)
        ∧ Frame [keyOf .lastStatus 0 p.num, keyOf .parErr 0 0, keyOf .qspiErr 0 0] [.ports] s t))

/-- The QSPI port and the BAR0 window. QSPI_READ and QSPI_READ_QUAD of one aligned entry below 0x4000000 give its mirrored
value, and of no entry 0 with a refusal; n entries give n answers. QSPI_WRITE and QSPI_WRITE_QUAD post one aligned entry, or
drop it with BUSY where the queue is full; an entry cut short is refused with LENGTH. QSPI_READ_STATUS gives the status byte
and clears ERR. QSPI_BAD_INSTRUCTION is refused with BAD_OPCODE. QSPI_ERR_READ clears the count. QSPI_PORT_RESET empties the
assembly. BAR0_WINDOW_READ answers each of its dwords in ascending order: the mirrored value of an entry whose four bytes are
enabled, zeros with LENGTH where they are not, zeros with its refusal where there is no entry. (R77, R78, R101, R624, R683,
R684, R685, R686, R687, R688, R689, R690) -/
def Obligations.SerialPortAndWindowRowsComplete : Prop :=
    (∀ (addr : BitVec 32) (s : State), s.live = true → ∀ quad : Bool,
      let c (n : Nat) : Instr := if quad then .qspiReadQuad addr n else .qspiRead addr n
      let idx := addr.toNat / 1024
      let sub := addr.toNat / 4 % 256
      (∀ n : Nat, Answers (c n) s fun t => t.out.length = s.out.length + n
        ∧ Frame [keyOf .lastStatus 0 2, keyOf .qspiErr 0 0, keyOf .parErr 0 0] [.out, .ports, .unreads] s t)
      ∧ (s.fenced islHost = true → Answers (c 1) s fun t => t.out = .qspiData [0xFF, 0xFF, 0xFF, 0xFF] :: s.out ∧ Frame [] [.out] s t)
      ∧ (s.fenced islHost = false → addr.toNat % 4 = 0 → addr.toNat < 0x4000000 → addr.toNat ≠ 0x808000 →
        (∀ e : Ent, lookup idx sub = .ok e → Answers (c 1) s fun t => t.out = .qspiData (leBytes 4 (s.windowRead .p2 e).toNat) :: s.out
          ∧ Frame (if e.name ∈ [.parErr, .qspiErr] then [e.key] else []) [.out, .ports] s t)
        ∧ (∀ st : Status, lookup idx sub = .error st → Answers (c 1) s fun t => t.out = .qspiData [0, 0, 0, 0] :: s.out
          ∧ t.rd .lastStatus 0 2 = u32 (st.code * 0x1000000 + idx * 0x100 + sub) ∧ t.rdN .qspiErr = min (s.rdN .qspiErr + 1) 65535
          ∧ (t.port 2).err = true ∧ Frame [keyOf .lastStatus 0 2, keyOf .qspiErr 0 0] [.out, .ports] s t)))
    ∧ (∀ (addr : BitVec 32) (w : U32) (s : State), Running s islHost → ∀ quad : Bool,
      let c (l : List U32) (cut : Bool) : Instr := if quad then .qspiWriteQuad addr l cut else .qspiWrite addr l cut
      let idx := addr.toNat / 1024
      let sub := addr.toNat / 4 % 256
      (addr.toNat % 4 = 0 → addr.toNat < 0x4000000 → addr.toNat ≠ 0x808000 → ¬ (idx = 0x2C21 ∧ sub = 4) →
        ((s.port 2).queue.length < 64 → Answers (c [w] false) s fun t => (t.port 2).queue = (s.port 2).queue ++ [.write idx sub w]
          ∧ Frame [] [.ports] s t)
        ∧ (64 ≤ (s.port 2).queue.length → Answers (c [w] false) s fun t => (t.port 2).queue = (s.port 2).queue
          ∧ t.rd .lastStatus 0 2 = u32 (Status.busy.code * 0x1000000 + idx * 0x100 + sub)
          ∧ ((s.port 2).dropped = false → t.newest = some (Event.qspiWriteDropped, 0, u32 addr.toNat))
          ∧ Frame [keyOf .lastStatus 0 2, keyOf .qspiErr 0 0] (.ports :: reporting) s t)
        ∧ Answers (c [] true) s fun t => t.rd .lastStatus 0 2 = u32 (Status.length.code * 0x1000000 + idx * 0x100 + sub)
          ∧ Frame [keyOf .lastStatus 0 2, keyOf .qspiErr 0 0] [.ports] s t))
    ∧ (∀ s : State, Running s islHost →
      (∀ n : Nat, 0 < n → Answers (.qspiReadStatus n) s fun t => (t.port 2).err = false
        ∧ t.out = .qspiData (s.qspiStatus (s.port 2).err :: List.replicate (n - 1) (s.qspiStatus false)) :: s.out ∧ Frame [] [.out, .ports] s t)
      ∧ (∀ code : Byte, code ∉ [0x03, 0xEB, 0x02, 0x32, 0x05, 0x99] → Answers (.qspiBadInstruction code) s fun t =>
        t.rd .lastStatus 0 2 = u32 (Status.badOpcode.code * 0x1000000) ∧ (t.port 2).err = true
        ∧ Frame [keyOf .lastStatus 0 2, keyOf .qspiErr 0 0] [.ports] s t)
      ∧ (∀ p : Path, Answers (.qspiErrRead p) s fun t => t.rd .qspiErr = 0 ∧ Frame [keyOf .qspiErr 0 0] [.out, .ports] s t)
      ∧ (Takes s .p2 { name := .qspiFifoReset } 1 → Answers .qspiPortReset s fun t => (t.port 2).asm = [] ∧ (t.port 2).pos = 0
        ∧ (t.port 2).queue = (s.port 2).queue ∧ Frame [] [.ports] s t)
      ∧ (∀ d : BitVec 24, let idx := d.toNat / 256
        let sub := d.toNat % 256
        (∀ e : Ent, lookup idx sub = .ok e → ∀ last : BitVec 4, Answers (.bar0WindowRead d 1 0xF last) s fun t =>
            t.out = .pcieReply (leBytes 4 (s.windowRead .p0 e).toNat) :: s.out
            ∧ Frame (if e.name ∈ [.parErr, .qspiErr] then [e.key] else []) [.out, .ports] s t)
        ∧ (∀ (e : Ent) (first last : BitVec 4), lookup idx sub = .ok e → first ≠ 0xF → Answers (.bar0WindowRead d 1 first last) s fun t =>
          t.out = .pcieReply [0, 0, 0, 0] :: s.out
          ∧ t.rd .lastStatus 0 0 = u32 (Status.length.code * 0x1000000 + idx * 0x100 + sub) ∧ Frame [keyOf .lastStatus 0 0] [.out] s t)
        ∧ (∀ (st : Status) (first last : BitVec 4), lookup idx sub = .error st → Answers (.bar0WindowRead d 1 first last) s fun t =>
          t.out = .pcieReply [0, 0, 0, 0] :: s.out
          ∧ t.rd .lastStatus 0 0 = u32 (st.code * 0x1000000 + idx * 0x100 + sub) ∧ Frame [keyOf .lastStatus 0 0] [.out] s t)
        ∧ (∀ (n : Nat) (first last : BitVec 4), Answers (.bar0WindowRead d n first last) s fun t => t.out.length = s.out.length + n
          ∧ (∀ (k : Nat) (e : Ent), k < n → lookup ((d.toNat + k) % 0x1000000 / 256) ((d.toNat + k) % 256) = .ok e → e.name ∉ [.parErr, .qspiErr] →
            t.out[n - 1 - k]? = some (.pcieReply (if (if k = 0 then first else if k + 1 = n then last else 0xF) = 0xF
              then leBytes 4 (s.windowRead .p0 e).toNat else [0, 0, 0, 0])))
          ∧ Frame [keyOf .lastStatus 0 0, keyOf .parErr 0 0, keyOf .qspiErr 0 0] [.out, .ports] s t)))

/-- NMT, node-IDs and LSS. NMT_START, NMT_ENTER_PREOPERATIONAL and NMT_STOP that address a controller which accepts them become
mode requests of its path for SCAN, PREPARE and PARK, superseded by one of the same HOST cycle that outranks them; while HOST
is fenced they are turned away with NMT_OVERRULED; not addressed, or not accepted, they change nothing. NMT_RESET_COMMUNICATION
takes up the node-ID and the timing, gives the controller's PDOs their defaults, resets the path's sequence, grant and claims,
sends the boot-up message and shows the NMT state of MODE; NMT_RESET_NODE also restores the settings of the controller. A
NODE_ID write applies at once to an unconfigured controller from another path. Of the LSS services, those of the configuration
state act in it only, and each answers as CiA 305 gives it (the answers' layouts are the model's presumption, log 34); a value
that a configure service refuses is noted in LAST_STATUS of P3. (R56, R117, R710, R716, R717, R719, R738, R739, R740, R741,
R745, R747) -/
def Obligations.NmtAndLssRowsComplete : Prop :=
    (∀ (x : Fin 2) (node : Fin 128) (s : State), s.live = true → s.canOn x = true →
      let rows : List (Instr × Mode) := [(.nmtStart x node, .scan), (.nmtEnterPreoperational x node, .prepare), (.nmtStop x node, .park)]
      let path := canPath x
      (s.addressed x node = true → s.rdN .nodeIdNow x ≠ 255 → s.rdB .nmtAccept x = true → ∀ r ∈ rows,
        (s.fenced islHost = false → NoHeld s → let mine : ModeReq := { path := path, mode := r.2, origin := .nmt x, since := s.time.toNat }
          Answers r.1 s fun t => t.modes.mode = s.modes.mode ∧ t.modes.target = s.modes.target
          ∧ (r.2 ≠ .park → t.rd .modeReq = s.rd .modeReq
            ∧ ((∀ old, s.modes.pendingReq = some old → outranks old mine = false) → t.modes.pendingReq = some mine)
            ∧ ((∃ old, s.modes.pendingReq = some old ∧ outranks old mine = true) → t.modes = s.modes
              ∧ t.rd .lastStatus 0 path.num = u32 (Status.modeSuperseded.code * 0x1000000 + 0x200001)
              ∧ t.newest = some (Event.nmtOverruled, 0, pack [(8, x), (8, Status.modeSuperseded.code)])))
          ∧ (r.2 = .park → t.modes.pendingReq = none ∧ t.rd .modeReq = 3
            ∧ (¬ (s.modes.mode = .park ∧ s.modes.target = none) → t.modes.parkReq = s.modes.parkReq ++ [mine])))
        ∧ (s.fenced islHost = true → Answers r.1 s fun t => t.modes = s.modes
          ∧ t.rd .lastStatus 0 path.num = u32 (Status.unitAbsent.code * 0x1000000 + 0x200001)
          ∧ t.rep.eventCount = min (s.rep.eventCount + 1) 4294967295 ∧ Frame [keyOf .lastStatus 0 path.num] reporting s t))
      ∧ (s.addressed x node = false ∨ s.rdN .nodeIdNow x = 255 ∨ s.rdB .nmtAccept x = false → ∀ r ∈ rows, Answers r.1 s fun t => t = s)
      ∧ (s.addressed x node = true → ∀ full : Bool,
        let c : Instr := if full then .nmtResetNode x node else .nmtResetCommunication x node
        let sets := [Name.nodeId, .bitrate, .dataRate, .nmtAccept, .emcyMin, .hbAction, .sdoTimeout, .timingNom, .timingData, .timingSrc]
        Answers c s fun t => t.rd .nodeIdNow x = s.rd .nodeId x ∧ t.ctrl x = { active := s.timingOf x } ∧ t.rdN .lastHostSeq 0 path.num = 0xFFFF
          ∧ t.granted path = false ∧ (∀ u : Fin 56, t.holderOf (u + 1) ≠ path.num)
          ∧ (∀ u : Fin 56, s.holderOf (u + 1) ≠ path.num → t.holderOf (u + 1) = s.holderOf (u + 1))
          ∧ t.rdN .nmtState x = (if s.rdN .nodeId x = 255 then 0 else nmtOfMode s.modes.mode)
          ∧ (s.rdN .nodeId x ≠ 255 → .can x (0x700 + s.rdN .nodeId x) [0] ∈ t.out)
          ∧ (∀ j ∈ pdosOf x, t.rd .rpdoType j = dfltOf .rpdoType j 0 ∧ t.rd .tpdoMapCount j = dfltOf .tpdoMapCount j 0
            ∧ Store.get {} t.pdos j = {} ∧ Store.get {} t.pdos (12 + j) = {})
          ∧ (∀ n ∈ sets, t.rd n x = if full then dfltOf n x 0 else s.rd n x)
          ∧ Frame ([keyOf .nodeIdNow x 0, keyOf .nmtState x 0, keyOf .lastHostSeq 0 path.num, keyOf .levelGranted 0 0]
            ++ ((List.range 56).flatMap fun u => [keyOf .claim 0 u, keyOf .epoch 0 u]) ++ (if full then sets.map fun n => keyOf n x 0 else [])
            ++ (pdosOf x).flatMap fun j => pdoNames.flatMap fun n => (List.range 64).map fun i => keyOf n j i) (.pdos :: reporting) s t))
    ∧ (∀ (p : Path) (x : Fin 2) (v : BitVec 8) (s : State), Takes s p { name := .nodeId, inst := x } (v.setWidth 32) →
      Answers (.nodeIdWrite p x v) s fun t => t.rd .nodeId x = v.setWidth 32
        ∧ (s.rdN .nodeIdNow x = 255 → p ≠ canPath x → t.rd .nodeIdNow x = v.setWidth 32
          ∧ t.rdN .nmtState x = (if v = 255 then 0 else nmtOfMode s.modes.mode))
        ∧ (s.rdN .nodeIdNow x ≠ 255 ∨ p = canPath x → Frame [keyOf .nodeId x 0] reporting s t))
    ∧ (∀ s : State, s.live = true → s.canOn 0 = true →
      let say (t : State) (b : List Byte) : Prop := t.out = .can 0 0x7E4 ((b ++ List.replicate 8 0).take 8) :: s.out
      let quiet (t : State) : Prop := Frame [] [.ctrls, .out] s t
      let ids := (List.range 4).map fun i => s.rd .identity 0 i
      (∀ on : Bool, Answers (.lssSwitchStateGlobal on) s fun t => (t.ctrl 0).lssConfig = on
        ∧ (¬ (on = false ∧ (s.ctrl 0).lssConfig = true ∧ s.rdN .nodeIdNow 0 = 255 ∧ s.rdN .nodeId 0 ≠ 255) →
          t.ctrl 0 = { s.ctrl 0 with lssConfig := on } ∧ quiet t)
        ∧ (on = false → (s.ctrl 0).lssConfig = true → s.rdN .nodeIdNow 0 = 255 → s.rdN .nodeId 0 ≠ 255 →
          t.rd .nodeIdNow 0 = s.rd .nodeId 0 ∧ t.rdN .nmtState 0 = nmtOfMode s.modes.mode))
      ∧ (∀ a b c d : U32, Answers (.lssSwitchStateSelective a b c d) s fun t => quiet t
        ∧ (ids = [a, b, c, d] → (t.ctrl 0).lssConfig = true ∧ say t [0x44]) ∧ (ids ≠ [a, b, c, d] → t = s))
      ∧ (∀ a b rl rh sl sh : U32, Answers (.lssIdentifyRemoteSlave a b rl rh sl sh) s fun t => t.ctrls = s.ctrls ∧ quiet t
        ∧ (ids.take 2 = [a, b] ∧ rl ≤ s.rd .identity 0 2 ∧ s.rd .identity 0 2 ≤ rh ∧ sl ≤ s.rd .identity 0 3 ∧ s.rd .identity 0 3 ≤ sh → say t [0x4F])
        ∧ (¬ (ids.take 2 = [a, b] ∧ rl ≤ s.rd .identity 0 2 ∧ s.rd .identity 0 2 ≤ rh ∧ sl ≤ s.rd .identity 0 3 ∧ s.rd .identity 0 3 ≤ sh) → t = s))
      ∧ Answers .lssIdentifyNonConfigured s (fun t => (s.rdN .nodeIdNow 0 = 255 → say t [0x50]) ∧ (s.rdN .nodeIdNow 0 ≠ 255 → t = s) ∧ quiet t)
      ∧ (s.rdN .nodeIdNow 0 = 255 → (s.ctrl 0).lssConfig = false →
        (∀ (id : U32) (sub next : Byte), Answers (.lssFastscan id 128 sub next) s fun t => t.ctrl 0 = { s.ctrl 0 with scanPos := 0 } ∧ say t [0x4F] ∧ quiet t)
        ∧ (∀ (id : U32) (sub next : Byte), sub.toNat = (s.ctrl 0).scanPos → sub.toNat ≤ 3 → id = s.rd .identity 0 sub.toNat →
          Answers (.lssFastscan id 0 sub next) s fun t => say t [0x4F] ∧ quiet t
            ∧ (next < sub → (t.ctrl 0).lssConfig = true ∧ (t.ctrl 0).scanPos = 0) ∧ (sub ≤ next → (t.ctrl 0).scanPos = next.toNat ∧ (t.ctrl 0).lssConfig = false)))
      ∧ ((s.ctrl 0).lssConfig = true →
        (∀ v : Byte, (netValue s .nodeId 0 (v.setWidth 32) = .ok → Answers (.lssConfigureNodeId v) s fun t => t.rd .nodeId 0 = v.setWidth 32
            ∧ t.rd .nodeIdNow 0 = s.rd .nodeIdNow 0 ∧ Frame [keyOf .nodeId 0 0] reporting s t)
          ∧ (netValue s .nodeId 0 (v.setWidth 32) ≠ .ok → Answers (.lssConfigureNodeId v) s fun t => say t [0x11, 1]
            ∧ t.rd .lastStatus 0 3 = u32 (Status.range.code * 0x1000000 + 0x2D00 * 0x100 + 1) ∧ Frame [keyOf .lastStatus 0 3] [.ctrls, .out] s t))
        ∧ (∀ v : Byte, (netValue s .bitrate 0 (v.setWidth 32) = .ok → Answers (.lssConfigureBitTiming 0 v) s fun t => t.rd .bitrate 0 = v.setWidth 32
            ∧ Frame [keyOf .bitrate 0 0] reporting s t)
          ∧ ∀ table : Byte, table ≠ 0 ∨ netValue s .bitrate 0 (v.setWidth 32) ≠ .ok → Answers (.lssConfigureBitTiming table v) s fun t => say t [0x13, 1]
            ∧ t.rd .lastStatus 0 3 = u32 (Status.range.code * 0x1000000 + 0x2D00 * 0x100 + 3) ∧ Frame [keyOf .lastStatus 0 3] [.ctrls, .out] s t)
        ∧ Answers .lssActivateBitTiming s (fun t => t.ctrl 0 = { s.ctrl 0 with switching := true } ∧ Frame [] [.ctrls] s t)
        ∧ (∀ k : Fin 4, Answers (.lssInquireIdentity k) s fun t => say t (leBytes 1 (0x5A + k) ++ leBytes 4 (s.rdN .identity 0 k)) ∧ t.ctrls = s.ctrls ∧ quiet t)
        ∧ Answers .lssInquireNodeId s (fun t => say t (0x5E :: leBytes 1 (s.rdN .nodeIdNow 0)) ∧ t.ctrls = s.ctrls ∧ quiet t)
        ∧ Answers .lssStoreConfiguration s (fun t => say t [0x17, 1] ∧ t.ctrls = s.ctrls ∧ quiet t))
      ∧ ((s.ctrl 0).lssConfig = false → ∀ c ∈ [Instr.lssConfigureNodeId 5, .lssConfigureBitTiming 0 0, .lssActivateBitTiming, .lssInquireIdentity 0,
        .lssInquireNodeId, .lssStoreConfiguration], Answers c s fun t => t = s)
      ∧ ((s.ctrl 0).switching = true → Answers .lssSwitchDelayExpired s fun t =>
        t.ctrl 0 = { s.ctrl 0 with switching := false, active := (s.ctrl 0).active.set 0 (s.rd .bitrate 0) } ∧ Frame [] [.ctrls] s t))

/-- Downloads over SDO and USDO. A whole download, expedited, in its last segment, at the end of a block transfer or over USDO,
writes its entry from P3 or P4: an RW or RWP entry that passes takes its value, a table its bytes, and a response without abort
code waits; one that is refused is recorded in LAST_STATUS with nothing else of the dictionary changed, and its response
carries the abort code of the status. SDO_SEGMENTED_DOWNLOAD_INIT and the first frame of a block download start a transfer that
begins with no data; a frame of either adds its bytes; a wrong toggle, an object that does not exist and a wrong size end it
with an abort, and a size beyond its table with that of the first check that such a write fails. SDO_ABORT_RECEIVED and
SDO_TIMEOUT end a transfer, the timeout with abort 05040000. The steps and abort codes inside a transfer are CiA 301's,
presumed by the model (log 34); the block size of the server is free. (R68, R82, R84, R115, R713, R722, R724, R725) -/
def Obligations.DownloadsComplete : Prop :=
    ∀ s : State, s.live = true → NoHeld s →
    let sdoOut (t : State) (b : List Byte) : Prop := t.out = .can 0 (0x580 + s.rdN .nodeIdNow 0) ((b ++ List.replicate 8 0).take 8) :: s.out
    let head (cs idx sub : Nat) : List Byte := leBytes 1 cs ++ leBytes 2 idx ++ leBytes 1 sub
    let aborts (t : State) (idx sub code : Nat) : Prop := (t.ctrl 0).xfer = none ∧ sdoOut t (head 0x80 idx sub ++ leBytes 4 code)
    let whole (c : Instr) (x kind idx sub : Nat) (bytes : List Byte) : Prop :=
      (∀ st : Status, lookup idx sub = .error st → Answers c s fun t =>
        t.ctrl x = { s.ctrl x with xfer := if x = 0 then none else (s.ctrl x).xfer, applying := none,
                                   replies := (s.ctrl x).replies ++ [{ kind := kind, index := idx, sub := sub, abort := st.abort }] }
        ∧ t.rd .lastStatus 0 (canPath x).num = u32 (st.code * 0x1000000 + idx * 0x100 + sub) ∧ Frame [keyOf .lastStatus 0 (canPath x).num] [.ctrls] s t)
      ∧ (∀ e : Ent, lookup idx sub = .ok e → notForPath (canPath x) e = false → isDomain e = false →
        let v := verdict s { path := canPath x, lenSt := need (decide (bytes.length = (typeOf e).bytes)) .length, origin := .sdo x,
                             ents := [(e, valueOf e bytes)] }
        (v.st = .ok → (accessOf e = .rw ∨ accessOf e = .rwp) → e.name ∉ [.modeReq, .claim, .stringEn] → idleWrite s e (valueOf e bytes) = false →
          Answers c s fun t => t.rd e.name e.inst e.item = masked e.name (valueOf e bytes)
            ∧ (t.ctrl x).replies = (s.ctrl x).replies ++ [{ kind := kind, index := idx, sub := sub, abort := 0 }])
        ∧ (v.st ∉ [.ok, .keyWrong, .scanInvalid] → Answers c s fun t =>
          (t.ctrl x).replies = (s.ctrl x).replies ++ [{ kind := kind, index := idx, sub := sub, abort := v.st.abort }]
          ∧ t.rd .lastStatus 0 (canPath x).num = u32 (v.st.code * 0x1000000 + v.ent.index * 0x100 + v.ent.sub)
          ∧ Frame [keyOf .lastStatus 0 (canPath x).num] [.ctrls] s t))
      ∧ (∀ (e : Ent) (a n : Nat), lookup idx sub = .ok e → s.table e.name e.inst = some (a, n) →
        let v := domVerdict s { path := canPath x, ent := e, size := bytes.length, data := bytes }
        (v.st = .ok → Answers c s fun t => t.rdN e.name e.inst e.item = bytes.length % 4294967296
          ∧ (∀ k : Nat, k < bytes.length → t.byteAt (a + k) = (storedAs e.name bytes).getD k 0)
          ∧ (∀ y, ¬ (a ≤ y ∧ y < a + bytes.length) → t.byteAt y = s.byteAt y)
          ∧ (t.ctrl x).replies = (s.ctrl x).replies ++ [{ kind := kind, index := idx, sub := sub, abort := 0 }])
        ∧ (v.st ≠ .ok → Answers c s fun t =>
          (t.ctrl x).replies = (s.ctrl x).replies ++ [{ kind := kind, index := idx, sub := sub, abort := v.st.abort }]
          ∧ t.rd .lastStatus 0 (canPath x).num = u32 (v.st.code * 0x1000000 + e.index * 0x100 + e.sub)
          ∧ Frame [keyOf .lastStatus 0 (canPath x).num] [.ctrls] s t))
    let fits (idx sub n : Nat) : Prop := ∀ e : Ent, lookup idx sub = .ok e → isDomain e = true → n ≤ domMax e.name
    let exceeds (c : Instr) (idx sub n : Nat) : Prop := ∀ e : Ent, lookup idx sub = .ok e → isDomain e = true → domMax e.name < n →
      let st := (domVerdict s { path := .p3, ent := e, size := n, data := [] }).st
      Answers c s fun t => aborts t idx sub st.abort ∧ t.rd .lastStatus 0 3 = u32 (st.code * 0x1000000 + idx * 0x100 + sub)
        ∧ Frame [keyOf .lastStatus 0 3] [.ctrls, .out] s t
    let opens (c : Instr) (idx sub : Nat) (size : Option Nat) : Prop :=
      (∀ st : Status, lookup idx sub = .error st → Answers c s fun t => aborts t idx sub st.abort ∧ Frame [keyOf .lastStatus 0 3] [.ctrls, .out] s t)
      ∧ ((∀ e, lookup idx sub = .ok e → notForPath .p3 e = false) → exceeds c idx sub (size.getD 0))
    (s.canServe 0 = true →
      (∀ (idx : BitVec 16) (sub : Byte) (n : Fin 4) (d : U32), whole (.sdoExpeditedDownload idx sub (some n) d) 0 0 idx.toNat sub.toNat (leBytes (n + 1) d.toNat))
      ∧ (∀ (idx : BitVec 16) (sub : Byte) (d : U32) (e : Ent), lookup idx.toNat sub.toNat = .ok e → whole (.sdoExpeditedDownload idx sub none d) 0 0 idx.toNat sub.toNat (leBytes (typeOf e).bytes d.toNat))
      ∧ (∀ (idx : BitVec 16) (sub : Byte) (size : Option (BitVec 32)), opens (.sdoSegmentedDownloadInit idx sub size) idx.toNat sub.toNat (size.map (·.toNat))
        ∧ ((∃ e, lookup idx.toNat sub.toNat = .ok e ∧ notForPath .p3 e = false) → fits idx.toNat sub.toNat ((size.map (·.toNat)).getD 0) →
          Answers (.sdoSegmentedDownloadInit idx sub size) s fun t =>
            t.ctrl 0 = { s.ctrl 0 with xfer := some (.down idx.toNat sub.toNat (size.map (·.toNat)) [] false) }
            ∧ sdoOut t (head 0x60 idx.toNat sub.toNat) ∧ Frame [] [.ctrls, .out] s t))
      ∧ (∀ (idx sub : Nat) (size : Option Nat) (got data : List Byte) (tg : Bool), (s.ctrl 0).xfer = some (.down idx sub size got tg) → data.length ≤ 7 →
        (∀ last : Bool, Answers (.sdoDownloadSegment (!tg) data last) s fun t => aborts t idx sub 0x05030000 ∧ Frame [] [.ctrls, .out] s t)
        ∧ (∀ last : Bool, exceeds (.sdoDownloadSegment tg data last) idx sub (got ++ data).length)
        ∧ (fits idx sub (got ++ data).length →
          Answers (.sdoDownloadSegment tg data false) s (fun t => t.ctrl 0 = { s.ctrl 0 with xfer := some (.down idx sub size (got ++ data) (!tg)) }
            ∧ sdoOut t (leBytes 1 (if tg then 0x30 else 0x20)) ∧ Frame [] [.ctrls, .out] s t)
          ∧ (size = none ∨ size = some (got ++ data).length → whole (.sdoDownloadSegment tg data true) 0 (if tg then 4 else 3) idx sub (got ++ data))
          ∧ (size ≠ none → size ≠ some (got ++ data).length → Answers (.sdoDownloadSegment tg data true) s fun t => aborts t idx sub Status.length.abort
            ∧ t.rd .lastStatus 0 3 = u32 (Status.length.code * 0x1000000 + idx * 0x100 + sub) ∧ Frame [keyOf .lastStatus 0 3] [.ctrls, .out] s t)))
      ∧ ((s.ctrl 0).xfer = none → ∀ (idx : BitVec 16) (sub : Byte) (size : Option (BitVec 32)) (crc : Bool),
        let f := leBytes 1 (0xC0 + (if crc then 4 else 0) + (if size.isSome then 2 else 0)) ++ leBytes 2 idx.toNat ++ [sub] ++ leBytes 4 (size.getD 0).toNat
        opens (.sdoBlockDownload f) idx.toNat sub.toNat (size.map (·.toNat))
        ∧ ((∃ e, lookup idx.toNat sub.toNat = .ok e ∧ notForPath .p3 e = false) → fits idx.toNat sub.toNat ((size.map (·.toNat)).getD 0) →
          Answers (.sdoBlockDownload f) s fun t =>
            let n := 1 + s.freeBelow 127
            t.ctrl 0 = { s.ctrl 0 with xfer := some (.blockDown idx.toNat sub.toNat (size.map (·.toNat)) crc [] n 0 false) }
            ∧ sdoOut t (head 0xA4 idx.toNat sub.toNat ++ leBytes 1 n) ∧ Frame [] [.ctrls, .out, .fresh] s t))
      ∧ (∀ (idx sub : Nat) (size : Option Nat) (crc : Bool) (got data : List Byte) (blk sq : Nat), data.length = 7 →
        ((s.ctrl 0).xfer = some (.blockDown idx sub size crc got blk sq false) → sq < blk → blk ≤ 127 → ∀ last : Bool,
          Answers (.sdoBlockDownload (leBytes 1 (sq + 1 + if last then 128 else 0) ++ data)) s fun t =>
            (last = false → sq + 1 ≠ blk → t.ctrl 0 = { s.ctrl 0 with xfer := some (.blockDown idx sub size crc (got ++ data) blk (sq + 1) false) } ∧ t.out = s.out)
            ∧ (last = true ∨ sq + 1 = blk → let n := 1 + s.freeBelow 127
              t.ctrl 0 = { s.ctrl 0 with xfer := some (.blockDown idx sub size crc (got ++ data) n 0 last) }
              ∧ sdoOut t (0xA2 :: leBytes 1 (sq + 1) ++ leBytes 1 n)) ∧ Frame [] [.ctrls, .out, .fresh] s t)
        ∧ ((s.ctrl 0).xfer = some (.blockDown idx sub size crc (got ++ data) blk sq true) → ∀ free : Fin 7, let all := got ++ data.take (7 - free)
          let f (w : List Byte) : List Byte := leBytes 1 (0xC1 + 4 * free) ++ w
          (size = none ∨ size = some all.length → whole (.sdoBlockDownload (f (leBytes 2 (crc16 all).toNat))) 0 1 idx sub all)
          ∧ (crc = true → ∀ w : BitVec 16, w ≠ crc16 all → Answers (.sdoBlockDownload (f (leBytes 2 w.toNat))) s fun t =>
            aborts t idx sub 0x05040004 ∧ Frame [] [.ctrls, .out] s t)))
      ∧ (Answers .sdoAbortReceived s fun t => t.ctrl 0 = { s.ctrl 0 with xfer := none } ∧ Frame [] [.ctrls] s t)
      ∧ (∀ tr : Xfer, (s.ctrl 0).xfer = some tr → Answers (.sdoTimeout 0) s fun t => aborts t (Xfer.entry tr).1 (Xfer.entry tr).2 0x05040000
        ∧ Frame [] [.ctrls, .out] s t))
    ∧ (s.canServe 1 = true → ∀ (dst : Fin 128) (idx : BitVec 16) (sub : Byte) (data : List Byte), dst.val ≠ 0 → s.rdN .nodeIdNow 1 = dst.val →
      whole (.usdoDownload dst idx sub data) 1 2 idx.toNat sub.toNat data)

/-- Uploads over SDO and USDO, and responses. An upload of a windowed entry over SDO answers at once with its value in the
entry's size, taken from the mirror, or while HOST is fenced from the holding island, where that is not fenced too; longer data
is announced with its length and then given in segments of seven bytes, or in blocks with a CRC where asked; over USDO all of
it comes in one answer. An object that does not exist is refused with its abort code. COMMAND_UPLOAD gives the oldest unread
completion of its path and FWD_IN the oldest returned one, and each leaves its list once it has been uploaded whole; FWD_IN on
another path changes nothing. SDO_RESPONSE sends the response of a download that waits longest. The frames are CiA 301's,
presumed by the model (log 34). (R68, R101, R181, R182, R713, R722, R723, R725, R727, R728, R785) -/
def Obligations.UploadsComplete : Prop :=
    ∀ s : State, s.live = true → NoHeld s →
    let sdoSent (b : List Byte) : Output := .can 0 (0x580 + s.rdN .nodeIdNow 0) ((b ++ List.replicate 8 0).take 8)
    let sdoOut (t : State) (b : List Byte) : Prop := t.out = sdoSent b :: s.out
    let head (cs idx sub : Nat) : List Byte := leBytes 1 cs ++ leBytes 2 idx ++ leBytes 1 sub
    let popped (t : State) (p pop : Nat) : Prop := (pop = 1 → t.unread p = (s.unread p).drop 1 ∧ t.fwdIns = s.fwdIns)
      ∧ (pop = 2 → t.fwdIn p = (s.fwdIn p).drop 1 ∧ t.unreads = s.unreads) ∧ (pop = 0 → t.unreads = s.unreads ∧ t.fwdIns = s.fwdIns)
    let touched (e : Ent) : List Nat := if e.name ∈ [.parErr, .qspiErr] then [e.key] else []
    (s.canServe 0 = true →
      (∀ (idx : BitVec 16) (sub : Byte), let i := idx.toNat
        let j := sub.toNat
        (∀ st : Status, lookup i j = .error st → Answers (.sdoUploadInitiate idx sub) s fun t => (t.ctrl 0).xfer = none
          ∧ sdoOut t (head 0x80 i j ++ leBytes 4 st.abort) ∧ t.rd .lastStatus 0 3 = u32 (st.code * 0x1000000 + i * 0x100 + j)
          ∧ Frame [keyOf .lastStatus 0 3] [.ctrls, .out] s t)
        ∧ (∀ e : Ent, lookup i j = .ok e → notForPath .p3 e = false → isDomain e = false →
          let n := (typeOf e).bytes
          Answers (.sdoUploadInitiate idx sub) s fun t => (t.ctrl 0).xfer = none
            ∧ sdoOut t (head (0x43 + 4 * (4 - n)) i j ++ leBytes n (if s.fenced islHost = true ∧ s.absent e = false then s.readEnt .p3 e else s.windowRead .p3 e).toNat)
            ∧ Frame (touched e) [.ctrls, .out, .ports] s t)
        ∧ (∀ (e : Ent) (b : List Byte) (pop : Nat), s.uploadOf .p3 i j = .ok (e, b, pop) → ¬ (1 ≤ b.length ∧ b.length ≤ 4) →
          Answers (.sdoUploadInitiate idx sub) s fun t => t.ctrl 0 = { s.ctrl 0 with xfer := some (.up i j b false pop) }
            ∧ sdoOut t (head 0x41 i j ++ leBytes 4 b.length) ∧ Frame [] [.ctrls, .out] s t)
        ∧ ((s.ctrl 0).xfer = none → ∀ (e : Ent) (b : List Byte) (pop : Nat) (crc : Bool) (n : Fin 127), s.uploadOf .p3 i j = .ok (e, b, pop) →
          Answers (.sdoBlockUpload (head (0xA0 + if crc then 4 else 0) i j ++ leBytes 1 (n + 1) ++ [0, 0, 0])) s fun t =>
            t.ctrl 0 = { s.ctrl 0 with xfer := some (.blockUp i j b crc (n + 1) 0 0 pop) }
            ∧ sdoOut t (head 0xC6 i j ++ leBytes 4 b.length) ∧ Frame (touched e) [.ctrls, .out, .ports] s t))
      ∧ (∀ (i j pop : Nat) (b : List Byte) (tg : Bool), (s.ctrl 0).xfer = some (.up i j b tg pop) →
        Answers (.sdoUploadSegment (!tg)) s (fun t => (t.ctrl 0).xfer = none ∧ sdoOut t (head 0x80 i j ++ leBytes 4 0x05030000) ∧ Frame [] [.ctrls, .out] s t)
        ∧ (7 < b.length → Answers (.sdoUploadSegment tg) s fun t => t.ctrl 0 = { s.ctrl 0 with xfer := some (.up i j (b.drop 7) (!tg) pop) }
          ∧ sdoOut t (leBytes 1 (if tg then 0x10 else 0) ++ b.take 7) ∧ Frame [] [.ctrls, .out] s t)
        ∧ (b.length ≤ 7 → Answers (.sdoUploadSegment tg) s fun t => t.ctrl 0 = { s.ctrl 0 with xfer := none } ∧ popped t 3 pop
          ∧ sdoOut t (leBytes 1 ((if tg then 0x10 else 0) + 2 * (7 - b.length) + 1) ++ b) ∧ Frame [] [.ctrls, .out, .unreads, .fwdIns] s t))
      ∧ (∀ (i j blk pos pop : Nat) (b : List Byte) (crc : Bool),
        ((s.ctrl 0).xfer = some (.blockUp i j b crc blk pos 0 pop) → Answers (.sdoBlockUpload (0xA3 :: List.replicate 7 0)) s fun t =>
          t.ctrl 0 = { s.ctrl 0 with xfer := some (.blockUp i j b crc blk pos 1 pop) }
          ∧ t.out = (blockSegments b pos blk).reverse.map sdoSent ++ s.out ∧ Frame [] [.ctrls, .out] s t)
        ∧ ((s.ctrl 0).xfer = some (.blockUp i j b crc blk pos 1 pop) → ∀ (got : Byte) (n : Fin 127), let p := pos + 7 * got.toNat
          Answers (.sdoBlockUpload ([0xA2, got] ++ leBytes 1 (n + 1) ++ List.replicate 5 0)) s fun t =>
            (b.length ≤ p ∧ got ≠ 0 → t.ctrl 0 = { s.ctrl 0 with xfer := some (.blockUp i j b crc blk p 2 pop) }
              ∧ sdoOut t (leBytes 1 (0xC1 + 4 * (7 * max 1 ((b.length + 6) / 7) - b.length)) ++ (if crc then leBytes 2 (crc16 b).toNat else [])))
            ∧ (¬ (b.length ≤ p ∧ got ≠ 0) → t.ctrl 0 = { s.ctrl 0 with xfer := some (.blockUp i j b crc (n + 1) p 1 pop) }
              ∧ t.out = (blockSegments b p (n + 1)).reverse.map sdoSent ++ s.out)
            ∧ Frame [] [.ctrls, .out] s t)
        ∧ ((s.ctrl 0).xfer = some (.blockUp i j b crc blk pos 2 pop) → Answers (.sdoBlockUpload (0xA1 :: List.replicate 7 0)) s fun t =>
          t.ctrl 0 = { s.ctrl 0 with xfer := none } ∧ popped t 3 pop ∧ Frame [] [.ctrls, .unreads, .fwdIns] s t))
      ∧ (∀ (c : List Byte) (rest : List (List Byte)), c.length = 64 →
        (s.unread 3 = c :: rest → Answers (.commandUpload 0) s fun t => t.ctrl 0 = { s.ctrl 0 with xfer := some (.up 0x2020 0 c false 1) }
          ∧ sdoOut t (head 0x41 0x2020 0 ++ leBytes 4 64) ∧ Frame [] [.ctrls, .out] s t)
        ∧ (s.fwdIn 3 = c :: rest → Answers (.fwdIn .p3) s fun t => t.ctrl 0 = { s.ctrl 0 with xfer := some (.up 0x5E00 2 c false 2) }
          ∧ sdoOut t (head 0x41 0x5E00 2 ++ leBytes 4 64) ∧ Frame [] [.ctrls, .out] s t))
      ∧ (∀ (r : Reply) (rest : List Reply), (s.ctrl 0).replies = r :: rest → r.kind ≠ 2 → Answers (.sdoResponse 0) s fun t =>
        t.ctrl 0 = { s.ctrl 0 with replies := rest }
        ∧ sdoOut t (if r.abort ≠ 0 then head 0x80 r.index r.sub ++ leBytes 4 r.abort else match r.kind with
          | 0 => head 0x60 r.index r.sub
          | 1 => [0xA1]
          | 3 => [0x20]
          | _ => [0x30]) ∧ Frame [] [.ctrls, .out] s t))
    ∧ (s.canServe 1 = true →
      (∀ (dst : Fin 128) (idx : BitVec 16) (sub : Byte), dst.val ≠ 0 → s.rdN .nodeIdNow 1 = dst.val → let i := idx.toNat
        let j := sub.toNat
        (∀ st : Status, lookup i j = .error st → Answers (.usdoUpload dst idx sub) s fun t => t.out = .usdo i j st.abort [] :: s.out
          ∧ t.rd .lastStatus 0 4 = u32 (st.code * 0x1000000 + i * 0x100 + j) ∧ Frame [keyOf .lastStatus 0 4] [.out] s t)
        ∧ (∀ e : Ent, lookup i j = .ok e → notForPath .p4 e = false → isDomain e = false → Answers (.usdoUpload dst idx sub) s fun t =>
          t.out = .usdo i j 0 (leBytes (typeOf e).bytes (if s.fenced islHost = true ∧ s.absent e = false then s.readEnt .p4 e else s.windowRead .p4 e).toNat) :: s.out
          ∧ Frame (touched e) [.out, .ports] s t))
      ∧ (∀ (c : List Byte) (rest : List (List Byte)),
        (s.unread 4 = c :: rest → c ≠ [] → Answers (.commandUpload 1) s fun t => t.out = .usdo 0x2020 0 0 c :: s.out ∧ t.unread 4 = rest ∧ Frame [] [.out, .unreads] s t)
        ∧ (s.fwdIn 4 = c :: rest → c ≠ [] → Answers (.fwdIn .p4) s fun t => t.out = .usdo 0x5E00 2 0 c :: s.out ∧ t.fwdIn 4 = rest ∧ Frame [] [.out, .fwdIns] s t))
      ∧ (∀ (r : Reply) (rest : List Reply), (s.ctrl 1).replies = r :: rest → r.kind = 2 → Answers (.sdoResponse 1) s fun t =>
        t.ctrl 1 = { s.ctrl 1 with replies := rest } ∧ t.out = .usdo r.index r.sub r.abort [] :: s.out ∧ Frame [] [.ctrls, .out] s t))
    ∧ (∀ p ∈ [Path.p0, .p1, .p2, .p5, .p6], Answers (.fwdIn p) s fun t => t = s)

/-- PDOs, heartbeats, EMCY and error confinement. RPDO_RECEIVE in OPERATIONAL of a valid mapped RPDO holds its data for SYNC, or
writes its mapped entries at once: an entry mapped alone takes its value, or is refused with RPDO_REFUSED; too short a frame
gives only EMCY 8210. SYNC_RECEIVE releases held data and sends the synchronous TPDOs that are due with the mirrored values.
TPDO_EVENT_TIMER sends; TPDO_INHIBIT_EXPIRED sends a change that waited. HEARTBEAT_PRODUCE sends the NMT state.
HEARTBEAT_RECEIVE of a lost node clears HB_LOST_HALT with the last; HEARTBEAT_CONSUMER_TIMEOUT gives EMCY 8130 and
HB_LOST_WARN, or HB_LOST_HALT with its halt line. EMCY_INHIBIT_EXPIRED sends what waits. CAN_ERROR_DETECTED takes the counters
and the state of the bus, CAN_BUS_OFF_RECOVERY leaves bus-off, CAN_BUS_IDLE_RESUME lets a controller send again. (R711, R715,
R730, R731, R732, R733, R734, R735, R737, R917) -/
def Obligations.PdoAndEmcyRowsComplete : Prop :=
    ∀ s : State, s.live = true →
    let tpdo (j : Nat) : Output := .can (pdoCtrl j) (s.rdN .tpdoCobId j % 2048) (s.tpdoBytes j)
    let sentNow (t : State) (j : Nat) : Prop := (t.pdo j).sent = some (s.tpdoBytes j) ∧ (t.pdo j).inhibit = decide (s.rdN .tpdoInhibit j ≠ 0) ∧ (t.pdo j).due = false
    (∀ (k : Fin 12) (data : List Byte), NoHeld s → let x := pdoCtrl k
      let on := s.canOper x && !pdoInvalid s true k && decide (s.rdN .rpdoMapCount k ≠ 0)
      let n := ((s.mapped true k).map fun e => (typeOf e).bytes).sum
      (on = false → Answers (.rpdoReceive k data) s fun t => t = s)
      ∧ (on = true → data.length < n → Answers (.rpdoReceive k data) s fun t => t.rep.errors = (0x8210 :: s.rep.errors).take 8
        ∧ Frame [] [.ctrls, .out, .rep] s t)
      ∧ (on = true → n ≤ data.length → s.rdN .rpdoType k ≤ 240 → Answers (.rpdoReceive k data) s fun t =>
        t.pdo (12 + k) = { s.pdo (12 + k) with held := some (data.take n) } ∧ Frame [] [.pdos, .ctrls, .out, .rep] s t)
      ∧ (∀ e : Ent, on = true → n ≤ data.length → 240 < s.rdN .rpdoType k → s.mapped true k = [e] →
        let w := valueOf e (data.take n)
        let v := verdict s { path := canPath x, origin := .rpdo k, ents := [(e, w)] }
        (v.st = .ok → e.name ∉ [.modeReq, .claim, .stringEn] → idleWrite s e w = false → Answers (.rpdoReceive k data) s fun t =>
          t.rd e.name e.inst e.item = masked e.name w)
        ∧ (v.st ∉ [.ok, .keyWrong, .scanInvalid] → Answers (.rpdoReceive k data) s fun t =>
          t.rd .lastStatus 0 (canPath x).num = u32 (v.st.code * 0x1000000 + v.ent.index * 0x100 + v.ent.sub)
          ∧ (t.pdo (12 + k)).refused = true ∧ (n = data.length → (s.pdo (12 + k)).refused = false → s.fenced islHost = false →
            t.newest = some (Event.rpdoRefused, 0, pack [(8, k + 1), (8, v.st.code)]))
          ∧ Frame [keyOf .lastStatus 0 (canPath x).num] (.pdos :: reporting) s t)))
    ∧ (∀ x : Fin 2, NoHeld s → s.canOper x = true → (∀ k ∈ pdosOf x, (s.pdo (12 + k)).held = none) → Answers (.syncReceive x) s fun t =>
      (∀ j ∈ pdosOf x, let ty := s.rdN .tpdoType j
        (s.tpdoLive j = true → (ty = 0 ∧ (s.pdo j).sent ≠ some (s.tpdoBytes j)) ∨ (1 ≤ ty ∧ ty ≤ 240 ∧ ty ≤ (s.pdo j).syncs + 1) → tpdo j ∈ t.out ∧ sentNow t j)
        ∧ (1 ≤ ty ∧ ty ≤ 240 → (t.pdo j).syncs = if ty ≤ (s.pdo j).syncs + 1 then 0 else (s.pdo j).syncs + 1)
        ∧ (240 < ty → t.pdo j = s.pdo j))
      ∧ Frame [] [.pdos, .out] s t)
    ∧ (∀ x : Fin 2, NoHeld s → s.canOper x = true → ∀ k ∈ pdosOf x, ∀ (d : List Byte) (e : Ent), (s.pdo (12 + k)).held = some d → s.mapped true k = [e] →
      (∀ k' ∈ pdosOf x, k' ≠ k → (s.pdo (12 + k')).held = none) → let w := valueOf e (d.take (typeOf e).bytes)
      (verdict s { path := canPath x, origin := .rpdo k, ents := [(e, w)] }).st = .ok → e.name ∉ [.modeReq, .claim, .stringEn] → idleWrite s e w = false →
      Answers (.syncReceive x) s fun t => (t.pdo (12 + k)).held = none ∧ t.rd e.name e.inst e.item = masked e.name w)
    ∧ (∀ j : Fin 12, s.tpdoLive j = true →
      (254 ≤ s.rdN .tpdoType j → s.rdN .tpdoEventTimer j ≠ 0 → Answers (.tpdoEventTimer j) s fun t => t.out = tpdo j :: s.out ∧ sentNow t j ∧ Frame [] [.pdos, .out] s t)
      ∧ ((s.pdo j).due = true → Answers (.tpdoInhibitExpired j) s fun t => t.out = tpdo j :: s.out ∧ sentNow t j ∧ Frame [] [.pdos, .out] s t))
    ∧ (s.fenced islNet = false → ∀ j : Fin 12, (s.pdo j).due = false → Answers (.tpdoInhibitExpired j) s fun t => t.pdo j = { s.pdo j with inhibit := false } ∧ Frame [] [.pdos] s t)
    ∧ (∀ x : Fin 2, let id := s.rdN .nodeIdNow x
      (s.rdN .producerHb ≠ 0 → s.canUp x = true → Answers (.heartbeatProduce x) s fun t => t.out = .can x (0x700 + id) [(s.rd .nmtState x).setWidth 8] :: s.out ∧ Frame [] [.out] s t)
      ∧ (s.rdN .producerHb = 0 → Answers (.heartbeatProduce x) s fun t => t = s)
      ∧ (∀ node : Fin 128, s.canOn x = true →
        ((x.val, node.val) ∈ s.net.lost → Answers (.heartbeatReceive x node) s fun t => t.net.lost = s.net.lost.filter (· ≠ (x.val, node.val))
          ∧ (t.net.lost = [] → s.fenced islHost = false → t.isUncleared .hbLostHalt 0 = false) ∧ (t.net.lost ≠ [] → t.rep = s.rep) ∧ Frame [] (.net :: reporting) s t)
        ∧ ((x.val, node.val) ∉ s.net.lost → Answers (.heartbeatReceive x node) s fun t => t = s))
      ∧ (∀ i : Fin 8, let w := s.rdN .consumerHb 0 i
        let node := w / 65536 % 256
        w / 16777216 % 2 = x.val → w % 65536 ≠ 0 → s.canOn x = true → id ≠ 255 → s.fenced islHost = false → Answers (.heartbeatConsumerTimeout i) s fun t =>
          0x8130 ∈ t.rep.errors ∧ (s.rdN .hbAction x = 0 → t.newest = some (Event.hbLostWarn, 0, pack [(8, x), (8, node)]) ∧ t.net = s.net ∧ t.modes = s.modes)
          ∧ (s.rdN .hbAction x ≠ 0 → t.newest = some (Event.hbLostHalt, 0, pack [(8, x), (8, node)]) ∧ (x.val, node) ∈ t.net.lost
            ∧ t.modes.haltLines = s.modes.haltLines ++ [.hbLostHalt]) ∧ Frame [] (.net :: .modes :: reporting) s t)
      ∧ (s.canUp x = true → s.rdN .nmtState x ≠ 4 → Answers (.emcyInhibitExpired x) s fun t =>
        let q := (s.ctrl x).emcyQ
        let n := if s.rdN .emcyInhibit = 0 then q.length else 1
        t.ctrl x = { s.ctrl x with emcyQ := q.drop n, emcyHold := decide (q ≠ [] ∧ s.rdN .emcyInhibit ≠ 0) }
        ∧ t.out = (q.take n).reverse.map (.can x (0x80 + id)) ++ s.out ∧ Frame [] [.ctrls, .out] s t)
      ∧ (s.fenced islNet = false →
        (∀ (tec rec : BitVec 9) (lost : Bool), s.rdN .busState x ≠ 2 → Answers (.canErrorDetected x tec rec lost) s fun t =>
          t.rdN .errCounters x = min 255 tec.toNat + 256 * min 255 rec.toNat
          ∧ t.rdN .busState x = (if 256 ≤ tec.toNat then 2 else if 128 ≤ tec.toNat ∨ 128 ≤ rec.toNat then 1 else 0)
          ∧ t.rdN .busOffCount x = min (s.rdN .busOffCount x + if 256 ≤ tec.toNat then 1 else 0) 4294967295
          ∧ (s.fenced islHost = false → (lost = true → t.newest = some (Event.canRxOverrun, 0, u32 x))
            ∧ (lost = false → 256 ≤ tec.toNat → t.newest = some (Event.canBusOff, 0, u32 x))
            ∧ (lost = false → t.rdN .busState x = 1 → s.rdN .busState x = 0 → t.newest = some (Event.canErrorPassive, 0, u32 x)))
          ∧ Frame [keyOf .errCounters x 0, keyOf .busState x 0, keyOf .busOffCount x 0] reporting s t)
        ∧ (s.rdN .busState x = 2 → Answers (.canBusOffRecovery x) s fun t => t.rd .busState x = 0 ∧ t.rd .errCounters x = 0
          ∧ Frame [keyOf .errCounters x 0, keyOf .busState x 0] [.ctrls, .out, .rep] s t)
        ∧ ((s.ctrl x).resume = true → Answers (.canBusIdleResume x) s fun t => (t.ctrl x).resume = false ∧ (t.ctrl x).abortDue = none
          ∧ (id ≠ 255 → s.rdN .busState x ≠ 2 → .can x (0x700 + id) [(s.rd .nmtState x).setWidth 8] ∈ t.out) ∧ Frame [] [.ctrls, .out] s t)))

/-- Numbering, ports, alignment and membership of a Link ring. ENUM_REQ, and the root's first LINK_PORT_UP with both ports UP,
start an enumeration, which unnumbers the member and resets P5. ENUM_FRAME_RECEIVE gives a member its tentative number and
sends the next, or ends the root's enumeration; RING_SIZE_BROADCAST makes a numbered member ACTIVE; ENUM_TIMEOUT fails it.
LINK_PORT_UP, LINK_PORT_DOWN and RING_UNWRAP show the ports, and whether the ring is wrapped. ALIGN_EXCHANGE_TICK sends on
each port that is UP; ALIGN_FRAME_RECEIVE gives HOP_DELAY, the ring offset at the first alignment, ALIGN_ERR and LINK_ALIGNED;
ROOT_ALIGN_ABSENT and ALIGN_LOST_TIMEOUT end them. MEMBER_OUT_SET, ADMISSION_REQUEST, ADMISSION_GRANT, JOINING_TIMEOUT and
NEIGHBOUR_LINK_ABSENT move members between ACTIVE, REPEAT and JOINING. COLLECTOR_FREE_BROADCAST carries the free records of
the collector, and COLLECTOR_FREE_TIMEOUT makes them 0 for the next planning cycle. What LINK may not insert yet waits. The
sign of ALIGN_ERR is a free constant of the model (log 31). (R752, R753, R755, R758, R772, R773, R774, R775, R776,
R779, R789, R790) -/
def Obligations.RingMembershipRowsComplete : Prop :=
    ∀ s : State, s.live = true →
    let news (t : State) (ev : Event) (p1 : U32) : Prop := s.fenced islHost = false → t.newest = some (ev, 0, p1)
    let started (t : State) : Prop := t.rdN .member = 255 ∧ t.memberState = 0 ∧ t.rdN .lastHostSeq 0 5 = 0xFFFF ∧ t.granted .p5 = false
      ∧ (∀ u : Fin 56, t.holderOf (u + 1) ≠ 5) ∧ t.link.nextSeq = [] ∧ t.link.expect = []
    let resets : List Nat := [keyOf .member 0 0, keyOf .memberState 0 0, keyOf .lastHostSeq 0 5, keyOf .levelGranted 0 0]
      ++ (List.range 56).flatMap fun u => [keyOf .claim 0 u, keyOf .epoch 0 u]
    let active (t : State) (m size : Nat) : Prop := t.rdN .member = m ∧ t.rdN .ringSize = size ∧ t.memberState = 1 ∧ t.rdN .repeatCause = 0
      ∧ t.link.tentative = none ∧ news t .linkEnumerated (pack [(8, m), (8, size)])
    let leaves (t : State) (cause : Nat) : Prop := t.memberState = 2 ∧ t.rdN .repeatCause = cause ∧ t.link.grant = none
      ∧ .link s.outPort (.absent s.self) ∈ t.out ∧ news t .memberRepeat (pack [(8, s.self), (8, cause)])
    let leave : List Nat := [keyOf .memberState 0 0, keyOf .repeatCause 0 0]
    (∀ p : Path, Takes s p { name := .enumReq } 1 → Answers (.enumReq p) s fun t => started t ∧ t.link.enumerating = true
      ∧ .link 0 (.enum 1) ∈ t.out ∧ Frame resets (.link :: reporting) s t)
    ∧ (∀ p : Path, Takes s p { name := .memberOut } 1 → Answers (.memberOutSet p) s fun t => t.rd .memberOut = 1
      ∧ (s.memberState = 1 → leaves t 1) ∧ (s.memberState = 3 → t.memberState = 2 ∧ t.link.grant = none)
      ∧ (s.memberState ∉ [1, 3] → t.memberState = s.memberState ∧ t.link = s.link) ∧ Frame (keyOf .memberOut 0 0 :: leave) (.link :: reporting) s t)
    ∧ (∀ v : BitVec 16, let n := v.toNat
      (s.fenced islLink = true → Answers (.enumFrameReceive v) s fun t => t.out = .link 0 (.enum n) :: s.out ∧ Frame [] [.out] s t)
      ∧ (s.fenced islLink = false → s.isRoot = false → n < 128 → Answers (.enumFrameReceive v) s fun t => started t ∧ t.link.tentative = some n
        ∧ .link 0 (.enum (n + 1)) ∈ t.out ∧ Frame resets (.link :: reporting) s t)
      ∧ (s.fenced islLink = false → s.isRoot = false → 128 ≤ n → Answers (.enumFrameReceive v) s fun t => started t ∧ t.link.tentative = none
        ∧ .link 0 (.enum n) ∈ t.out ∧ news t .linkTooMany 0 ∧ Frame resets (.link :: reporting) s t)
      ∧ (s.fenced islLink = false → s.isRoot = true → s.link.enumerating = true → Answers (.enumFrameReceive v) s fun t => t.link.enumerating = false
        ∧ .link 0 (.ringSize n) ∈ t.out ∧ (∀ m : Nat, s.link.tentative = some m → m < 128 → active t m n)
        ∧ Frame (leave ++ [keyOf .member 0 0, keyOf .ringSize 0 0]) (.link :: reporting) s t)
      ∧ (s.fenced islLink = false → s.isRoot = true → s.link.enumerating = false → Answers (.enumFrameReceive v) s fun t =>
        news t .linkEnumFailed (pack [(8, 2)]) ∧ Frame [] reporting s t))
    ∧ (∀ n : Byte, (s.isRoot = true → Answers (.ringSizeBroadcast n) s fun t => t = s)
      ∧ (s.isRoot = false → Answers (.ringSizeBroadcast n) s fun t => .link 0 (.ringSize n.toNat) ∈ t.out
        ∧ (∀ m : Nat, s.fenced islLink = false → s.link.tentative = some m → m < 128 → active t m n.toNat)
        ∧ (s.fenced islLink = true ∨ s.link.tentative = none → Frame [] [.out] s t)
        ∧ Frame (leave ++ [keyOf .member 0 0, keyOf .ringSize 0 0]) (.link :: reporting) s t))
    ∧ (s.fenced islLink = false →
      (∀ port : Fin 2, let both := s.rdN .portState 0 = 2 ∧ s.rdN .portState 1 = 2
        (s.rdN .portState port ≠ 2 → Answers (.linkPortUp port) s fun t => t.rdN .portState port = 2 ∧ t.rdN .laneLock port = 255
          ∧ (s.isRoot = true ∧ s.link.enumerated = false ∧ s.rdN .portState (1 - port) = 2 → started t ∧ .link 0 (.enum 1) ∈ t.out
            ∧ Frame (resets ++ [keyOf .portState port 0, keyOf .laneLock port 0]) (.link :: reporting) s t)
          ∧ (¬ (s.isRoot = true ∧ s.link.enumerated = false ∧ s.rdN .portState (1 - port) = 2) →
            Frame [keyOf .portState port 0, keyOf .laneLock port 0] [] s t))
        ∧ (∀ lock : Byte, s.rdN .portState port = 2 → Answers (.linkPortDown port lock) s fun t => t.rdN .portState port = 0
          ∧ t.rdN .laneLock port = lock.toNat
          ∧ (s.rdN .linkRingState = 0 ∧ both → t.rdN .linkRingState = 1 ∧ news t .linkBreak (pack [(8, s.self), (8, port)]))
          ∧ (¬ (s.rdN .linkRingState = 0 ∧ both) → t.rd .linkRingState = s.rd .linkRingState ∧ t.rep = s.rep)
          ∧ Frame [keyOf .portState port 0, keyOf .laneLock port 0, keyOf .linkRingState 0 0] reporting s t)
        ∧ (s.rdN .linkRingState = 1 ∧ both → Answers (.ringUnwrap port) s fun t => t.rdN .linkRingState = 0 ∧ news t .linkRestored (pack [(8, port)])
          ∧ Frame [keyOf .linkRingState 0 0] reporting s t)
        ∧ (∀ (trip turn : BitVec 32) (ring arrival : U64) (root : Bool), Answers (.alignFrameReceive port trip turn ring arrival root) s fun t =>
          let hop := (trip.toNat - turn.toNat) * 125
          let ideal : Int := ring.toNat * 250 + hop - arrival.toNat * 250
          let off : Int := if s.link.firstAlign then roundDiv ideal 250 else sign64 (s.rd64 .ringOffset)
          let err : Int := if s.isRoot then 0 else (if Config.alignPositive then 1 else -1) * (ideal - off * 250)
          t.rd .hopDelay port = u32 hop
          ∧ t.rdN .linkRingState = (if root ∧ s.rdN .linkRingState = 2 then (if both then 0 else 1) else s.rdN .linkRingState)
          ∧ (port.val = (if s.rdN .portState 1 = 2 then 1 else 0) ∧ s.memberState ≠ 0 → t.rd .alignErr = i32 err
            ∧ (s.isRoot = false → t.link.firstAlign = false ∧ (s.link.firstAlign = true → t.rd64 .ringOffset = (off % 18446744073709551616).toNat))
            ∧ t.link.good = (if err.natAbs ≤ 250 then s.link.good + 1 else 0) ∧ t.link.bad = (if 500 < err.natAbs then s.link.bad + 1 else 0)
            ∧ t.aligned = (if 16 ≤ t.link.good then true else if 4 ≤ t.link.bad then false else s.aligned)
            ∧ (t.aligned = true → s.isRoot = false → -100000 ≤ t.rdZ .rateAdj ∧ t.rdZ .rateAdj ≤ 100000))
          ∧ (¬ (port.val = (if s.rdN .portState 1 = 2 then 1 else 0) ∧ s.memberState ≠ 0) → Frame [keyOf .hopDelay port 0, keyOf .linkRingState 0 0] [] s t)
          ∧ Frame [keyOf .hopDelay port 0, keyOf .linkRingState 0 0, keyOf .alignErr 0 0, keyOf .ringOffset 0 0, keyOf .ringOffset 0 1, keyOf .rateAdj 0 0,
            keyOf .tbStatus 0 0] (.link :: reporting) s t))
      ∧ (s.link.enumerating = true → Answers .enumTimeout s fun t => t.link = { s.link with enumerating := false }
        ∧ news t .linkEnumFailed (pack [(8, 1)]) ∧ Frame [] (.link :: reporting) s t)
      ∧ Answers .alignExchangeTick s (fun t => (∀ p : Fin 2, s.rdN .portState p = 2 → .link p (.align s.time) ∈ t.out)
        ∧ (s.rdN .portState 0 ≠ 2 ∧ s.rdN .portState 1 ≠ 2 → s.link.waiting = [] → t.out = s.out)
        ∧ (s.link.waiting = [] ∨ s.mayInsert = false → Frame [] [.out] s t) ∧ Frame replayKeys [.link, .out] s t)
      ∧ (s.isRoot = false → Answers .rootAlignAbsent s (fun t => t.rdN .linkRingState = 2 ∧ (s.memberState ∈ [1, 3] → leaves t 3)
          ∧ (s.memberState ∉ [1, 3] → Frame [keyOf .linkRingState 0 0] [] s t) ∧ Frame (keyOf .linkRingState 0 0 :: leave) (.link :: reporting) s t)
        ∧ (s.aligned = true → Answers .alignLostTimeout s fun t => t.aligned = false ∧ t.link = { s.link with good := 0, bad := 0 }
          ∧ news t .linkAlignLost (s.rd .alignErr) ∧ Frame [keyOf .tbStatus 0 0] (.link :: reporting) s t))
      ∧ (s.isRoot = true → Answers .rootAlignAbsent s (fun t => t = s) ∧ Answers .alignLostTimeout s fun t => t = s)
      ∧ (s.memberState = 2 → s.rdB .memberOut = false → s.rdN .linkRingState ≠ 2 → Answers .admissionRequest s fun t => t.memberState = 3
        ∧ t.out = .link s.outPort (.admitRequest s.self) :: s.out ∧ Frame [keyOf .memberState 0 0] [.out] s t)
      ∧ (s.memberState = 3 → s.aligned = false → Answers .joiningTimeout s fun t => t.memberState = 2 ∧ t.link = { s.link with grant := none }
        ∧ news t .linkAdmitFailed (pack [(8, s.self)]) ∧ Frame [keyOf .memberState 0 0] (.link :: reporting) s t)
      ∧ (∀ m : Fin 128,
        (s.isRoot = true → s.memberState ≠ 0 → m.val < s.rdN .ringSize → Answers (.admissionGrant m) s fun t =>
          let h := s.rdN .ringRefHead
          let n := if s.armedNow h then (s.rdN .lineNumber h + s.rdN .admitLead) % 4294967296 else 0
          t.rdN .admitLine = n ∧ m.val ∉ t.link.absent ∧ m.val ∉ t.link.fenced ∧ Store.get none t.link.joins m = some n
          ∧ (∀ k : Fin 128, k.val < s.rdN .ringSize → k.val ≠ s.self → k = m ∨ s.memberActive k = true → .link s.outPort (.admitted m n) ∈ t.out
            ∧ (s.link.waiting = [] → s.mayInsert = true → Store.get 0 t.link.nextSeq k = (Store.get 0 s.link.nextSeq k + 1) % 65536)
            ∧ (s.mayInsert = false → ∃ x ∈ t.link.waiting, x.kind = kCtrl ∧ x.dst = k ∧ x.again = none))
          ∧ Frame (keyOf .admitLine 0 0 :: leave ++ replayKeys) (.link :: reporting) s t)
        ∧ (∀ f : Bool, Answers (.neighbourLinkAbsent m f) s fun t => m.val ∈ t.link.absent ∧ (f = true → m.val ∈ t.link.fenced)
          ∧ Store.get none t.link.joins m = none ∧ .link s.outPort (.absent m) ∈ t.out
          ∧ (∀ h : Fin 4, Store.get none t.link.halves (4 * m + h) = none)
          ∧ Frame [keyOf .lostHalves 0 0, keyOf .undelivered 0 0] (.link :: .streams :: reporting) s t))
      ∧ (∀ v : U32, (s.isCollector = true → Answers (.collectorFreeBroadcast v) s fun t =>
          t.out = .link s.outPort (.free (s.rdN .freeRecords (s.rdN .collectStream))) :: s.out ∧ Frame [] [.out] s t)
        ∧ (s.isCollector = false → Answers (.collectorFreeBroadcast v) s fun t => t.link = { s.link with collFree := v.toNat } ∧ Frame [] [.link] s t))
      ∧ (s.isCollector = false → Answers .collectorFreeTimeout s fun t => t.link = { s.link with collFree := 0 }
        ∧ Store.get 0 t.pace.free 8 = 0 ∧ (∀ k, k ≠ 8 → Store.get 0 t.pace.free k = Store.get 0 s.pace.free k) ∧ Frame [] [.link, .pace] s t))

/-- Bursts of the Link. A burst whose length or CRC is bad is counted in CRC_ERRORS and does nothing else. A good one takes
effect only in its turn: the next sequence of its origin is taken and owed an ACK, a later one is answered by one NAK, an
earlier one is owed an ACK again, as the later one is. Taken, LINE_A is kept as the first half of a record and LINE_B gives the
record to COLLECT_STREAM, with a lost half counted and zeroed; SEAM gives its pixels to the side that names the origin; FWD is
executed from P5 for P5_SOURCE, turned back for another member, or answered from the mirror for kind 1, each answer a burst;
FWD_RET gives its completion to the path that asked; CTRL records the admission line. THROUGH_BURST is passed on, or next to a
break turned back with WRAPPED as the path has it, counted in UNDELIVERED at its own origin, or swallowed whole where the FIFO
is full. A burst that LINK may not insert yet waits. ACK_RECEIVE notes what has arrived, NAK_RECEIVE and ACK_TIMEOUT send
again, whole or VOID, and ACK_SEND_TIMER sends the ACKs owed. FWD_OUT sends the request. (R748, R749, R759, R762, R764, R765,
R773, R781, R782, R785, R786, R787) -/
def Obligations.BurstRowsComplete : Prop :=
    ∀ s : State, s.live = true →
    let order (c : Instr) (port key src seq : Nat) (P : State → Prop) : Prop :=
      let e := Store.get 0 s.link.expect key
      let ahead := (seq + 65536 - e) % 65536 < 32768
      let owed : List Nat := if key ∈ s.link.ackDue then s.link.ackDue else s.link.ackDue ++ [key]
      (seq = e → Answers c s fun t => Store.get 0 t.link.expect key = (e + 1) % 65536 ∧ key ∈ t.link.ackDue ∧ key ∉ t.link.naked ∧ P t)
      ∧ (seq ≠ e → ahead → key ∉ s.link.naked → Answers c s fun t => t.link = { s.link with ackDue := owed, naked := key :: s.link.naked }
        ∧ t.out = .link port (.nak s.self src e) :: s.out ∧ Frame [] [.link, .out] s t)
      ∧ (seq ≠ e → ¬ (ahead ∧ key ∉ s.link.naked) → Answers c s fun t => t.link = { s.link with ackDue := owed } ∧ Frame [] [.link] s t)
    let takes (c : Instr) (port : Nat) (bytes : List Byte) (P : Burst → State → Prop) : Prop :=
      (burstOf bytes = none → Answers c s fun t => t.rdN .crcErrors port = min (s.rdN .crcErrors port + 1) 4294967295
        ∧ Frame [keyOf .crcErrors port 0] [] s t)
      ∧ ∀ b : Burst, burstOf bytes = some b → order c port (if b.dst = 255 then 256 + b.src else b.src) b.src b.seq (P b)
    let idle : Prop := s.link.waiting = [] ∧ s.mayInsert = true
    let sent (t : State) (kind m : Nat) : Prop :=
      (idle → Store.get 0 t.link.nextSeq (dstKey m) = (Store.get 0 s.link.nextSeq (dstKey m) + 1) % 65536 ∧ t.link.waiting = [])
      ∧ (s.mayInsert = false → ∃ x : ToSend, t.link.waiting = s.link.waiting ++ [x] ∧ x.kind = kind ∧ x.dst = m ∧ x.again = none)
    let replied (t : State) (m : Nat) : Prop := sent t kFwdRet m
    (s.fenced islLink = false →
      (∀ (port : Fin 2) (bytes : List Byte),
        takes (.lineBurstReceive port bytes) port bytes (fun b t => let key := 4 * b.src + b.head % 4
          let k := s.rdN .collectStream
          (b.kind = 0 → Store.get none t.link.halves key = some { bytes := b.payload, lost := b.void } ∧ Frame [] [.link] s t)
          ∧ (b.kind ≠ 0 → Store.get none t.link.halves key = none ∧ (Store.get none s.link.halves key = none → Frame [] [.link] s t)
            ∧ ∀ a : Half, Store.get none s.link.halves key = some a →
              let hdr := a.bytes.take 64
              let units := leNat ((hdr.drop 30).take 2) - 1
              let n := 64 * ((units + 1) / 2)
              t.rdN .lostHalves = min (s.rdN .lostHalves + (if a.lost then 1 else 0) + (if b.void then 1 else 0)) 4294967295
              ∧ (k ≤ 7 → s.rdN .streamState k ≠ 0 → a.lost = false → b.void = false → 64 ≤ a.bytes.length →
                (t.stream k).coming = (s.stream k).coming ++ [hdr ++ (a.bytes.drop 64).take n ++ (b.payload.drop 64).take (64 * units - n)])
              ∧ (k ≤ 7 → s.rdN .streamState k ≠ 0 → (t.stream k).coming.length = (s.stream k).coming.length + 1)
              ∧ (7 < k ∨ s.rdN .streamState k = 0 → t.rdN .undelivered = min (s.rdN .undelivered + 1) 4294967295 ∧ t.streams = s.streams))
          ∧ Frame [keyOf .lostHalves 0 0, keyOf .undelivered 0 0] (.link :: .streams :: reporting) s t)
        ∧ takes (.seamBurstReceive port bytes) port bytes (fun b t =>
          let size := leNat (b.payload.take 2)
          let right := bitAt (b.payload.getD 2 0).toNat 0
          let row (c : Nat) : List Nat := (List.range size).map fun i => leNat ((b.payload.drop (8 + 2 * (c * size + i))).take 2)
          let d : SeamData := { line := b.line, size := size, rows := [row 0, row 1, row 2] }
          (∀ h : Fin 4, t.lineUnit h = if b.void = false ∧ (s.seamOf h right).1 = 1 ∧ (s.seamOf h right).2.2.1 = 0x8000 + 256 * b.src + b.head
            then { s.lineUnit h with seamIn := (s.lineUnit h).seamIn ++ [(right, d)] } else s.lineUnit h) ∧ Frame [] [.link, .lineUnits] s t)
        ∧ (NoHeld s → takes (.fwdBurstReceive port bytes) port bytes (fun b t => let r := parseRecord (b.payload.drop 4)
          let entry := r.index.toNat * 0x100 + r.sub.toNat
          (b.void = true → replied t b.src ∧ Frame replayKeys [.link, .out, .rep, .fresh] s t)
          ∧ (b.void = false → (b.payload.getD 1 0).toNat = 0 → b.src ≠ s.rdN .p5Source → replied t b.src
            ∧ t.rd .lastStatus 0 5 = u32 (Status.fwdSource.code * 0x1000000 + entry) ∧ Frame (keyOf .lastStatus 0 5 :: replayKeys) [.link, .out, .rep, .fresh] s t)
          ∧ (b.void = false → (b.payload.getD 1 0).toNat = 0 → b.src = s.rdN .p5Source → s.fenced islHost = true → replied t b.src
            ∧ t.rd .lastStatus 0 5 = u32 (Status.busy.code * 0x1000000 + entry) ∧ Frame (keyOf .lastStatus 0 5 :: replayKeys) [.link, .out, .rep, .fresh] s t)
          ∧ (∀ e : Ent, b.void = false ∧ (b.payload.getD 1 0).toNat = 0 ∧ b.src = s.rdN .p5Source ∧ ReadyFor s .p5 →
            r.hostSeq.toNat = (s.rdN .lastHostSeq 0 5 + 1) % 65536 ∧ r.opcode = 2 ∧ r.bankRef = false →
            lookupRun .p5 r.index.toNat r.sub.toNat r.count = .ok [e] ∧ (accessOf e = .rw ∨ accessOf e = .rwp) ∧
            e.name ∉ [.modeReq, .nodeId, .cmdEn, .memberOut, .stringEn, .claim] →
            (verdict s { path := .p5, hostSeq := some r.hostSeq.toNat, exp := r.exp, lenSt := r.lengthStatus, ents := [(e, u32 (r.dataAt 0 4))] }).st = .ok →
            idleWrite s e (u32 (r.dataAt 0 4)) = false → t.rd e.name e.inst e.item = masked e.name (u32 (r.dataAt 0 4)) ∧ t.rdN .lastHostSeq 0 5 = r.hostSeq.toNat ∧ replied t b.src)
          ∧ (∀ e : Ent, b.void = false → (b.payload.getD 1 0).toNat ≠ 0 → lookup r.index.toNat r.sub.toNat = .ok e → replied t b.src
            ∧ Frame (replayKeys ++ if e.name ∈ [.parErr, .qspiErr] then [e.key] else []) [.link, .out, .rep, .fresh, .ports] s t)
          ∧ (∀ st : Status, b.void = false → (b.payload.getD 1 0).toNat ≠ 0 → lookup r.index.toNat r.sub.toNat = .error st → replied t b.src
            ∧ t.rd .lastStatus 0 5 = u32 (st.code * 0x1000000 + entry) ∧ Frame (keyOf .lastStatus 0 5 :: replayKeys) [.link, .out, .rep, .fresh] s t)))
        ∧ takes (.fwdRetBurstReceive port bytes) port bytes (fun b t =>
          (s.link.fwdPend.find? (fun x => x.1 = b.src) = none → Frame [] [.link] s t)
          ∧ (∀ (kind : Nat) (path : Path) (q : Nat), s.link.fwdPend.find? (fun x => x.1 = b.src) = some (b.src, kind, path, q) →
            let c := if b.void then lostCompletion b.payload else (b.payload ++ List.replicate 64 0).take 64
            let turned := kind = 0 ∧ b.void = false ∧ (c.getD 6 0).toNat ∈ [Status.linkLost.code, Status.fwdSource.code]
            t.fwdIn path.num = s.fwdIn path.num ++ [c] ∧ t.link.fwdPend = s.link.fwdPend.erase (b.src, kind, path, q)
            ∧ (turned → Store.get 0 t.link.fwdSeq b.src = q) ∧ (¬ turned → t.link.fwdSeq = s.link.fwdSeq)
            ∧ Frame [] [.link, .fwdIns] s t)))
      ∧ (∀ (port : Fin 2) (src : Fin 128) (seq : BitVec 16) (void : Bool) (m : Fin 128) (n : U32),
        order (.ctrlBurstReceive port src seq void m n) port src src seq.toNat (fun t =>
          (void = true → Frame [] [.link] s t)
          ∧ (void = false → t.rd .admitLine = n ∧ m.val ∉ t.link.absent ∧ Store.get none t.link.joins m = some n.toNat
            ∧ (m.val = s.self → s.memberState = 3 → n = 0 → t.memberState = 1 ∧ t.rdN .repeatCause = 0)
            ∧ (m.val = s.self → s.memberState = 3 → n ≠ 0 → t.memberState = 3 ∧ t.link.grant = some n.toNat)
            ∧ (m.val ≠ s.self ∨ s.memberState ≠ 3 → Frame [keyOf .admitLine 0 0] [.link] s t)
            ∧ Frame [keyOf .admitLine 0 0, keyOf .memberState 0 0, keyOf .repeatCause 0 0] (.link :: reporting) s t)))
      ∧ (∀ (dst : Byte) (seq : BitVec 16), let key := if dst = 255 then 256 else dst.toNat
        Answers (.ackReceive dst seq) s (fun t => Store.get 0 t.link.acked key = (seq.toNat + 1) % 65536
          ∧ (∀ k, k ≠ key → Store.get 0 t.link.acked k = Store.get 0 s.link.acked k) ∧ Frame [] [.link] s t)
        ∧ (∀ (c : Instr) (q : Nat), (c = .nakReceive dst seq ∧ q = seq.toNat) ∨ (c = .ackTimeout dst ∧ q = Store.get 0 s.link.acked key) →
          q < 65536 → q ≠ Store.get 0 s.link.nextSeq key →
          (s.mayInsert = false → Answers c s fun t => t.link.waiting = (List.range ((Store.get 0 s.link.nextSeq key + 65536 - q) % 65536)).map
              (fun k => { dst := key, again := some ((q + k) % 65536) }) ++ s.link.waiting.filter (fun x => !(x.again.isSome && x.dst = key))
            ∧ (s.time.toNat < s.link.busyUntil → .link s.outPort .cut ∈ t.out) ∧ Frame [] [.link, .out] s t)
          ∧ (idle → Store.get 0 s.link.nextSeq key = (q + 1) % 65536 → ∀ x : Sent, (s.link.logE ++ s.link.logW).find? (fun x => x.dst = key ∧ x.seq = q) = some x →
          let port := s.outPort
          Answers c s fun t => (x.bytes.length = x.size → .link port (.burst x.bytes) ∈ t.out ∧ t.rdN .replays port = min (s.rdN .replays port + 1) 4294967295
              ∧ t.rd .voids port = s.rd .voids port)
            ∧ (x.bytes.length ≠ x.size → t.rdN .voids port = min (s.rdN .voids port + 1) 4294967295 ∧ t.rd .replays port = s.rd .replays port)
            ∧ (s.time.toNat < s.link.busyUntil → .link port .cut ∈ t.out) ∧ t.link.waiting = []
            ∧ Frame [keyOf .replays port 0, keyOf .voids port 0] [.link, .out] s t))
        ∧ (Store.get 0 s.link.acked key = Store.get 0 s.link.nextSeq key → Answers (.ackTimeout dst) s fun t => t = s))
      ∧ Answers .ackSendTimer s (fun t => t.link = { s.link with ackDue := [] }
        ∧ (∀ key ∈ s.link.ackDue, .link (if s.rdN .portState 1 = 2 then 1 else 0) (.ack s.self (key % 256) ((Store.get 0 s.link.expect key + 65535) % 65536)) ∈ t.out)
        ∧ Frame [] [.link, .out] s t))
    ∧ (∀ (dir : Fin 2) (bytes : List Byte), let own := (bytes.getD 3 0).toNat = s.self ∧ s.fenced islLink = false
      let busy := s.time.toNat < s.link.busyUntil
      (own → Answers (.throughBurst dir bytes) s fun t => t.rdN .undelivered = min (s.rdN .undelivered + 1) 4294967295 ∧ Frame [keyOf .undelivered 0 0] [] s t)
      ∧ (¬ own → 131072 < s.fifoNow dir + bytes.length → Answers (.throughBurst dir bytes) s fun t => t.rdN .swallowed dir = min (s.rdN .swallowed dir + 1) 4294967295
        ∧ Frame [keyOf .swallowed dir 0] [] s t)
      ∧ (¬ own → s.fifoNow dir + bytes.length ≤ 131072 →
        let back := s.rdN .linkRingState = 1 ∧ s.rdN .portState dir ≠ 2
        let gone : Output := if back then .link (1 - dir) (.burst (turned bytes (1 - dir))) else .link dir (.burst bytes)
        Answers (.throughBurst dir bytes) s fun t => gone ∈ t.out ∧ (s.link.waiting = [] → t.out = gone :: s.out
          ∧ t.fifoNow dir = s.fifoNow dir + (if busy then bytes.length else 0) ∧ t.fifoNow (1 - dir) = s.fifoNow (1 - dir) ∧ Frame [] [.link, .out] s t)
        ∧ Frame replayKeys [.link, .out] s t))
    ∧ (∀ (p : Path) (data : List Byte), pathUp s p = true → let v := domVerdict s { path := p, ent := { name := .fwdOut }, size := data.length, data := data }
      let m := (data.getD 0 0).toNat
      let kind := (data.getD 1 0).toNat
      let q := Store.get 0 s.link.fwdSeq m
      (v.st = .ok → Answers (.fwdOut p data) s fun t => t.link.fwdPend = s.link.fwdPend ++ [(m, kind, p, q)] ∧ sent t kFwd m
        ∧ Store.get 0 t.link.fwdSeq m = (if kind = 0 then (q + 1) % 65536 else q)
        ∧ (idle → t.out = .link s.outPort (.burst (withTrailer (burstBody (Store.get 0 s.link.nextSeq (dstKey m)) kFwd s.self m 0 0
            (if s.outPort = 0 then 0 else 1) (padTo 8 (if kind = 0 then data.take 4 ++ leBytes 2 q ++ data.drop 6 else data))))) :: s.out
          ∧ Frame [] [.link, .out] s t)
        ∧ Frame replayKeys [.link, .out] s t)
      ∧ (v.st ≠ .ok → p ∉ [.p1, .p2] → Answers (.fwdOut p data) s fun t => t.rd .lastStatus 0 p.num = u32 (v.st.code * 0x1000000 + v.ent.index * 0x100 + v.ent.sub)
        ∧ Frame [keyOf .lastStatus 0 p.num] [] s t))

/-- Rails, resets and the junction temperature. A POWER_REQ write that passes starts the step towards its level where nothing
steps. ON_DELAY_EXPIRED raises EN; RAIL_GOOD, with PG above its threshold, ends an up step; PG_TIMEOUT_EXPIRED starts a forced
descent with POWER_REQ 0 and RAIL_PG_TIMEOUT, or ends the step where PG is above the threshold now; DISCHARGE_EXPIRED and
RAIL_DISCHARGED end a down step once both have come, OFF_TIMEOUT_EXPIRED ends it with the rail dirty; DIRTY_CLR clears the
dirty bits. RAIL_LOST of a good managed rail is reported, and collapses the rails where LOSS_POLICY or a descent says so;
COLLAPSE_STEP drops the next. DEVICE_RESET_WRITE, RESET_N_ASSERTED, SUPPLY_LOW and BOOT_RAIL_LOST reset what is not kept and
show their cause, and during a reset only add it. BOOT_RAIL_TIMEOUT and BOOT_RETRY_DELAY power the boot rails down and up
again. AON_POWER_FAIL drops every rail, AON_POWER_ON starts from the straps, RESET_RELEASE samples them once the supplies, the
clock and RESET_N allow it. TJ_SAMPLE shows the temperature and its peak, with TJ_HIGH and TJ_SHUTDOWN. (R808, R811, R812,
R814, R817, R818, R820, R821, R825, R829, R833, R836) -/
def Obligations.PowerAndResetRowsComplete : Prop :=
    ∀ s : State,
    let seqW : List Nat := [keyOf .seqState 0 0, keyOf .seqStep 0 0, keyOf .dirtyMask 0 0, keyOf .seqPowerReq 0 0, epochKey unitSeq]
    let seqL : List Part := .rails :: .seqr :: .modes :: .calTime :: reporting
    let free := s.seqr.step = none ∧ s.rdN .seqState ≠ 5 ∧ s.rdN .seqState ≠ 6
    let heard := s.live = true ∧ s.fenced islHost = false
    (∀ (p : Path) (v : BitVec 8), Takes s p { name := .seqPowerReq } (v.setWidth 32) → Answers (.powerReqWrite p v) s fun t =>
      let k := s.seqr.level
      let n := s.railLevel v.toNat
      t.rd .seqPowerReq = v.setWidth 32
      ∧ (free → k < n → t.seqr.step = some { rail := s.managed.getD k 0, up := true } ∧ t.rdN .seqState = 1 ∧ t.rd .seqStep = u32 (s.managed.getD k 0))
      ∧ (free → n < k → t.seqr.step = some { rail := s.managed.getD (k - 1) 0, up := false } ∧ t.rdN .seqState = 4
        ∧ (t.rail (s.managed.getD (k - 1) 0)).en = false)
      ∧ (free → n = k → s.rdN .seqState ≠ 4 → t.seqr.step = none ∧ t.rdN .seqState = t.levelState)
      ∧ (¬ free → t.seqr.step = s.seqr.step ∧ t.rd .seqState = s.rd .seqState) ∧ t.seqr.level = k ∧ Frame (seqW ++ calKeys) seqL s t)
    ∧ (∀ p : Path, Takes s p { name := .dirtyClr } 1 → Answers (.dirtyClr p) s fun t => t.rd .dirtyMask = 0
      ∧ (s.rdN .seqState = 6 → t.rdN .seqState ≠ 6) ∧ (s.rdN .seqState ≠ 6 → t.rd .seqState = s.rd .seqState) ∧ Frame (seqW ++ calKeys) seqL s t)
    ∧ (s.phase ≠ .unpowered → ∀ r : Fin 12,
      let wait : Option SeqStep := some { rail := r, up := true }
      let high : Option SeqStep := some { rail := r, up := true, enOn := true }
      let low : Option SeqStep := some { rail := r, up := false }
      let lapsed : Option SeqStep := some { rail := r, up := false, elapsed := true }
      let rest (t : State) : Prop := Frame seqW seqL s t
      (s.seqr.step = wait → (s.rail r).good = false → Answers (.onDelayExpired r) s fun t => t.seqr.step = high ∧ (t.rail r).en = true
        ∧ (t.rail r).dis = false ∧ t.seqr.level = s.seqr.level ∧ rest t)
      ∧ (s.seqr.bstep = wait → s.seqr.step = none → (s.rail r).good = false → Answers (.onDelayExpired r) s fun t => t.seqr.bstep = high
        ∧ (t.rail r).en = true ∧ rest t)
      ∧ (s.seqr.step ≠ wait → s.seqr.bstep ≠ wait → Answers (.onDelayExpired r) s fun t => t = s)
      ∧ (∀ pg : BitVec 16, ¬ s.goodAbove r < pg.toNat → Answers (.railGood r pg) s fun t => t = s)
      ∧ (∀ pg : BitVec 16, s.goodAbove r < pg.toNat → Answers (.railGood r pg) s fun t => (t.rail r).lost = false
        ∧ (s.seqr.step = high → t.seqr.level = s.seqr.level + 1 ∧ t.seqr.step ≠ high)
        ∧ (s.seqr.step ≠ high → t.seqr.level = s.seqr.level ∧ t.seqr.step = s.seqr.step ∧ t.rail r = { s.rail r with good := true, dis := false, lost := false })
        ∧ (s.seqr.bstep = high → t.seqr.bstep = if r + 1 < s.bootN then some { rail := r + 1, up := true } else none)
        ∧ ((s.rail r).lost = true → heard → (∀ q : Fin 12, q ≠ r → (s.rail q).lost = false) → t.isUncleared .railLost unitSeq = false)
        ∧ rest t)
      ∧ (∀ pg : BitVec 16, s.goodAbove r < pg.toNat → s.seqr.step = high ∨ s.seqr.bstep = high →
        exec (.pgTimeoutExpired r pg) s = exec (.railGood r pg) s)
      ∧ (∀ pg : BitVec 16, ¬ s.goodAbove r < pg.toNat → s.seqr.step = high → s.seqr.bstep = none → Answers (.pgTimeoutExpired r pg) s fun t => t.seqr.forced = true ∧ t.rd .seqPowerReq = 0
        ∧ t.seqr.step = low ∧ t.seqr.level = s.seqr.level + 1 ∧ t.rdN .seqState = 4 ∧ (t.rail r).en = false
        ∧ (heard → t.isUncleared .railPgTimeout unitSeq = true) ∧ rest t)
      ∧ (∀ pg : BitVec 16, ¬ s.goodAbove r < pg.toNat → s.seqr.bstep = high → s.seqr.step = none → Answers (.pgTimeoutExpired r pg) s fun t => t.seqr.bootDown = true ∧ rest t)
      ∧ (s.seqr.step = low → (s.rail r).dis = false → Answers (.dischargeExpired r) s fun t => t.seqr.step = lapsed ∧ t.seqr.level = s.seqr.level ∧ rest t)
      ∧ (s.seqr.step = low → (s.rail r).dis = true → Answers (.dischargeExpired r) s fun t => t.seqr.level = s.seqr.level - 1 ∧ rest t)
      ∧ (∀ pg : BitVec 16, ¬ pg.toNat < s.offBelow r → Answers (.railDischarged r pg) s fun t => t = s)
      ∧ (∀ pg : BitVec 16, pg.toNat < s.offBelow r → Answers (.railDischarged r pg) s fun t => (t.rail r).dis = true ∧ (t.rail r).good = false ∧ bitAt (t.rdN .dirtyMask) r = false ∧ r.val ∉ t.seqr.watch
        ∧ (s.seqr.step = lapsed → r.val ∉ s.seqr.watch → t.seqr.level = s.seqr.level - 1) ∧ (s.seqr.step = low → t.seqr.step = low) ∧ rest t)
      ∧ (∀ pg : BitVec 16, s.seqr.step = low ∨ s.seqr.step = lapsed → s.seqr.watch = [] →
        let dis := (s.rail r).dis = true ∨ pg.toNat < s.offBelow r
        Answers (.offTimeoutExpired r pg) s fun t => t.seqr.level = s.seqr.level - 1
          ∧ (¬ dis → bitAt (t.rdN .dirtyMask) r = true ∧ (s.rdN .seqState = 4 → t.rd .seqPowerReq = 0))
          ∧ (dis → t.rd .dirtyMask = s.rd .dirtyMask) ∧ rest t)
      ∧ (∀ pg : BitVec 16, let here := r.val ∈ s.managed ∧ (s.rail r).en = true ∧ (s.rail r).good = true ∧ pg.toNat ≤ s.goodAbove r
        (¬ here → Answers (.railLost r pg) s fun t => t = s)
        ∧ (here → s.rdN .seqState ∈ [1, 2, 3] → Answers (.railLost r pg) s fun t => (t.rail r).good = false
          ∧ (heard → t.isUncleared .railLost unitSeq = true ∨ (s.rdN .lossPolicy = 1 ∧ (t.rail r).en = false))
          ∧ (s.live = true → t.modes.haltLines = s.modes.haltLines ++ [.railLost])
          ∧ (s.rdN .lossPolicy ≠ 1 → (t.rail r).lost = true ∧ t.seqr = s.seqr ∧ t.rd .seqState = s.rd .seqState)
          ∧ (s.rdN .lossPolicy = 1 → t.seqr.step = none ∨ t.rdN .seqState ≠ 5) ∧ rest t)
        ∧ (here → s.rdN .seqState = 4 → Answers (.railLost r pg) s fun t => (t.rail r).good = false ∧ t.rd .seqPowerReq = 0
          ∧ (t.rdN .seqState ∈ [0, 5, 6] ∨ t.seqr.step ≠ s.seqr.step) ∧ rest t))
      ∧ (∀ rs : List Nat, s.rdN .seqState = 5 → s.seqr.drops = r.val :: rs → Answers .collapseStep s fun t => (t.rail r).en = false
        ∧ (rs ≠ [] → t.seqr.drops = rs ∧ t.rdN .seqState = 5 ∧ t.seqr.watch = if (s.rail r).dis then s.seqr.watch else s.seqr.watch ++ [r.val]) ∧ rest t))
    ∧ (let keep : List Nat := [keyOf .resetCause 0 0, keyOf .resetCount 0 0, keyOf .tjPeak 0 0, keyOf .tbStatus 0 0, keyOf .seqState 0 0, keyOf .seqStep 0 0]
      let cleared : List Part := [.islands, .vectors, .heads, .chans, .pairs, .watch, .lanes, .lineUnits, .calTime, .axes, .pace, .strings, .convs, .heath,
        .timers, .banks, .rowTest, .cmds, .ring, .digests, .streams, .ports, .ctrls, .pdos, .net, .link, .unreads, .fwdIns, .modes]
      let reset (bit : Nat) (t : State) : Prop :=
        (s.phase ≠ .held → t.phase = .held ∧ t.rd .resetCause = u32 (2 ^ bit) ∧ t.rdN .resetCount = min 4294967295 (s.rdN .resetCount + 1)
          ∧ t.rd .tjPeak = s.rd .tj ∧ t.rdN .tbStatus = s.rdN .tbStatus % 4 ∧ t.rep.journal = [] ∧ t.rep.seq = 0
          ∧ (∀ x ∈ cleared, x.same State.reset t) ∧ (∀ x ∈ [Part.time, .secure, .retireds, .out, .pending, .tap], x.same s t)
          ∧ (∀ n j i, resetKeeps (keyOf n j i) = false → keyOf n j i ≠ epochKey unitSeq → t.rd n j i = dfltOf n j i)
          ∧ (∀ n j i, resetKeeps (keyOf n j i) = true → keyOf n j i ∉ keep → t.rd n j i = s.rd n j i)
          ∧ (∀ a, a < secureBase ∨ (patternBase 0 ≤ a ∧ a < patternBase 0 + 0x10000) → t.byteAt a = 0)
          ∧ (∀ a, secureBase ≤ a ∧ a < patternBase 0 → t.byteAt a = s.byteAt a))
        ∧ (s.phase = .held → t.phase = .held ∧ t.rdN .resetCause = s.rdN .resetCause ||| 2 ^ bit ∧ t.rd .resetCount = s.rd .resetCount)
      (∀ p : Path, Takes s p { name := .deviceReset } 0x72737421 → Answers (.deviceResetWrite p 0x72737421) s (reset 2))
      ∧ (s.phase ≠ .unpowered → Answers .resetNAsserted s (reset 1) ∧ Answers .supplyLow s (reset 3)
        ∧ ∀ (r : Fin 12) (pg : BitVec 16), let lost := r.val < s.bootN ∧ (s.rail r).en = true ∧ (s.rail r).good = true ∧ pg.toNat ≤ s.goodAbove r
          (lost → Answers (.bootRailLost r pg) s fun t => reset 4 t ∧ (t.rail r).good = false)
          ∧ (¬ lost → Answers (.bootRailLost r pg) s fun t => t = s))
      ∧ (s.phase = .unpowered → Answers .resetNAsserted s (fun t => t = s) ∧ Answers .supplyLow s fun t => t = s))
    ∧ (s.phase = .held → s.seqr.bstep = none →
      let down := (List.range s.bootN).filter fun r => (s.rail r).en
      (s.seqr.bootDown = false → ((List.range s.bootN).any fun r => !(s.rail r).good) = true → Answers .bootRailTimeout s fun t => t.seqr.bootDown = true
        ∧ (∀ r : Nat, down.getLast? = some r → (t.rail r).en = false ∧ t.seqr.bstep = some { rail := r, up := false }) ∧ Frame [] (.rails :: .seqr :: reporting) s t)
      ∧ (s.seqr.bootDown = true → Answers .bootRetryDelay s fun t => t.rdN .bootFails = min (s.rdN .bootFails + 1) 4294967295
        ∧ t.seqr = { s.seqr with bootDown := false, retried := true, bstep := some { rail := 0, up := true } } ∧ Frame [keyOf .bootFails 0 0] [.seqr] s t)
      ∧ (∀ par root : Bool, s.seqr.bootDown = false → ((List.range s.bootN).all fun r => (s.rail r).en && (s.rail r).good) = true →
        Answers (.resetRelease par root 0x1F true true) s fun t => t.phase = .starting ∧ t.rdN .parStyle = bit01 par ∧ t.rdN .isRoot = bit01 root
          ∧ t.rdN .straps = (s.rdN .straps / 4 * 4 + 2 * bit01 root + bit01 par) % 4294967296 ∧ t.seqr = { s.seqr with locks := [] }
          ∧ Frame [keyOf .straps 0 0, keyOf .parStyle 0 0, keyOf .isRoot 0 0] [.phase, .seqr] s t)
      ∧ (∀ (par root ref high : Bool) (monitors : BitVec 5), monitors ≠ 0x1F ∨ ref = false ∨ high = false →
        Answers (.resetRelease par root monitors ref high) s fun t => t = s))
    ∧ (s.phase ≠ .unpowered → Answers .aonPowerFail s fun t => t.phase = .unpowered ∧ (∀ r : Fin 12, t.rail r = {})
      ∧ (∀ b : Fin 25, Store.get [] t.retireds b = []) ∧ Frame [] [.phase, .rails, .retireds] s t)
    ∧ (∀ boot : BitVec 4, s.phase = .unpowered → Answers (.aonPowerOn boot) s fun t => let n := if 12 < boot.toNat then 0 else boot.toNat
      t.phase = .held ∧ t.time = 0 ∧ t.rdN .resetCause = 1 ∧ t.rdN .tbStatus = 2 ∧ t.rdN .bootRails = n ∧ t.rdN .straps = 4 * boot.toNat
      ∧ t.seqr.bstep = (if n = 0 then none else some { rail := 0, up := true }) ∧ t.seqr.level = 0 ∧ t.rep.journal = [] ∧ t.rd .resetCount = 1
      ∧ t.rd .lifeCycle = s.rd .lifeCycle
      ∧ t.rd .tamperEn = dfltOf .tamperEn 0 0)
    ∧ (∀ v : U32, s.phase ≠ .unpowered → Answers (.tjSample v) s fun t => let x := realRat v
      t.rd .tj = v ∧ t.rd .tjPeak = (if s.seqr.tjSeen = false ∨ realRat (s.rd .tjPeak) < x then v else s.rd .tjPeak) ∧ t.seqr.tjSeen = true
      ∧ (heard → (125 ≤ x → t.isUncleared .tjShutdown unitSeq = true) ∧ (x < 110 → t.isUncleared .tjShutdown unitSeq = false)
        ∧ (s.seqr.tjArmed = true → realRat (s.rd .tjWarn) ≤ x → 110 ≤ x → x < 125 → t.seqr.tjArmed = false ∧ t.newest = some (Event.tjHigh, unitSeq, v)))
      ∧ Frame [keyOf .tj 0 0, keyOf .tjPeak 0 0] (.seqr :: .modes :: reporting) s t)
end

