-- ==== Sys2Proof/Laws/Burst.lean ====
section
/-! SUPPORT. Bytes of numbers, and a burst with its trailer: what `withTrailer` sends, `burstOf` takes (R759). -/
namespace Sys2Proof.Machine

theorem leBytes_succ (n x : Nat) : leBytes (n + 1) x = BitVec.ofNat 8 x :: leBytes n (x / 256) := by
  simp only [leBytes, List.range_succ_eq_map, List.map_cons, List.map_map, pow_zero, Nat.div_one]
  refine congrArg _ (List.map_congr_left fun k _ => ?_)
  simp [Nat.pow_succ, Nat.mul_comm, Nat.div_div_eq_div_mul]

@[simp] theorem leBytes_length (n x : Nat) : (leBytes n x).length = n := by simp [leBytes]

theorem leNat_leBytes (n x : Nat) (h : x < 256 ^ n) : leNat (leBytes n x) = x := by
  induction n generalizing x with
  | zero => simp at h; simp [leBytes, leNat, h]
  | succ n ih =>
    have hx : x / 256 < 256 ^ n := by rw [Nat.div_lt_iff_lt_mul (by decide)]; simpa [Nat.pow_succ] using h
    rw [leBytes_succ, leNat, ih _ hx, BitVec.toNat_ofNat]
    omega

/-- A body whose length field says its length, sent with its trailer, is taken with its fields. -/
theorem burstOf_withTrailer (body : List Byte)
    (h : body.length = 16 + 8 * ((body.getD 6 0).toNat + 256 * (body.getD 7 0).toNat)) :
    burstOf (withTrailer body) = some
      { seq := (body.getD 0 0).toNat + 256 * (body.getD 1 0).toNat, kind := (body.getD 2 0).toNat % 128,
        void := bitAt (body.getD 2 0).toNat 7, src := (body.getD 3 0).toNat, dst := (body.getD 4 0).toNat,
        head := (body.getD 5 0).toNat, line := leNat ((body.drop 8).take 4), payload := body.drop 16 } := by
  have get : ∀ i, i < 16 → (withTrailer body).getD i 0 = body.getD i 0 := by
    intro i hi
    rw [withTrailer, List.append_assoc, List.getD_append _ _ _ _ (by omega)]
  have len : (withTrailer body).length = body.length + 8 := by simp [withTrailer]
  have tk : (withTrailer body).take body.length = body := by simp [withTrailer, List.append_assoc]
  have dr : (withTrailer body).drop body.length = leBytes 4 (crc32 body).toNat ++ [0, 0, 0, 0] := by
    simp [withTrailer, List.append_assoc]
  have ln : ((withTrailer body).drop 8).take 4 = (body.drop 8).take 4 := by
    rw [withTrailer, List.append_assoc, List.drop_append_of_le_length (by omega), List.take_append_of_le_length (by simp; omega)]
  have crc : leNat ((leBytes 4 (crc32 body).toNat ++ [0, 0, 0, 0]).take 4) = (crc32 body).toNat := by
    rw [List.take_append_of_le_length (by simp), List.take_of_length_le (by simp), leNat_leBytes _ _ (by have := (crc32 body).isLt; omega)]
  simp only [burstOf, get 0 (by decide), get 1 (by decide), get 2 (by decide), get 3 (by decide), get 4 (by decide), get 5 (by decide),
    get 6 (by decide), get 7 (by decide), ← h, tk, dr, ln, len, crc]
  rw [if_pos ⟨by omega, trivial⟩]

end Sys2Proof.Machine
end

