-- ==== Sys2Proof/Laws/Store.lean ====
section
/-! SUPPORT. The laws of sparse stores: read after write, and the canonical form. -/
namespace Sys2Proof.Machine

variable {α : Type}

@[simp] theorem Store.get_nil (d : α) (k : Nat) : Store.get d [] k = d := rfl

theorem Store.get_erase (d : α) (m : Store α) (k j : Nat) :
    Store.get d (Store.erase m k) j = if j = k then d else Store.get d m j := by
  induction m with
  | nil => simp [Store.erase]
  | cons c m ih =>
    obtain ⟨k', v⟩ := c
    by_cases h : k' = k
    · subst h
      have : Store.erase ((k', v) :: m) k' = Store.erase m k' := by simp [Store.erase]
      rw [this, ih]
      by_cases hj : j = k'
      · simp [hj]
      · simp [Store.get, hj, Ne.symm hj]
    · have : Store.erase ((k', v) :: m) k = (k', v) :: Store.erase m k := by simp [Store.erase, h]
      rw [this]
      simp only [Store.get, ih]
      by_cases hj : j = k
      · subst hj; simp [h]
      · simp [hj]

theorem Store.get_insert (d : α) (m : Store α) (k j : Nat) (v : α) (hm : ∀ c ∈ m, c.1 ≠ k) :
    Store.get d (Store.insert k v m) j = if j = k then v else Store.get d m j := by
  induction m with
  | nil => by_cases h : j = k
           · simp [Store.insert, Store.get, h]
           · simp [Store.insert, Store.get, h, Ne.symm h]
  | cons c m ih =>
    obtain ⟨k', v'⟩ := c
    have hk : k' ≠ k := hm (k', v') (by simp)
    have ih := ih (fun c hc => hm c (by simp [hc]))
    unfold Store.insert
    split
    · by_cases h : j = k
      · subst h; simp [Store.get]
      · simp [Store.get, h, Ne.symm h]
    · simp only [Store.get, ih]
      by_cases h : j = k
      · subst h; simp [hk]
      · simp [h]

/-- A read after a write (read after write). -/
theorem Store.get_put [DecidableEq α] (d : α) (m : Store α) (k j : Nat) (v : α) :
    Store.get d (Store.put d m k v) j = if j = k then v else Store.get d m j := by
  unfold Store.put
  split
  · next h => rw [Store.get_erase]; simp [h]
  · rw [Store.get_insert, Store.get_erase]
    · by_cases h : j = k <;> simp [h]
    · intro c hc
      simp [Store.erase] at hc
      exact hc.2

@[simp] theorem Store.get_put_same [DecidableEq α] (d : α) (m : Store α) (k : Nat) (v : α) :
    Store.get d (Store.put d m k v) k = v := by simp [Store.get_put]

theorem Store.get_put_other [DecidableEq α] (d : α) (m : Store α) {k j : Nat} (v : α) (h : j ≠ k) :
    Store.get d (Store.put d m k v) j = Store.get d m j := by simp [Store.get_put, h]

/-- A write at another default: the entry written reads as written, every other as before. -/
theorem Store.get_put_dflt [DecidableEq α] (d d' : α) (m : Store α) {k j : Nat} (v : α) (h : j ≠ k) :
    Store.get d (Store.put d' m k v) j = Store.get d m j := by
  unfold Store.put
  split
  · simp [Store.get_erase, h]
  · rw [Store.get_insert, Store.get_erase]
    · simp [h]
    · intro c hc
      simp [Store.erase] at hc
      exact hc.2

theorem Store.rising_cons (a : Nat × α) (m : Store α) :
    Store.rising (a :: m) = true ↔ (∀ c ∈ m.head?, a.1 < c.1) ∧ Store.rising m = true := by
  cases m with
  | nil => simp [Store.rising]
  | cons b m => simp [Store.rising]

theorem Store.rising_iff (m : Store α) : Store.rising m = true ↔ m.Pairwise fun a b => a.1 < b.1 := by
  induction m with
  | nil => simp [Store.rising]
  | cons a m ih =>
    rw [Store.rising_cons, ih, List.pairwise_cons]
    constructor
    · rintro ⟨h, hp⟩
      refine ⟨fun c hc => ?_, hp⟩
      cases m with
      | nil => simp at hc
      | cons b m =>
        have hb : a.1 < b.1 := h b (by simp)
        rcases List.mem_cons.1 hc with rfl | hc
        · exact hb
        · exact hb.trans ((List.pairwise_cons.1 hp).1 c hc)
    · rintro ⟨h, hp⟩
      exact ⟨fun c hc => h c (List.mem_of_mem_head? hc), hp⟩

theorem Store.rising_filter (m : Store α) (f : Nat × α → Bool) (h : Store.rising m = true) :
    Store.rising (m.filter f) = true := by
  rw [Store.rising_iff] at *
  exact h.filter f

theorem Store.mem_insert (k : Nat) (v : α) (m : Store α) (c : Nat × α) :
    c ∈ Store.insert k v m ↔ c = (k, v) ∨ c ∈ m := by
  induction m with
  | nil => simp [Store.insert]
  | cons a m ih =>
    unfold Store.insert
    split
    · simp
    · simp [ih]; tauto

theorem Store.rising_insert (k : Nat) (v : α) (m : Store α) (h : Store.rising m = true) (hk : ∀ c ∈ m, c.1 ≠ k) :
    Store.rising (Store.insert k v m) = true := by
  induction m with
  | nil => simp [Store.insert, Store.rising]
  | cons a m ih =>
    rw [Store.rising_iff] at h ih ⊢
    rw [List.pairwise_cons] at h
    unfold Store.insert
    split
    · next hlt =>
      rw [List.pairwise_cons, List.pairwise_cons]
      refine ⟨fun c hc => ?_, h⟩
      rcases List.mem_cons.1 hc with rfl | hc
      · exact hlt
      · exact hlt.trans (h.1 c hc)
    · next hlt =>
      rw [List.pairwise_cons]
      have hak : a.1 < k := by have := hk a (by simp); omega
      refine ⟨fun c hc => ?_, (Store.rising_iff _).1 (ih h.2 fun c hc => hk c (by simp [hc]))⟩
      rcases (Store.mem_insert k v m c).1 hc with rfl | hc
      · exact hak
      · exact h.1 c hc

theorem Store.rising_put [DecidableEq α] (d : α) (m : Store α) (k : Nat) (v : α) (h : Store.rising m = true) :
    Store.rising (Store.put d m k v) = true := by
  unfold Store.put
  split
  · exact Store.rising_filter _ _ h
  · refine Store.rising_insert _ _ _ (Store.rising_filter _ _ h) fun c hc => ?_
    simp [Store.erase] at hc
    exact hc.2

/-- A write keeps the canonical form. -/
theorem Store.wf_put [DecidableEq α] (d : α) (m : Store α) (k : Nat) (v : α) (h : Store.wf d m = true) :
    Store.wf d (Store.put d m k v) = true := by
  simp only [Store.wf, Bool.and_eq_true, List.all_eq_true, decide_eq_true_eq] at *
  refine ⟨Store.rising_put d m k v h.1, fun c hc => ?_⟩
  unfold Store.put at hc
  split at hc
  · exact h.2 c (List.mem_filter.1 hc).1
  · rcases (Store.mem_insert _ _ _ c).1 hc with rfl | hc
    · assumption
    · exact h.2 c (List.mem_filter.1 hc).1

theorem Store.wf_filter [DecidableEq α] (d : α) (m : Store α) (f : Nat × α → Bool) (h : Store.wf d m = true) :
    Store.wf d (m.filter f) = true := by
  simp only [Store.wf, Bool.and_eq_true, List.all_eq_true, decide_eq_true_eq] at *
  exact ⟨Store.rising_filter _ _ h.1, fun c hc => h.2 c (List.mem_filter.1 hc).1⟩

theorem memPut_wf (m : List Host.Cell) (a : Nat) (bs : List Byte) (h : Memory.wf m = true) :
    Memory.wf (memPut m a bs) = true := by
  induction bs generalizing m a with
  | nil => exact h
  | cons b bs ih => exact ih _ _ (Store.wf_put _ _ _ _ h)

/-- A byte after a write of bytes at `a`: the byte written there, or the byte before. -/
theorem get_memPut (m : List Host.Cell) (a : Nat) (bs : List Byte) (x : Nat) :
    Store.get 0 (memPut m a bs) x = if a ≤ x ∧ x < a + bs.length then bs.getD (x - a) 0 else Store.get 0 m x := by
  induction bs generalizing m a with
  | nil => simp [memPut]
  | cons b bs ih =>
    rw [memPut, ih, Store.get_put]
    by_cases h : x = a
    · subst h; simp
    · by_cases h' : a + 1 ≤ x ∧ x < a + 1 + bs.length
      · rw [if_pos h', if_pos (by simp; omega), show x - a = (x - (a + 1)) + 1 by omega, List.getD_cons_succ]
      · rw [if_neg h', if_neg h, if_neg (by simp; omega)]

end Sys2Proof.Machine
end

