-- ==== Sys2Proof/Laws/Prog.lean ====
section
/-! SUPPORT. The laws of programs: how they run, and the induction by which what every primitive update of a program keeps, the
program keeps. -/
namespace Sys2Proof.Machine

namespace Prog

@[simp] theorem run_nop (s : State) : Prog.run .nop s = s := rfl
@[simp] theorem run_op (o : Op) (s : State) : Prog.run (.op o) s = o.apply s := rfl
@[simp] theorem run_seq (p q : Prog) (s : State) : Prog.run (.seq p q) s = q.run (p.run s) := rfl
@[simp] theorem run_ask (k : State → Prog) (s : State) : Prog.run (.ask k) s = (k s).run s := rfl
@[simp] theorem all_nil : all [] = .nop := rfl
@[simp] theorem all_cons (p : Prog) (l : List Prog) : all (p :: l) = .seq p (all l) := rfl
@[simp] theorem each_nil {α : Type} (f : α → Prog) : each [] f = .nop := rfl
@[simp] theorem each_cons {α : Type} (a : α) (l : List α) (f : α → Prog) : each (a :: l) f = .seq (f a) (each l f) := rfl
@[simp] theorem when_true (p : Prog) : when true p = p := rfl
@[simp] theorem when_false (p : Prog) : when false p = .nop := rfl
@[simp] theorem run_when (b : Bool) (p : Prog) (s : State) : (when b p).run s = if b then p.run s else s := by cases b <;> rfl
@[simp] theorem done_eq (p : Prog) (s : State) : done p s = .next (p.run s) := rfl

/-- Every primitive update that the program can make, in whatever state it is asked, satisfies `P`. -/
def All (P : Op → Prop) : Prog → Prop
  | .nop => True
  | .op o => P o
  | .seq p q => All P p ∧ All P q
  | .ask k => ∀ s, All P (k s)

@[simp] theorem all_all_nop (P : Op → Prop) : All P .nop = True := rfl
@[simp] theorem all_op (P : Op → Prop) (o : Op) : All P (.op o) = P o := rfl
@[simp] theorem all_seq (P : Op → Prop) (p q : Prog) : All P (.seq p q) = (All P p ∧ All P q) := rfl
@[simp] theorem all_ask (P : Op → Prop) (k : State → Prog) : All P (.ask k) = ∀ s, All P (k s) := rfl
@[simp] theorem all_all (P : Op → Prop) (l : List Prog) : All P (all l) ↔ ∀ p ∈ l, All P p := by
  induction l with
  | nil => simp
  | cons p l ih => simp [ih]
@[simp] theorem all_each {α : Type} (P : Op → Prop) (l : List α) (f : α → Prog) : All P (each l f) ↔ ∀ a ∈ l, All P (f a) := by
  simp [each]
@[simp] theorem all_when (P : Op → Prop) (b : Bool) (p : Prog) : All P (when b p) ↔ (b = true → All P p) := by
  cases b <;> simp

/-- A relation that is reflexive and transitive and holds across every update of a program holds across the program. -/
theorem run_rel {P : Op → Prop} {R : State → State → Prop} (refl : ∀ s, R s s) (trans : ∀ {a b c}, R a b → R b c → R a c)
    (step : ∀ (o : Op) (s : State), P o → R s (o.apply s)) (p : Prog) (h : All P p) (s : State) : R s (p.run s) := by
  induction p generalizing s with
  | nop => exact refl s
  | op o => exact step o s h
  | seq p q hp hq => exact trans (hp h.1 s) (hq h.2 _)
  | ask k ih => exact ih s (h s) s

/-- What every update of a program keeps, the program keeps. -/
theorem run_keeps {P : Op → Prop} {I : State → Prop} (step : ∀ (o : Op) (s : State), P o → I s → I (o.apply s)) (p : Prog) (h : All P p)
    (s : State) (hs : I s) : I (p.run s) :=
  run_rel (R := fun a b => I a → I b) (fun _ => id) (fun f g => g ∘ f) step p h s hs

theorem all_true (p : Prog) : All (fun _ => True) p := by
  induction p with
  | nop => trivial
  | op o => trivial
  | seq p q hp hq => exact ⟨hp, hq⟩
  | ask k ih => exact ih

/-- What every primitive update keeps, every program keeps. -/
theorem run_invariant {I : State → Prop} (step : ∀ (o : Op) (s : State), I s → I (o.apply s)) (p : Prog) (s : State) (hs : I s) : I (p.run s) :=
  run_keeps (P := fun _ => True) (fun o s _ => step o s) p (all_true p) s hs

end Prog

end Sys2Proof.Machine
end

