-- ==== Sys2Proof/Laws/State.lean ====
section
/-! SUPPORT. What one primitive update does to each part of the state, and what it leaves. -/
namespace Sys2Proof.Machine

/-! ### The sequence point and the vectors -/

/-- The parts of the state that the sequence point, an EMCY and a vector never touch are the same. -/
def State.SameBut (s t : State) : Prop := ∃ r d o c v, t = { s with rep := r, dict := d, out := o, ctrls := c, vectors := v }

theorem State.SameBut.refl (s : State) : s.SameBut s := ⟨s.rep, s.dict, s.out, s.ctrls, s.vectors, rfl⟩

theorem State.SameBut.trans {a b c : State} (h : a.SameBut b) (g : b.SameBut c) : a.SameBut c := by
  obtain ⟨r, d, o, x, v, rfl⟩ := h
  obtain ⟨r', d', o', x', v', rfl⟩ := g
  exact ⟨r', d', o', x', v', rfl⟩

theorem State.SameBut.ite {a b c : State} {p : Prop} [Decidable p] (h : a.SameBut b) (g : a.SameBut c) :
    a.SameBut (if p then b else c) := by split <;> assumption

theorem State.sendEmcy_frame (s : State) (x code ev : Nat) (p1 q : U32) (t : U64) :
    ∃ o c, s.sendEmcy x code ev p1 q t = { s with out := o, ctrls := c } := by
  unfold State.sendEmcy
  split
  · exact ⟨s.out, s.ctrls, rfl⟩
  · dsimp only; split
    · exact ⟨_, _, rfl⟩
    · exact ⟨s.out, _, rfl⟩

theorem State.signal_frame (s : State) (v : Nat) : ∃ o x, s.signal v = { s with out := o, vectors := x } := by
  unfold State.signal
  split
  · exact ⟨s.out, s.vectors, rfl⟩
  · split
    · exact ⟨_, s.vectors, rfl⟩
    · dsimp only; split
      · exact ⟨s.out, _, rfl⟩
      · exact ⟨_, _, rfl⟩

theorem State.sendEmcy_same (s : State) (x code ev : Nat) (p1 q : U32) (t : U64) : s.SameBut (s.sendEmcy x code ev p1 q t) := by
  obtain ⟨o, c, h⟩ := s.sendEmcy_frame x code ev p1 q t
  exact ⟨s.rep, s.dict, o, c, s.vectors, h⟩

theorem State.signal_same (s : State) (v : Nat) : s.SameBut (s.signal v) := by
  obtain ⟨o, x, h⟩ := s.signal_frame v
  exact ⟨s.rep, s.dict, o, s.ctrls, x, h⟩

theorem State.rep_same (s : State) (r : Reports) : s.SameBut { s with rep := r } := ⟨r, s.dict, s.out, s.ctrls, s.vectors, rfl⟩

theorem State.eventEmcy_same (s : State) (ev : Event) (e : JEntry) : s.SameBut (s.eventEmcy ev e) := by
  unfold State.eventEmcy
  split
  · exact .refl s
  · dsimp only
    refine .ite (.trans ?_ (State.sendEmcy_same ..)) ?_
    all_goals refine .ite (.trans ?_ (State.sendEmcy_same ..)) ?_
    all_goals exact .ite (State.rep_same ..) (.refl _)

theorem State.number_same (s : State) (e : JEntry) : s.SameBut (s.number e) := by
  unfold State.number
  dsimp only
  split
  · exact .ite ⟨_, _, s.out, s.ctrls, s.vectors, rfl⟩ (State.rep_same ..)
  · refine .ite (.trans ?_ (State.signal_same ..)) ?_
    all_goals refine .ite (.trans (.trans ?_ (State.sendEmcy_same ..)) (State.sendEmcy_same ..)) ?_
    all_goals refine .trans ?_ (State.eventEmcy_same ..)
    all_goals exact .ite ⟨_, _, s.out, s.ctrls, s.vectors, rfl⟩ (State.rep_same ..)

theorem State.counted_same (s : State) (e : JEntry) : s.SameBut (s.counted e) := .ite (State.rep_same ..) (.refl _)

theorem State.report_same (s : State) (e : JEntry) : s.SameBut (s.report e) :=
  .ite ((State.counted_same s e).trans (State.rep_same ..)) ((State.counted_same s e).trans (State.number_same ..))

theorem State.foldl_number_same (l : List JEntry) (s : State) : s.SameBut (l.foldl State.number s) := by
  induction l generalizing s with
  | nil => exact .refl s
  | cons e l ih => exact (State.number_same s e).trans (ih _)

/-- An update whose only effects are those of the sequence point, an EMCY or a vector. -/
def Op.isReport : Op → Bool
  | .report _ | .signal _ | .emcy .. | .clearErrors | .record _ | .numberWaiting _ | .resetReports _ | .nextSeq | .pageOpen ..
  | .pageClose _ => true
  | _ => false

theorem Op.apply_same (o : Op) (s : State) (h : o.isReport = true) : s.SameBut (o.apply s) := by
  cases o <;> simp only [Op.isReport, Bool.false_eq_true] at h
  case report e => exact State.report_same s e
  case signal v => exact State.signal_same s v
  case emcy x code ev p1 => exact (State.rep_same s _).trans (State.sendEmcy_same ..)
  case numberWaiting t =>
    refine .trans (.trans (State.rep_same s { s.rep with waiting := [], lost := 0 }) ?_) (State.foldl_number_same _ _)
    exact .ite (.refl _) (.trans (State.rep_same ..) (State.number_same ..))
  all_goals exact State.rep_same s _

/-! ### The entries -/

theorem State.sendEmcy_dict (s : State) (x code ev : Nat) (p1 q : U32) (t : U64) : (s.sendEmcy x code ev p1 q t).dict = s.dict := by
  obtain ⟨_, _, h⟩ := s.sendEmcy_frame x code ev p1 q t; rw [h]

theorem State.signal_dict (s : State) (v : Nat) : (s.signal v).dict = s.dict := by
  obtain ⟨_, _, h⟩ := s.signal_frame v; rw [h]

theorem State.eventEmcy_dict (s : State) (ev : Event) (e : JEntry) : (s.eventEmcy ev e).dict = s.dict := by
  unfold State.eventEmcy
  split
  · rfl
  · dsimp only
    repeat' split
    all_goals simp [State.sendEmcy_dict]

/-- Of the entries, the sequence point changes CAL_ID alone, and that with CAL_DONE (R311). -/
theorem State.number_dict (s : State) (e : JEntry) : (s.number e).dict = s.dict ∨
    (e.event = some .calDone ∧ ∃ v, (s.number e).dict = Store.put (dfltOf .calId 0 0) s.dict (keyOf .calId 0 0) v) := by
  unfold State.number
  dsimp only
  by_cases hc : e.event = some .calDone
  · right
    refine ⟨hc, ((s.rep.push e).track e).seq, ?_⟩
    rw [hc]
    simp only [if_true]
    repeat' split
    all_goals simp [State.signal_dict, State.sendEmcy_dict, State.eventEmcy_dict]
  · left
    simp only [hc, if_false]
    split
    · rfl
    · repeat' split
      all_goals simp [State.signal_dict, State.sendEmcy_dict, State.eventEmcy_dict]

/-- The entry is another one than the update writes. -/
def Op.leavesEntry (k : Nat) : Op → Prop
  | .put n j i _ => keyOf n j i ≠ k
  | .report e => e.event = some .calDone → k ≠ keyOf .calId 0 0
  | .numberWaiting _ => k ≠ keyOf .calId 0 0
  | .clearState f => f k = true
  | _ => True

theorem Store.get_filter {α : Type} (d : α) (m : Store α) (f : Nat → Bool) (k : Nat) (h : f k = true) :
    Store.get d (m.filter fun c => f c.1) k = Store.get d m k := by
  induction m with
  | nil => rfl
  | cons c m ih =>
    obtain ⟨k', v⟩ := c
    by_cases hk : k' = k
    · subst hk; simp [Store.get, h]
    · by_cases hf : f k' = true
      · simp [Store.get, hf, hk, ih]
      · simp [Store.get, hf, hk, ih]

theorem State.number_get (s : State) (e : JEntry) (d : U32) (k : Nat) (h : e.event = some .calDone → k ≠ keyOf .calId 0 0) :
    Store.get d (s.number e).dict k = Store.get d s.dict k := by
  rcases s.number_dict e with hd | ⟨hc, v, hd⟩
  · rw [hd]
  · rw [hd, Store.get_put_dflt _ _ _ _ (h hc)]

theorem State.foldl_number_get (l : List JEntry) (s : State) (d : U32) (k : Nat) (h : k ≠ keyOf .calId 0 0) :
    Store.get d (l.foldl State.number s).dict k = Store.get d s.dict k := by
  induction l generalizing s with
  | nil => rfl
  | cons e l ih => rw [List.foldl_cons, ih, State.number_get _ _ _ _ fun _ => h]

theorem State.counted_dict (s : State) (e : JEntry) : (s.counted e).dict = s.dict := by
  unfold State.counted; split <;> rfl

theorem State.report_get (s : State) (e : JEntry) (d : U32) (k : Nat) (h : e.event = some .calDone → k ≠ keyOf .calId 0 0) :
    Store.get d (s.report e).dict k = Store.get d s.dict k := by
  unfold State.report
  split
  · exact congrArg (Store.get d · k) (s.counted_dict e)
  · rw [State.number_get _ _ _ _ h, State.counted_dict]

theorem Op.leavesEntry_get (o : Op) (s : State) (d : U32) (k : Nat) (h : o.leavesEntry k) :
    Store.get d (o.apply s).dict k = Store.get d s.dict k := by
  cases o <;> simp only [Op.leavesEntry] at h
  case put n j i v => exact Store.get_put_dflt _ _ _ _ (Ne.symm h)
  case report e => exact State.report_get s e d k h
  case signal v => exact congrArg (Store.get d · k) (State.signal_dict s v)
  case emcy x code ev p1 => exact congrArg (Store.get d · k) (State.sendEmcy_dict ..)
  case numberWaiting t =>
    refine (State.foldl_number_get _ _ d k h).trans ?_
    split
    · rfl
    · exact State.number_get _ _ _ _ fun _ => h
  case clearState f => exact Store.get_filter d s.dict f k h
  all_goals rfl

theorem State.rd_leaves {o : Op} {s : State} {n : Name} {j i : Nat} (h : o.leavesEntry (keyOf n j i)) :
    (o.apply s).rd n j i = s.rd n j i := Op.leavesEntry_get o s _ _ h

/-- A program whose updates leave an entry leaves it. -/
theorem Prog.run_rd {p : Prog} {n : Name} {j i : Nat} (h : p.All (Op.leavesEntry (keyOf n j i))) (s : State) :
    (p.run s).rd n j i = s.rd n j i :=
  (Prog.run_rel (R := fun a b => b.rd n j i = a.rd n j i) (fun _ => rfl) (fun f g => g.trans f)
    (fun _ _ ho => State.rd_leaves ho) p h s)

@[simp] theorem State.rd_put (n : Name) (j i : Nat) (v : U32) (s : State) : ((Op.put n j i v).apply s).rd n j i = v :=
  Store.get_put_same _ _ _ _

theorem State.rd_put_other {n n' : Name} {j i j' i' : Nat} (v : U32) (s : State) (h : keyOf n j i ≠ keyOf n' j' i') :
    ((Op.put n j i v).apply s).rd n' j' i' = s.rd n' j' i' := State.rd_leaves h

/-! ### The memories -/

/-- The update writes no byte at `a`. -/
def Op.leavesByte (a : Nat) : Op → Prop
  | .bytes b bs => ¬ (b ≤ a ∧ a < b + bs.length)
  | .zero b n => ¬ (b ≤ a ∧ a < b + n)
  | _ => True

theorem Op.leavesByte_byteAt {o : Op} {s : State} {a : Nat} (h : o.leavesByte a) : (o.apply s).byteAt a = s.byteAt a := by
  have hr : o.isReport = true → (o.apply s).byteAt a = s.byteAt a := fun hr => by
    obtain ⟨_, _, _, _, _, e⟩ := o.apply_same s hr
    rw [e]; rfl
  cases o <;> simp only [Op.leavesByte] at h
  case bytes b bs => exact (get_memPut _ _ _ _).trans (if_neg h)
  case zero b n =>
    refine (?_ : Store.get 0 (s.mem.filter fun c => decide (c.1 < b ∨ b + n ≤ c.1)) a = _)
    exact Store.get_filter 0 s.mem (fun k => decide (k < b ∨ b + n ≤ k)) a (decide_eq_true (by omega))
  all_goals first | exact hr rfl | rfl

theorem Prog.run_byteAt {p : Prog} {a : Nat} (h : p.All (Op.leavesByte a)) (s : State) : (p.run s).byteAt a = s.byteAt a :=
  (Prog.run_rel (R := fun x y => y.byteAt a = x.byteAt a) (fun _ => rfl) (fun f g => g.trans f)
    (fun _ _ ho => Op.leavesByte_byteAt ho) p h s)

theorem State.byteAt_bytes (a : Nat) (bs : List Byte) (s : State) (x : Nat) :
    ((Op.bytes a bs).apply s).byteAt x = if a ≤ x ∧ x < a + bs.length then bs.getD (x - a) 0 else s.byteAt x := get_memPut _ _ _ _

/-! ### The records of the islands -/

@[simp] theorem State.island_apply (k : Nat) (r : Island) (s : State) (k' : Nat) :
    ((Op.island k r).apply s).island k' = if k' = k then r else s.island k' := Store.get_put _ _ _ _ _

theorem State.island_frame {o : Op} {s : State} {k : Nat} (h : (∀ k r, o ≠ .island k r) ∧ ∀ f, o ≠ .clearState f) : (o.apply s).island k = s.island k := by
  have hr : o.isReport = true → (o.apply s).island k = s.island k := fun hr => by
    obtain ⟨_, _, _, _, _, e⟩ := o.apply_same s hr
    rw [e]; rfl
  cases o <;> first | rfl | exact hr rfl | exact absurd h (by simp)

@[simp] theorem State.head_apply (k : Nat) (r : Head) (s : State) (k' : Nat) :
    ((Op.head k r).apply s).head k' = if k' = k then r else s.head k' := Store.get_put _ _ _ _ _

theorem State.head_frame {o : Op} {s : State} {k : Nat} (h : (∀ k r, o ≠ .head k r) ∧ ∀ f, o ≠ .clearState f) : (o.apply s).head k = s.head k := by
  have hr : o.isReport = true → (o.apply s).head k = s.head k := fun hr => by
    obtain ⟨_, _, _, _, _, e⟩ := o.apply_same s hr
    rw [e]; rfl
  cases o <;> first | rfl | exact hr rfl | exact absurd h (by simp)

@[simp] theorem State.chan_apply (k : Nat) (r : Chan) (s : State) (k' : Nat) :
    ((Op.chan k r).apply s).chan k' = if k' = k then r else s.chan k' := Store.get_put _ _ _ _ _

theorem State.chan_frame {o : Op} {s : State} {k : Nat} (h : (∀ k r, o ≠ .chan k r) ∧ ∀ f, o ≠ .clearState f) : (o.apply s).chan k = s.chan k := by
  have hr : o.isReport = true → (o.apply s).chan k = s.chan k := fun hr => by
    obtain ⟨_, _, _, _, _, e⟩ := o.apply_same s hr
    rw [e]; rfl
  cases o <;> first | rfl | exact hr rfl | exact absurd h (by simp)

@[simp] theorem State.pair_apply (k : Nat) (r : Pair) (s : State) (k' : Nat) :
    ((Op.pair k r).apply s).pair k' = if k' = k then r else s.pair k' := Store.get_put _ _ _ _ _

theorem State.pair_frame {o : Op} {s : State} {k : Nat} (h : (∀ k r, o ≠ .pair k r) ∧ ∀ f, o ≠ .clearState f) : (o.apply s).pair k = s.pair k := by
  have hr : o.isReport = true → (o.apply s).pair k = s.pair k := fun hr => by
    obtain ⟨_, _, _, _, _, e⟩ := o.apply_same s hr
    rw [e]; rfl
  cases o <;> first | rfl | exact hr rfl | exact absurd h (by simp)

@[simp] theorem State.lane_apply (k : Nat) (r : Lanes) (s : State) (k' : Nat) :
    ((Op.lane k r).apply s).lane k' = if k' = k then r else s.lane k' := Store.get_put _ _ _ _ _

theorem State.lane_frame {o : Op} {s : State} {k : Nat} (h : (∀ k r, o ≠ .lane k r) ∧ ∀ f, o ≠ .clearState f) : (o.apply s).lane k = s.lane k := by
  have hr : o.isReport = true → (o.apply s).lane k = s.lane k := fun hr => by
    obtain ⟨_, _, _, _, _, e⟩ := o.apply_same s hr
    rw [e]; rfl
  cases o <;> first | rfl | exact hr rfl | exact absurd h (by simp)

@[simp] theorem State.lineUnit_apply (k : Nat) (r : LineUnit) (s : State) (k' : Nat) :
    ((Op.lineUnit k r).apply s).lineUnit k' = if k' = k then r else s.lineUnit k' := Store.get_put _ _ _ _ _

theorem State.lineUnit_frame {o : Op} {s : State} {k : Nat} (h : (∀ k r, o ≠ .lineUnit k r) ∧ ∀ f, o ≠ .clearState f) : (o.apply s).lineUnit k = s.lineUnit k := by
  have hr : o.isReport = true → (o.apply s).lineUnit k = s.lineUnit k := fun hr => by
    obtain ⟨_, _, _, _, _, e⟩ := o.apply_same s hr
    rw [e]; rfl
  cases o <;> first | rfl | exact hr rfl | exact absurd h (by simp)

@[simp] theorem State.axis_apply (k : Nat) (r : Axis) (s : State) (k' : Nat) :
    ((Op.axis k r).apply s).axis k' = if k' = k then r else s.axis k' := Store.get_put _ _ _ _ _

theorem State.axis_frame {o : Op} {s : State} {k : Nat} (h : (∀ k r, o ≠ .axis k r) ∧ ∀ f, o ≠ .clearState f) : (o.apply s).axis k = s.axis k := by
  have hr : o.isReport = true → (o.apply s).axis k = s.axis k := fun hr => by
    obtain ⟨_, _, _, _, _, e⟩ := o.apply_same s hr
    rw [e]; rfl
  cases o <;> first | rfl | exact hr rfl | exact absurd h (by simp)

@[simp] theorem State.stream_apply (k : Nat) (r : Stream) (s : State) (k' : Nat) :
    ((Op.stream k r).apply s).stream k' = if k' = k then r else s.stream k' := Store.get_put _ _ _ _ _

theorem State.stream_frame {o : Op} {s : State} {k : Nat} (h : (∀ k r, o ≠ .stream k r) ∧ ∀ f, o ≠ .clearState f) : (o.apply s).stream k = s.stream k := by
  have hr : o.isReport = true → (o.apply s).stream k = s.stream k := fun hr => by
    obtain ⟨_, _, _, _, _, e⟩ := o.apply_same s hr
    rw [e]; rfl
  cases o <;> first | rfl | exact hr rfl | exact absurd h (by simp)

@[simp] theorem State.unread_apply (k : Nat) (r : List (List Byte)) (s : State) (k' : Nat) :
    ((Op.unread k r).apply s).unread k' = if k' = k then r else s.unread k' := Store.get_put _ _ _ _ _

theorem State.unread_frame {o : Op} {s : State} {k : Nat} (h : (∀ k r, o ≠ .unread k r) ∧ ∀ f, o ≠ .clearState f) : (o.apply s).unread k = s.unread k := by
  have hr : o.isReport = true → (o.apply s).unread k = s.unread k := fun hr => by
    obtain ⟨_, _, _, _, _, e⟩ := o.apply_same s hr
    rw [e]; rfl
  cases o <;> first | rfl | exact hr rfl | exact absurd h (by simp)

@[simp] theorem State.fwdIn_apply (k : Nat) (r : List (List Byte)) (s : State) (k' : Nat) :
    ((Op.fwdIn k r).apply s).fwdIn k' = if k' = k then r else s.fwdIn k' := Store.get_put _ _ _ _ _

theorem State.fwdIn_frame {o : Op} {s : State} {k : Nat} (h : (∀ k r, o ≠ .fwdIn k r) ∧ ∀ f, o ≠ .clearState f) : (o.apply s).fwdIn k = s.fwdIn k := by
  have hr : o.isReport = true → (o.apply s).fwdIn k = s.fwdIn k := fun hr => by
    obtain ⟨_, _, _, _, _, e⟩ := o.apply_same s hr
    rw [e]; rfl
  cases o <;> first | rfl | exact hr rfl | exact absurd h (by simp)

@[simp] theorem State.lstr_apply (k : Nat) (r : LStr) (s : State) (k' : Nat) :
    ((Op.lstr k r).apply s).lstr k' = if k' = k then r else s.lstr k' := Store.get_put _ _ _ _ _

theorem State.lstr_frame {o : Op} {s : State} {k : Nat} (h : (∀ k r, o ≠ .lstr k r) ∧ ∀ f, o ≠ .clearState f) : (o.apply s).lstr k = s.lstr k := by
  have hr : o.isReport = true → (o.apply s).lstr k = s.lstr k := fun hr => by
    obtain ⟨_, _, _, _, _, e⟩ := o.apply_same s hr
    rw [e]; rfl
  cases o <;> first | rfl | exact hr rfl | exact absurd h (by simp)

@[simp] theorem State.conv_apply (k : Nat) (r : Conv) (s : State) (k' : Nat) :
    ((Op.conv k r).apply s).conv k' = if k' = k then r else s.conv k' := Store.get_put _ _ _ _ _

theorem State.conv_frame {o : Op} {s : State} {k : Nat} (h : (∀ k r, o ≠ .conv k r) ∧ ∀ f, o ≠ .clearState f) : (o.apply s).conv k = s.conv k := by
  have hr : o.isReport = true → (o.apply s).conv k = s.conv k := fun hr => by
    obtain ⟨_, _, _, _, _, e⟩ := o.apply_same s hr
    rw [e]; rfl
  cases o <;> first | rfl | exact hr rfl | exact absurd h (by simp)

@[simp] theorem State.timer_apply (k : Nat) (r : Timer) (s : State) (k' : Nat) :
    ((Op.timer k r).apply s).timer k' = if k' = k then r else s.timer k' := Store.get_put _ _ _ _ _

theorem State.timer_frame {o : Op} {s : State} {k : Nat} (h : (∀ k r, o ≠ .timer k r) ∧ ∀ f, o ≠ .clearState f) : (o.apply s).timer k = s.timer k := by
  have hr : o.isReport = true → (o.apply s).timer k = s.timer k := fun hr => by
    obtain ⟨_, _, _, _, _, e⟩ := o.apply_same s hr
    rw [e]; rfl
  cases o <;> first | rfl | exact hr rfl | exact absurd h (by simp)

@[simp] theorem State.bank_apply (k : Nat) (r : Bank) (s : State) (k' : Nat) :
    ((Op.bank k r).apply s).bank k' = if k' = k then r else s.bank k' := Store.get_put _ _ _ _ _

theorem State.bank_frame {o : Op} {s : State} {k : Nat} (h : (∀ k r, o ≠ .bank k r) ∧ ∀ f, o ≠ .clearState f) : (o.apply s).bank k = s.bank k := by
  have hr : o.isReport = true → (o.apply s).bank k = s.bank k := fun hr => by
    obtain ⟨_, _, _, _, _, e⟩ := o.apply_same s hr
    rw [e]; rfl
  cases o <;> first | rfl | exact hr rfl | exact absurd h (by simp)

@[simp] theorem State.retired_apply (k : Nat) (r : List (Nat × Nat)) (s : State) (k' : Nat) :
    ((Op.retired k r).apply s).retired k' = if k' = k then r else s.retired k' := Store.get_put _ _ _ _ _

theorem State.retired_frame {o : Op} {s : State} {k : Nat} (h : (∀ k r, o ≠ .retired k r)) : (o.apply s).retired k = s.retired k := by
  have hr : o.isReport = true → (o.apply s).retired k = s.retired k := fun hr => by
    obtain ⟨_, _, _, _, _, e⟩ := o.apply_same s hr
    rw [e]; rfl
  cases o <;> first | rfl | exact hr rfl | exact absurd h (by simp)

@[simp] theorem State.rail_apply (k : Nat) (r : Rail) (s : State) (k' : Nat) :
    ((Op.rail k r).apply s).rail k' = if k' = k then r else s.rail k' := Store.get_put _ _ _ _ _

theorem State.rail_frame {o : Op} {s : State} {k : Nat} (h : (∀ k r, o ≠ .rail k r)) : (o.apply s).rail k = s.rail k := by
  have hr : o.isReport = true → (o.apply s).rail k = s.rail k := fun hr => by
    obtain ⟨_, _, _, _, _, e⟩ := o.apply_same s hr
    rw [e]; rfl
  cases o <;> first | rfl | exact hr rfl | exact absurd h (by simp)

@[simp] theorem State.port_apply (k : Nat) (r : Port) (s : State) (k' : Nat) :
    ((Op.port k r).apply s).port k' = if k' = k then r else s.port k' := Store.get_put _ _ _ _ _

theorem State.port_frame {o : Op} {s : State} {k : Nat} (h : (∀ k r, o ≠ .port k r) ∧ ∀ f, o ≠ .clearState f) : (o.apply s).port k = s.port k := by
  have hr : o.isReport = true → (o.apply s).port k = s.port k := fun hr => by
    obtain ⟨_, _, _, _, _, e⟩ := o.apply_same s hr
    rw [e]; rfl
  cases o <;> first | rfl | exact hr rfl | exact absurd h (by simp)

@[simp] theorem State.cmd_apply (k : Nat) (r : CmdPath) (s : State) (k' : Nat) :
    ((Op.cmd k r).apply s).cmd k' = if k' = k then r else s.cmd k' := Store.get_put _ _ _ _ _

theorem State.cmd_frame {o : Op} {s : State} {k : Nat} (h : (∀ k r, o ≠ .cmd k r) ∧ ∀ f, o ≠ .clearState f) : (o.apply s).cmd k = s.cmd k := by
  have hr : o.isReport = true → (o.apply s).cmd k = s.cmd k := fun hr => by
    obtain ⟨_, _, _, _, _, e⟩ := o.apply_same s hr
    rw [e]; rfl
  cases o <;> first | rfl | exact hr rfl | exact absurd h (by simp)

@[simp] theorem State.pdo_apply (k : Nat) (r : Pdo) (s : State) (k' : Nat) :
    ((Op.pdo k r).apply s).pdo k' = if k' = k then r else s.pdo k' := Store.get_put _ _ _ _ _

theorem State.pdo_frame {o : Op} {s : State} {k : Nat} (h : (∀ k r, o ≠ .pdo k r) ∧ ∀ f, o ≠ .clearState f) : (o.apply s).pdo k = s.pdo k := by
  have hr : o.isReport = true → (o.apply s).pdo k = s.pdo k := fun hr => by
    obtain ⟨_, _, _, _, _, e⟩ := o.apply_same s hr
    rw [e]; rfl
  cases o <;> first | rfl | exact hr rfl | exact absurd h (by simp)

@[simp] theorem State.digest_apply (k : Nat) (r : Option U32) (s : State) (k' : Nat) :
    ((Op.digest k r).apply s).digest k' = if k' = k then r else s.digest k' := Store.get_put _ _ _ _ _

theorem State.digest_frame {o : Op} {s : State} {k : Nat} (h : (∀ k r, o ≠ .digest k r) ∧ ∀ f, o ≠ .clearState f) : (o.apply s).digest k = s.digest k := by
  have hr : o.isReport = true → (o.apply s).digest k = s.digest k := fun hr => by
    obtain ⟨_, _, _, _, _, e⟩ := o.apply_same s hr
    rw [e]; rfl
  cases o <;> first | rfl | exact hr rfl | exact absurd h (by simp)

@[simp] theorem State.modes_apply (r : Modes) (s : State) : ((Op.modes r).apply s).modes = r := rfl

theorem State.modes_frame {o : Op} {s : State} (h : (∀ r, o ≠ .modes r) ∧ ∀ f, o ≠ .clearState f) : (o.apply s).modes = s.modes := by
  have hr : o.isReport = true → (o.apply s).modes = s.modes := fun hr => by
    obtain ⟨_, _, _, _, _, e⟩ := o.apply_same s hr
    rw [e]
  cases o <;> first | rfl | exact hr rfl | exact absurd h (by simp)

@[simp] theorem State.calTime_apply (r : Option Nat) (s : State) : ((Op.calTime r).apply s).calTime = r := rfl

theorem State.calTime_frame {o : Op} {s : State} (h : (∀ r, o ≠ .calTime r) ∧ ∀ f, o ≠ .clearState f) : (o.apply s).calTime = s.calTime := by
  have hr : o.isReport = true → (o.apply s).calTime = s.calTime := fun hr => by
    obtain ⟨_, _, _, _, _, e⟩ := o.apply_same s hr
    rw [e]
  cases o <;> first | rfl | exact hr rfl | exact absurd h (by simp)

@[simp] theorem State.watch_apply (r : Watch) (s : State) : ((Op.watch r).apply s).watch = r := rfl

theorem State.watch_frame {o : Op} {s : State} (h : (∀ r, o ≠ .watch r) ∧ ∀ f, o ≠ .clearState f) : (o.apply s).watch = s.watch := by
  have hr : o.isReport = true → (o.apply s).watch = s.watch := fun hr => by
    obtain ⟨_, _, _, _, _, e⟩ := o.apply_same s hr
    rw [e]
  cases o <;> first | rfl | exact hr rfl | exact absurd h (by simp)

@[simp] theorem State.pace_apply (r : Pace) (s : State) : ((Op.pace r).apply s).pace = r := rfl

theorem State.pace_frame {o : Op} {s : State} (h : (∀ r, o ≠ .pace r) ∧ ∀ f, o ≠ .clearState f) : (o.apply s).pace = s.pace := by
  have hr : o.isReport = true → (o.apply s).pace = s.pace := fun hr => by
    obtain ⟨_, _, _, _, _, e⟩ := o.apply_same s hr
    rw [e]
  cases o <;> first | rfl | exact hr rfl | exact absurd h (by simp)

@[simp] theorem State.link_apply (r : Link) (s : State) : ((Op.link r).apply s).link = r := rfl

theorem State.link_frame {o : Op} {s : State} (h : (∀ r, o ≠ .link r) ∧ ∀ f, o ≠ .clearState f) : (o.apply s).link = s.link := by
  have hr : o.isReport = true → (o.apply s).link = s.link := fun hr => by
    obtain ⟨_, _, _, _, _, e⟩ := o.apply_same s hr
    rw [e]
  cases o <;> first | rfl | exact hr rfl | exact absurd h (by simp)

@[simp] theorem State.heath_apply (r : Heath) (s : State) : ((Op.heath r).apply s).heath = r := rfl

theorem State.heath_frame {o : Op} {s : State} (h : (∀ r, o ≠ .heath r) ∧ ∀ f, o ≠ .clearState f) : (o.apply s).heath = s.heath := by
  have hr : o.isReport = true → (o.apply s).heath = s.heath := fun hr => by
    obtain ⟨_, _, _, _, _, e⟩ := o.apply_same s hr
    rw [e]
  cases o <;> first | rfl | exact hr rfl | exact absurd h (by simp)

@[simp] theorem State.rowTest_apply (r : RowTest) (s : State) : ((Op.rowTest r).apply s).rowTest = r := rfl

theorem State.rowTest_frame {o : Op} {s : State} (h : (∀ r, o ≠ .rowTest r) ∧ ∀ f, o ≠ .clearState f) : (o.apply s).rowTest = s.rowTest := by
  have hr : o.isReport = true → (o.apply s).rowTest = s.rowTest := fun hr => by
    obtain ⟨_, _, _, _, _, e⟩ := o.apply_same s hr
    rw [e]
  cases o <;> first | rfl | exact hr rfl | exact absurd h (by simp)

@[simp] theorem State.secure_apply (r : Secure) (s : State) : ((Op.secure r).apply s).secure = r := rfl

theorem State.secure_frame {o : Op} {s : State} (h : (∀ r, o ≠ .secure r)) : (o.apply s).secure = s.secure := by
  have hr : o.isReport = true → (o.apply s).secure = s.secure := fun hr => by
    obtain ⟨_, _, _, _, _, e⟩ := o.apply_same s hr
    rw [e]
  cases o <;> first | rfl | exact hr rfl | exact absurd h (by simp)

@[simp] theorem State.seqr_apply (r : Seqr) (s : State) : ((Op.seqr r).apply s).seqr = r := rfl

theorem State.seqr_frame {o : Op} {s : State} (h : (∀ r, o ≠ .seqr r)) : (o.apply s).seqr = s.seqr := by
  have hr : o.isReport = true → (o.apply s).seqr = s.seqr := fun hr => by
    obtain ⟨_, _, _, _, _, e⟩ := o.apply_same s hr
    rw [e]
  cases o <;> first | rfl | exact hr rfl | exact absurd h (by simp)

@[simp] theorem State.ring_apply (r : Ring) (s : State) : ((Op.ring r).apply s).ring = r := rfl

theorem State.ring_frame {o : Op} {s : State} (h : (∀ r, o ≠ .ring r) ∧ ∀ f, o ≠ .clearState f) : (o.apply s).ring = s.ring := by
  have hr : o.isReport = true → (o.apply s).ring = s.ring := fun hr => by
    obtain ⟨_, _, _, _, _, e⟩ := o.apply_same s hr
    rw [e]
  cases o <;> first | rfl | exact hr rfl | exact absurd h (by simp)

@[simp] theorem State.net_apply (r : Net) (s : State) : ((Op.net r).apply s).net = r := rfl

theorem State.net_frame {o : Op} {s : State} (h : (∀ r, o ≠ .net r) ∧ ∀ f, o ≠ .clearState f) : (o.apply s).net = s.net := by
  have hr : o.isReport = true → (o.apply s).net = s.net := fun hr => by
    obtain ⟨_, _, _, _, _, e⟩ := o.apply_same s hr
    rw [e]
  cases o <;> first | rfl | exact hr rfl | exact absurd h (by simp)

@[simp] theorem State.phase_apply (p : Phase) (s : State) : ((Op.phase p).apply s).phase = p := rfl

theorem State.phase_frame {o : Op} {s : State} (h : ∀ p, o ≠ .phase p) : (o.apply s).phase = s.phase := by
  have hr : o.isReport = true → (o.apply s).phase = s.phase := fun hr => by
    obtain ⟨_, _, _, _, _, e⟩ := o.apply_same s hr
    rw [e]
  cases o <;> first | rfl | exact hr rfl | exact absurd h (by simp)

theorem State.fresh_frame {o : Op} {s : State} (h : o ≠ .free) : (o.apply s).fresh = s.fresh := by
  have hr : o.isReport = true → (o.apply s).fresh = s.fresh := fun hr => by
    obtain ⟨_, _, _, _, _, e⟩ := o.apply_same s hr
    rw [e]
  cases o <;> first | rfl | exact hr rfl | exact absurd h (by simp)

theorem State.time_frame {o : Op} {s : State} (h : (∀ n, o ≠ .advance n) ∧ o ≠ .restartTime) : (o.apply s).time = s.time := by
  have hr : o.isReport = true → (o.apply s).time = s.time := fun hr => by
    obtain ⟨_, _, _, _, _, e⟩ := o.apply_same s hr
    rw [e]
  cases o <;> first | rfl | exact hr rfl | exact absurd h (by simp)

theorem State.pending_frame {o : Op} {s : State} : (o.apply s).pending = s.pending := by
  have hr : o.isReport = true → (o.apply s).pending = s.pending := fun hr => by
    obtain ⟨_, _, _, _, _, e⟩ := o.apply_same s hr
    rw [e]
  cases o <;> first | rfl | exact hr rfl

/-- No update reaches the test access port. -/
theorem State.tap_frame {o : Op} {s : State} : (o.apply s).tap = s.tap := by
  have hr : o.isReport = true → (o.apply s).tap = s.tap := fun hr => by
    obtain ⟨_, _, _, _, _, e⟩ := o.apply_same s hr
    rw [e]
  cases o <;> first | rfl | exact hr rfl

theorem Prog.run_pending (p : Prog) (s : State) : (p.run s).pending = s.pending :=
  Prog.run_rel (P := fun _ => True) (R := fun a b => b.pending = a.pending) (fun _ => rfl) (fun f g => g.trans f)
    (fun _ _ _ => State.pending_frame) p (Prog.all_true p) s

/-! ### The shorthands of updates -/

@[simp] theorem run_wr (n : Name) (j : Nat) (v : U32) (s : State) : (wr n j v).run s = (Op.put n j 0 v).apply s := rfl
@[simp] theorem run_wri (n : Name) (j i : Nat) (v : U32) (s : State) : (wri n j i v).run s = (Op.put n j i v).apply s := rfl
@[simp] theorem run_wrN (n : Name) (j v : Nat) (s : State) : (wrN n j v).run s = (Op.put n j 0 (u32 v)).apply s := rfl
@[simp] theorem run_output (o : Output) (s : State) : (output o).run s = (Op.output o).apply s := rfl
@[simp] theorem run_modIsland (k : Nat) (f : Island → Island) (s : State) : (modIsland k f).run s = (Op.island k (f (s.island k))).apply s := rfl
@[simp] theorem run_modVector (k : Nat) (f : Vector → Vector) (s : State) : (modVector k f).run s = (Op.vector k (f (s.vector k))).apply s := rfl
@[simp] theorem run_modCtrl (k : Nat) (f : Ctrl → Ctrl) (s : State) : (modCtrl k f).run s = (Op.ctrl k (f (s.ctrl k))).apply s := rfl
@[simp] theorem run_modHead (k : Nat) (f : Head → Head) (s : State) : (modHead k f).run s = (Op.head k (f (s.head k))).apply s := rfl
@[simp] theorem run_modChan (k : Nat) (f : Chan → Chan) (s : State) : (modChan k f).run s = (Op.chan k (f (s.chan k))).apply s := rfl
@[simp] theorem run_modPair (k : Nat) (f : Pair → Pair) (s : State) : (modPair k f).run s = (Op.pair k (f (s.pair k))).apply s := rfl
@[simp] theorem run_modLane (k : Nat) (f : Lanes → Lanes) (s : State) : (modLane k f).run s = (Op.lane k (f (s.lane k))).apply s := rfl
@[simp] theorem run_modLineUnit (k : Nat) (f : LineUnit → LineUnit) (s : State) : (modLineUnit k f).run s = (Op.lineUnit k (f (s.lineUnit k))).apply s := rfl
@[simp] theorem run_modAxis (k : Nat) (f : Axis → Axis) (s : State) : (modAxis k f).run s = (Op.axis k (f (s.axis k))).apply s := rfl
@[simp] theorem run_modStream (k : Nat) (f : Stream → Stream) (s : State) : (modStream k f).run s = (Op.stream k (f (s.stream k))).apply s := rfl
@[simp] theorem run_modUnread (k : Nat) (f : (List (List Byte)) → (List (List Byte))) (s : State) : (modUnread k f).run s = (Op.unread k (f (s.unread k))).apply s := rfl
@[simp] theorem run_modFwdIn (k : Nat) (f : (List (List Byte)) → (List (List Byte))) (s : State) : (modFwdIn k f).run s = (Op.fwdIn k (f (s.fwdIn k))).apply s := rfl
@[simp] theorem run_modLstr (k : Nat) (f : LStr → LStr) (s : State) : (modLstr k f).run s = (Op.lstr k (f (s.lstr k))).apply s := rfl
@[simp] theorem run_modConv (k : Nat) (f : Conv → Conv) (s : State) : (modConv k f).run s = (Op.conv k (f (s.conv k))).apply s := rfl
@[simp] theorem run_modTimer (k : Nat) (f : Timer → Timer) (s : State) : (modTimer k f).run s = (Op.timer k (f (s.timer k))).apply s := rfl
@[simp] theorem run_modBank (k : Nat) (f : Bank → Bank) (s : State) : (modBank k f).run s = (Op.bank k (f (s.bank k))).apply s := rfl
@[simp] theorem run_modRetired (k : Nat) (f : (List (Nat × Nat)) → (List (Nat × Nat))) (s : State) : (modRetired k f).run s = (Op.retired k (f (s.retired k))).apply s := rfl
@[simp] theorem run_modRail (k : Nat) (f : Rail → Rail) (s : State) : (modRail k f).run s = (Op.rail k (f (s.rail k))).apply s := rfl
@[simp] theorem run_modPort (k : Nat) (f : Port → Port) (s : State) : (modPort k f).run s = (Op.port k (f (s.port k))).apply s := rfl
@[simp] theorem run_modCmd (k : Nat) (f : CmdPath → CmdPath) (s : State) : (modCmd k f).run s = (Op.cmd k (f (s.cmd k))).apply s := rfl
@[simp] theorem run_modPdo (k : Nat) (f : Pdo → Pdo) (s : State) : (modPdo k f).run s = (Op.pdo k (f (s.pdo k))).apply s := rfl
@[simp] theorem run_modDigest (k : Nat) (f : (Option U32) → (Option U32)) (s : State) : (modDigest k f).run s = (Op.digest k (f (s.digest k))).apply s := rfl
@[simp] theorem run_modModes (f : Modes → Modes) (s : State) : (modModes f).run s = (Op.modes (f s.modes)).apply s := rfl
@[simp] theorem run_modCalTime (f : (Option Nat) → (Option Nat)) (s : State) : (modCalTime f).run s = (Op.calTime (f s.calTime)).apply s := rfl
@[simp] theorem run_modWatch (f : Watch → Watch) (s : State) : (modWatch f).run s = (Op.watch (f s.watch)).apply s := rfl
@[simp] theorem run_modPace (f : Pace → Pace) (s : State) : (modPace f).run s = (Op.pace (f s.pace)).apply s := rfl
@[simp] theorem run_modLink (f : Link → Link) (s : State) : (modLink f).run s = (Op.link (f s.link)).apply s := rfl
@[simp] theorem run_modHeath (f : Heath → Heath) (s : State) : (modHeath f).run s = (Op.heath (f s.heath)).apply s := rfl
@[simp] theorem run_modRowTest (f : RowTest → RowTest) (s : State) : (modRowTest f).run s = (Op.rowTest (f s.rowTest)).apply s := rfl
@[simp] theorem run_modSecure (f : Secure → Secure) (s : State) : (modSecure f).run s = (Op.secure (f s.secure)).apply s := rfl
@[simp] theorem run_modSeqr (f : Seqr → Seqr) (s : State) : (modSeqr f).run s = (Op.seqr (f s.seqr)).apply s := rfl
@[simp] theorem run_modRing (f : Ring → Ring) (s : State) : (modRing f).run s = (Op.ring (f s.ring)).apply s := rfl
@[simp] theorem run_modNet (f : Net → Net) (s : State) : (modNet f).run s = (Op.net (f s.net)).apply s := rfl

end Sys2Proof.Machine
end

