-- ==== Sys2Proof/Laws/Frame.lean ====
section
/-! SUPPORT. Frames: what a program leaves alone follows from what each of its updates leaves alone. -/
namespace Sys2Proof.Machine

/-- The parts of the state that an update can change. -/
def Op.touches : Op → List Part
  | .put .. => []
  | .reflect .. => [.mirror]
  | .bytes .. | .zero .. => [.mem]
  | .report _ => reporting
  | .free => [.fresh]
  | .output _ | .recall _ => [.out]
  | .advance _ | .restartTime => [.time]
  | .signal _ => [.out, .vectors]
  | .emcy .. => [.rep, .out, .ctrls]
  | .clearErrors | .record _ | .resetReports _ | .nextSeq | .pageOpen .. | .pageClose _ => [.rep]
  | .numberWaiting _ => reporting
  | .phase _ => [.phase]
  | .clearState _ => [.mirror, .islands, .vectors, .ctrls, .heads, .chans, .pairs, .lanes, .lineUnits, .axes, .streams, .unreads,
      .fwdIns, .strings, .convs, .timers, .banks, .ports, .cmds, .pdos, .digests, .modes, .calTime, .watch, .pace, .link, .heath,
      .rowTest, .ring, .net]
  | .island .. => [.islands]
  | .vector .. => [.vectors]
  | .ctrl .. => [.ctrls]
  | .head .. => [.heads]
  | .chan .. => [.chans]
  | .pair .. => [.pairs]
  | .lane .. => [.lanes]
  | .lineUnit .. => [.lineUnits]
  | .axis .. => [.axes]
  | .stream .. => [.streams]
  | .unread .. => [.unreads]
  | .fwdIn .. => [.fwdIns]
  | .lstr .. => [.strings]
  | .conv .. => [.convs]
  | .timer .. => [.timers]
  | .bank .. => [.banks]
  | .retired .. => [.retireds]
  | .rail .. => [.rails]
  | .port .. => [.ports]
  | .cmd .. => [.cmds]
  | .pdo .. => [.pdos]
  | .digest .. => [.digests]
  | .modes _ => [.modes]
  | .calTime _ => [.calTime]
  | .watch _ => [.watch]
  | .pace _ => [.pace]
  | .link _ => [.link]
  | .heath _ => [.heath]
  | .rowTest _ => [.rowTest]
  | .secure _ => [.secure]
  | .seqr _ => [.seqr]
  | .ring _ => [.ring]
  | .net _ => [.net]

theorem Part.same_refl (x : Part) (s : State) : x.same s s := by cases x <;> rfl

theorem Part.same_trans {x : Part} {a b c : State} (h : x.same a b) (g : x.same b c) : x.same a c := by
  cases x <;> exact Eq.trans g h

theorem Part.same_of_report {x : Part} {s t : State} (h : s.SameBut t) (hx : x ∉ reporting) : x.same s t := by
  obtain ⟨_, _, _, _, _, rfl⟩ := h
  cases x <;> first | rfl | exact absurd hx (by decide)

theorem Op.touches_same {o : Op} {s : State} {x : Part} (h : x ∉ o.touches) : x.same s (o.apply s) := by
  cases o
  case report e => exact Part.same_of_report (State.report_same s e) h
  case numberWaiting t => exact Part.same_of_report (Op.apply_same (.numberWaiting t) s rfl) h
  case signal v =>
    obtain ⟨_, _, e⟩ := State.signal_frame s v
    refine Eq.mp (congrArg (x.same s) e.symm) ?_
    cases x <;> first | rfl | exact absurd h (by simp [Op.touches])
  case emcy y code ev p1 =>
    obtain ⟨_, _, e⟩ := State.sendEmcy_frame { s with rep := s.rep.error code } y code ev p1 s.rep.seq s.time
    refine Eq.mp (congrArg (x.same s) e.symm) ?_
    cases x <;> first | rfl | exact absurd h (by simp [Op.touches])
  all_goals cases x <;> first | rfl | exact absurd h (by simp [Op.touches])

/-- What an update may do under a frame. -/
def Op.within (W : List Nat) (L : List Part) : Op → Prop
  | .put n j i _ => keyOf n j i ∈ W
  | .report e => (e.event = some .calDone → keyOf .calId 0 0 ∈ W) ∧ ∀ x ∈ reporting, x ∈ L
  | .numberWaiting _ => keyOf .calId 0 0 ∈ W ∧ ∀ x ∈ reporting, x ∈ L
  | .clearState f => (∀ k, k ∉ W → f k = true) ∧ ∀ x ∈ (Op.clearState f).touches, x ∈ L
  | o => ∀ x ∈ o.touches, x ∈ L

theorem Op.within_leaves {W : List Nat} {L : List Part} {o : Op} (h : o.within W L) {k : Nat} (hk : k ∉ W) : o.leavesEntry k := by
  cases o <;> simp only [Op.leavesEntry] <;> simp only [Op.within] at h
  case put n j i v => exact fun e => hk (e ▸ h)
  case report e => exact fun he hh => hk (hh ▸ h.1 he)
  case numberWaiting t => exact fun hh => hk (hh ▸ h.1)
  case clearState f => exact h.1 k hk

theorem Op.within_touches {W : List Nat} {L : List Part} {o : Op} (h : o.within W L) : ∀ x ∈ o.touches, x ∈ L := by
  cases o <;> first | exact h | exact h.2 | simp [Op.touches]

theorem Frame.refl (W : List Nat) (L : List Part) (s : State) : Frame W L s s := ⟨fun _ _ _ _ => rfl, fun x _ => x.same_refl s⟩

theorem Frame.trans {W : List Nat} {L : List Part} {a b c : State} (h : Frame W L a b) (g : Frame W L b c) : Frame W L a c :=
  ⟨fun n j i hk => (g.1 n j i hk).trans (h.1 n j i hk), fun x hx => Part.same_trans (h.2 x hx) (g.2 x hx)⟩

theorem Frame.mono {W W' : List Nat} {L L' : List Part} {a b : State} (h : Frame W L a b) (hW : ∀ k ∈ W, k ∈ W')
    (hL : ∀ x ∈ L, x ∈ L') : Frame W' L' a b :=
  ⟨fun n j i hk => h.1 n j i fun hh => hk (hW _ hh), fun x hx => h.2 x fun hh => hx (hL _ hh)⟩

theorem Op.within_frame {W : List Nat} {L : List Part} {o : Op} (s : State) (h : o.within W L) : Frame W L s (o.apply s) :=
  ⟨fun _ _ _ hk => State.rd_leaves (Op.within_leaves h hk), fun x hx => Op.touches_same fun hh => hx (Op.within_touches h x hh)⟩

/-- A program whose updates stay within a frame stays within it. -/
theorem Prog.run_frame {W : List Nat} {L : List Part} {p : Prog} (h : p.All (Op.within W L)) (s : State) : Frame W L s (p.run s) :=
  Prog.run_rel (Frame.refl W L) Frame.trans (fun _ s ho => Op.within_frame s ho) p h s

end Sys2Proof.Machine
end

