-- ==== Sys2Proof/Laws/Memory.lean ====
section
/-! SUPPORT. Every operation keeps the canonical form of the memories, and the reset state has it. -/
namespace Sys2Proof.Machine

/-- Every primitive update keeps the canonical form of the memories. -/
theorem Op.apply_mem_wf (o : Op) (s : State) (h : Memory.wf s.mem = true) : Memory.wf (o.apply s).mem = true := by
  by_cases hm : Part.mem ∈ o.touches
  · cases o <;> first | exact memPut_wf _ _ _ h | exact Store.wf_filter _ _ _ h | simp [Op.touches, reporting] at hm
  · rw [show (o.apply s).mem = s.mem from Op.touches_same hm]; exact h

/-- Every program keeps it. -/
theorem Prog.run_mem_wf (p : Prog) (s : State) (h : Memory.wf s.mem = true) : Memory.wf (p.run s).mem = true :=
  Prog.run_invariant (I := fun s => Memory.wf s.mem = true) (fun o s hs => o.apply_mem_wf s hs) p s h

theorem reset_mem_wf : Memory.wf State.reset.mem = true := rfl

end Sys2Proof.Machine
end

