-- ==== Sys2Proof/WellFormed.lean ====
section
/-! DEFINITION. The commands that the outside world can send: the checks on operands that their types leave open. The meanings are
total and do not rest on them. -/
namespace Sys2Proof

/-- The path is not the X9's own. -/
def outside (p : Path) : Bool := p ≠ .p6

/-- A record of an opcode, with at most 48 bytes of data (command record table). -/
def isRecord (opcode : Nat) (r : CmdRecord) : Bool := r.opcode.toNat = opcode && decide (r.data.length ≤ 48)

/-- Whether the interface can carry a command: the sizes of records, frames and bursts, and the path of a write. -/
def Instr.wf (c : Instr) : Bool :=
  match c with
  | .nop p r => outside p && isRecord 0 r
  | .read p r => outside p && isRecord 1 r
  | .write p r => outside p && isRecord 2 r
  | .domainWrite p r => outside p && isRecord 3 r
  | .domainRead p r => outside p && isRecord 4 r
  | .journalRead p r => outside p && isRecord 5 r
  | .commandBadOpcode p r => outside p && decide (5 < r.opcode.toNat) && decide (r.data.length ≤ 48)
  | .laneStartOfLine _ words skews => decide (words.length = 4) && decide (skews.length ≤ 8)
  | .laneEndOfLine _ words | .laneIdleSequence _ _ words | .laneUnlistedCode _ _ words => decide (words.length = 4)
  | .planningCycle sense => decide (sense.length ≤ 6) && sense.all fun x => decide (x.1 ≤ 4095) && decide (x.2 ≤ 4095)
  | .bankAccessRead _ _ n _ _ => decide (n ≠ 0) && decide (n.toNat ≤ 4096)
  | .bankAccessWrite _ _ data _ _ => decide (1 ≤ data.length) && decide (data.length ≤ 4096)
  | .keyLoad p data => outside p && decide (data.length ≤ 0x200000)
  | .commandFetchComplete bytes => decide (bytes.length = 64)
  | .qspiRead _ n => decide (1 ≤ n)
  | .qspiReadQuad _ n => decide (1 ≤ n)
  | .qspiWrite _ words _ => decide (1 ≤ words.length)
  | .qspiWriteQuad _ words _ => decide (1 ≤ words.length)
  | .qspiReadStatus n => decide (1 ≤ n)
  | .sdoDownloadSegment _ data _ => decide (1 ≤ data.length) && decide (data.length ≤ 7)
  | .sdoBlockDownload frame => decide (frame.length = 8)
  | .sdoBlockUpload frame => decide (frame.length = 8)
  | .rpdoReceive k data => decide (data.length ≤ if k.val < 4 then 8 else 64)
  | .canErrorDetected _ tec errs _ => decide (tec.toNat ≤ 256) && decide (errs.toNat ≤ 256)
  | .lineBurstReceive _ bytes => decide (bytes.length % 8 = 0)
  | .seamBurstReceive _ bytes => decide (bytes.length % 8 = 0)
  | .fwdBurstReceive _ bytes => decide (bytes.length % 8 = 0)
  | .fwdRetBurstReceive _ bytes => decide (bytes.length % 8 = 0)
  | .throughBurst _ bytes => decide (bytes.length % 8 = 0)
  | .fwdOut p data => outside p && decide (data.length ≤ 0x200000)
  | .bar0WindowRead _ n _ _ => decide (1 ≤ n)
  | .dictionaryWrite p _ _ _ _ | .levelKeyWrite p _ | .claimTake p _ _ | .claimRelease p _ | .claimBroken p _
  | .restoreDefaults p _ | .modeReqPrepare p | .modeReqCalibrate p | .modeReqScan p | .modeReqPark p | .fenceRequest p _
  | .readmitRequest p _ | .headEnable p _ | .headDisable p _ | .hostTrig p _ | .calDark p _ | .calWhite p _
  | .calCompute p _ | .axisEnable p _ | .axisDisable p _ | .moveAbs p _ | .moveRel p _ | .moveVelPos p _
  | .moveVelNeg p _ | .moveStop p _ | .moveHalt p _ | .moveHome p _ | .retarget p _ _ | .posSet p _ _
  | .axisFaultClr p _ | .encEnWrite p _ _ | .stringOn p _ | .stringOffFade p _ | .stringOffNow p _ | .stringFaultClr p _
  | .heathEnable p | .heathDisable p | .urgent p _ | .plausClr p _ | .timerStart p _ | .timerStop p _
  | .compareWrite p _ _ _ _ | .periodWrite p _ _ _ | .bankOwnerWrite p _ _ | .bankPowerOff p _ | .bankFallow p _
  | .bankPowerOn p _ | .wipe p _ | .lcAdvance p _ | .tamperClr p _ | .cmdRingEnable p | .cmdRingDisable p
  | .cmdTailWrite p _ | .cplTailWrite p _ | .streamEnable p _ | .streamDisable p _ | .rdPtrWrite p _ _
  | .streamBufferConfig p _ _ _ | .parErrRead p | .fifoResetWrite p _ _ | .qspiErrRead p | .nodeIdWrite p _ _
  | .errorFieldClear p | .enumReq p | .fwdIn p | .memberOutSet p | .powerReqWrite p _ | .dirtyClr p
  | .deviceResetWrite p _ => outside p
  | .mirrorUpdate .. | .stateDigestUpdate .. | .fenceTakesEffect .. | .islandPllLost .. | .handshakeTimeout ..
  | .islandPllLock .. | .readmitLockTimeout .. | .syncAttemptEnd .. | .readmissionPoint .. | .rulingPositionArrival ..
  | .lineTrigger .. | .lineEnd .. | .exposureWindowOpen .. | .exposureWindowClose .. | .lineDurUpdate .. | .adcSample ..
  | .lanePixelWord .. | .laneAlignmentLost ..
  | .lineRecordEmit .. | .seamDataArrival .. | .seamWaitExpired .. | .calCaptureDone .. | .calComputeDone ..
  | .temperatureArrivalLine .. | .tempAgeExpired .. | .coverInputChange .. | .coverDebounceExpired ..
  | .targetReached .. | .stopComplete .. | .encoderTransition .. | .encoderIndex .. | .homeSwitchEdge ..
  | .holdDelayExpired .. | .coilOpen .. | .overcurrent .. | .stall .. | .freeSpaceArrival .. | .lineDurationArrival ..
  | .dimmingPeriodStart .. | .softStartDone .. | .stringShortSs .. | .stringOvercurrent .. | .stringOpen ..
  | .lampOpen .. | .lampLocateDone .. | .lampShort .. | .lampCheck .. | .baselineLearnEnd ..
  | .stringTemperatureArrival .. | .stringTempStale .. | .heathRoutingDone .. | .heathConversionEnd ..
  | .heathResultDelivery .. | .mainsZeroCrossing .. | .timerRollover .. | .timerMatch .. | .slaveEdge ..
  | .captureEdge .. | .bankPowerUpDone .. | .bankRetentionExit .. | .bankDrainDone .. | .bankBlotDone ..
  | .rowTestDone .. | .tamperDetected .. | .pcieLinkLoss .. | .pcieRequestRefused .. | .msixHoldoffExpired ..
  | .streamRecordArrival .. | .streamRecordWritten .. | .stageTransfer .. | .streamIrqTimeout .. | .parRead ..
  | .parWriteLowerHalf .. | .parWriteUpperHalf .. | .parFifoWrite .. | .commandFifoRead .. | .postedQueueDispatch ..
  | .qspiBadInstruction .. | .nmtStart .. | .nmtStop .. | .nmtEnterPreoperational .. | .nmtResetCommunication ..
  | .nmtResetNode .. | .sdoExpeditedDownload .. | .sdoSegmentedDownloadInit .. | .sdoUploadInitiate ..
  | .sdoUploadSegment .. | .sdoTimeout .. | .sdoResponse .. | .usdoDownload .. | .usdoUpload .. | .commandUpload ..
  | .syncReceive .. | .tpdoEventTimer .. | .tpdoInhibitExpired .. | .heartbeatProduce .. | .heartbeatReceive ..
  | .heartbeatConsumerTimeout .. | .emcyInhibitExpired .. | .canBusOffRecovery .. | .lssSwitchStateGlobal ..
  | .lssSwitchStateSelective .. | .lssConfigureNodeId .. | .lssConfigureBitTiming .. | .lssInquireIdentity ..
  | .lssIdentifyRemoteSlave .. | .lssFastscan .. | .linkPortUp .. | .linkPortDown .. | .enumFrameReceive ..
  | .ringSizeBroadcast .. | .ctrlBurstReceive .. | .ackReceive .. | .nakReceive .. | .ackTimeout ..
  | .alignFrameReceive .. | .ringUnwrap .. | .admissionGrant .. | .collectorFreeBroadcast .. | .onDelayExpired ..
  | .railGood .. | .pgTimeoutExpired .. | .dischargeExpired .. | .railDischarged .. | .offTimeoutExpired ..
  | .railLost .. | .bootRailLost .. | .aonPowerOn .. | .resetRelease .. | .tjSample .. | .pcieLinkUp ..
  | .canBusIdleResume .. | .neighbourLinkAbsent .. | .modeRequestTakeUp | .modeTransitionDone | .parkEntry | .tbHoldover
  | .holdoverExit | .scanPeriodTick | .rowTestStart | .keySlotWiped | .secureWipeDone | .lcFusesBlown | .commandFetch
  | .commandFetchError | .qspiPortReset | .sdoAbortReceived | .lssActivateBitTiming | .lssSwitchDelayExpired
  | .lssInquireNodeId | .lssIdentifyNonConfigured | .lssStoreConfiguration | .enumTimeout | .ackSendTimer
  | .alignExchangeTick | .rootAlignAbsent | .alignLostTimeout | .admissionRequest | .joiningTimeout
  | .collectorFreeTimeout | .collapseStep | .resetNAsserted | .supplyLow | .aonPowerFail | .bootRailTimeout
  | .bootRetryDelay | .startUpComplete | .lowVoltageCheckArmed => true

abbrev Instr.WellFormed (c : Instr) : Prop := c.wf = true

end Sys2Proof
end

