-- ==== Sys2Proof/Laws/PerInstr.lean ====
section
/-! SUPPORT. A law of every command as syntax: the path that a command comes from is one of P0 to P5, since P6 is the X9's own (path
table); one lemma per constructor. -/
namespace Sys2Proof

/-- The path that a command names as its sender. -/
def Instr.sender (c : Instr) : Option Path :=
  match c with
  | .dictionaryWrite p _ _ _ _ => some p
  | .levelKeyWrite p _ => some p
  | .claimTake p _ _ => some p
  | .claimRelease p _ => some p
  | .claimBroken p _ => some p
  | .restoreDefaults p _ => some p
  | .modeReqPrepare p => some p
  | .modeReqCalibrate p => some p
  | .modeReqScan p => some p
  | .modeReqPark p => some p
  | .nop p _ => some p
  | .read p _ => some p
  | .write p _ => some p
  | .domainWrite p _ => some p
  | .domainRead p _ => some p
  | .journalRead p _ => some p
  | .commandBadOpcode p _ => some p
  | .fenceRequest p _ => some p
  | .readmitRequest p _ => some p
  | .headEnable p _ => some p
  | .headDisable p _ => some p
  | .hostTrig p _ => some p
  | .calDark p _ => some p
  | .calWhite p _ => some p
  | .calCompute p _ => some p
  | .axisEnable p _ => some p
  | .axisDisable p _ => some p
  | .moveAbs p _ => some p
  | .moveRel p _ => some p
  | .moveVelPos p _ => some p
  | .moveVelNeg p _ => some p
  | .moveStop p _ => some p
  | .moveHalt p _ => some p
  | .moveHome p _ => some p
  | .retarget p _ _ => some p
  | .posSet p _ _ => some p
  | .axisFaultClr p _ => some p
  | .encEnWrite p _ _ => some p
  | .stringOn p _ => some p
  | .stringOffFade p _ => some p
  | .stringOffNow p _ => some p
  | .stringFaultClr p _ => some p
  | .heathEnable p => some p
  | .heathDisable p => some p
  | .urgent p _ => some p
  | .plausClr p _ => some p
  | .timerStart p _ => some p
  | .timerStop p _ => some p
  | .compareWrite p _ _ _ _ => some p
  | .periodWrite p _ _ _ => some p
  | .bankOwnerWrite p _ _ => some p
  | .bankPowerOff p _ => some p
  | .bankFallow p _ => some p
  | .bankPowerOn p _ => some p
  | .keyLoad p _ => some p
  | .wipe p _ => some p
  | .lcAdvance p _ => some p
  | .tamperClr p _ => some p
  | .cmdRingEnable p => some p
  | .cmdRingDisable p => some p
  | .cmdTailWrite p _ => some p
  | .cplTailWrite p _ => some p
  | .streamEnable p _ => some p
  | .streamDisable p _ => some p
  | .rdPtrWrite p _ _ => some p
  | .streamBufferConfig p _ _ _ => some p
  | .parErrRead p => some p
  | .fifoResetWrite p _ _ => some p
  | .qspiErrRead p => some p
  | .nodeIdWrite p _ _ => some p
  | .errorFieldClear p => some p
  | .enumReq p => some p
  | .fwdOut p _ => some p
  | .fwdIn p => some p
  | .memberOutSet p => some p
  | .powerReqWrite p _ => some p
  | .dirtyClr p => some p
  | .deviceResetWrite p _ => some p
  | .mirrorUpdate .. | .stateDigestUpdate .. | .fenceTakesEffect .. | .islandPllLost .. | .handshakeTimeout ..
  | .islandPllLock .. | .readmitLockTimeout .. | .syncAttemptEnd .. | .readmissionPoint .. | .rulingPositionArrival ..
  | .lineTrigger .. | .lineEnd .. | .exposureWindowOpen .. | .exposureWindowClose .. | .lineDurUpdate ..
  | .adcSample .. | .lanePixelWord .. | .laneStartOfLine .. | .laneEndOfLine .. | .laneIdleSequence ..
  | .laneUnlistedCode .. | .laneAlignmentLost .. | .lineRecordEmit .. | .seamDataArrival .. | .seamWaitExpired ..
  | .calCaptureDone .. | .calComputeDone .. | .temperatureArrivalLine .. | .tempAgeExpired .. | .coverInputChange ..
  | .coverDebounceExpired .. | .planningCycle .. | .targetReached .. | .stopComplete .. | .encoderTransition ..
  | .encoderIndex .. | .homeSwitchEdge .. | .holdDelayExpired .. | .coilOpen .. | .overcurrent .. | .stall ..
  | .freeSpaceArrival .. | .lineDurationArrival .. | .dimmingPeriodStart .. | .softStartDone .. | .stringShortSs ..
  | .stringOvercurrent .. | .stringOpen .. | .lampOpen .. | .lampLocateDone .. | .lampShort .. | .lampCheck ..
  | .baselineLearnEnd .. | .stringTemperatureArrival .. | .stringTempStale .. | .heathRoutingDone ..
  | .heathConversionEnd .. | .heathResultDelivery .. | .mainsZeroCrossing .. | .timerRollover .. | .timerMatch ..
  | .slaveEdge .. | .captureEdge .. | .bankPowerUpDone .. | .bankRetentionExit .. | .bankDrainDone ..
  | .bankBlotDone .. | .bankAccessRead .. | .bankAccessWrite .. | .rowTestDone .. | .tamperDetected ..
  | .commandFetchComplete .. | .pcieLinkLoss .. | .pcieRequestRefused .. | .msixHoldoffExpired ..
  | .streamRecordArrival .. | .streamRecordWritten .. | .stageTransfer .. | .streamIrqTimeout .. | .parRead ..
  | .parWriteLowerHalf .. | .parWriteUpperHalf .. | .parFifoWrite .. | .commandFifoRead .. | .postedQueueDispatch ..
  | .qspiRead .. | .qspiReadQuad .. | .qspiWrite .. | .qspiWriteQuad .. | .qspiReadStatus .. | .qspiBadInstruction ..
  | .nmtStart .. | .nmtStop .. | .nmtEnterPreoperational .. | .nmtResetCommunication .. | .nmtResetNode ..
  | .sdoExpeditedDownload .. | .sdoSegmentedDownloadInit .. | .sdoDownloadSegment .. | .sdoUploadInitiate ..
  | .sdoUploadSegment .. | .sdoBlockDownload .. | .sdoBlockUpload .. | .sdoTimeout .. | .sdoResponse ..
  | .usdoDownload .. | .usdoUpload .. | .commandUpload .. | .rpdoReceive .. | .syncReceive .. | .tpdoEventTimer ..
  | .tpdoInhibitExpired .. | .heartbeatProduce .. | .heartbeatReceive .. | .heartbeatConsumerTimeout ..
  | .emcyInhibitExpired .. | .canErrorDetected .. | .canBusOffRecovery .. | .lssSwitchStateGlobal ..
  | .lssSwitchStateSelective .. | .lssConfigureNodeId .. | .lssConfigureBitTiming .. | .lssInquireIdentity ..
  | .lssIdentifyRemoteSlave .. | .lssFastscan .. | .linkPortUp .. | .linkPortDown .. | .enumFrameReceive ..
  | .ringSizeBroadcast .. | .lineBurstReceive .. | .seamBurstReceive .. | .fwdBurstReceive .. | .fwdRetBurstReceive ..
  | .ctrlBurstReceive .. | .throughBurst .. | .ackReceive .. | .nakReceive .. | .ackTimeout .. | .alignFrameReceive ..
  | .ringUnwrap .. | .admissionGrant .. | .collectorFreeBroadcast .. | .onDelayExpired .. | .railGood ..
  | .pgTimeoutExpired .. | .dischargeExpired .. | .railDischarged .. | .offTimeoutExpired .. | .railLost ..
  | .bootRailLost .. | .aonPowerOn .. | .resetRelease .. | .tjSample .. | .bar0WindowRead .. | .pcieLinkUp ..
  | .canBusIdleResume .. | .neighbourLinkAbsent .. | .modeRequestTakeUp | .modeTransitionDone | .parkEntry
  | .tbHoldover | .holdoverExit | .scanPeriodTick | .rowTestStart | .keySlotWiped | .secureWipeDone | .lcFusesBlown
  | .commandFetch | .commandFetchError | .qspiPortReset | .sdoAbortReceived | .lssActivateBitTiming
  | .lssSwitchDelayExpired | .lssInquireNodeId | .lssIdentifyNonConfigured | .lssStoreConfiguration | .enumTimeout
  | .ackSendTimer | .alignExchangeTick | .rootAlignAbsent | .alignLostTimeout | .admissionRequest | .joiningTimeout
  | .collectorFreeTimeout | .collapseStep | .resetNAsserted | .supplyLow | .aonPowerFail | .bootRailTimeout
  | .bootRetryDelay | .startUpComplete | .lowVoltageCheckArmed => none

/-- A well-formed command that names a path comes from outside. -/
def Laws.Sender.Statement (c : Instr) : Prop := c.WellFormed → c.sender ≠ some .p6

end Sys2Proof

namespace Sys2Proof.Laws.Sender

-- One proof at a time: a thread for each would need more memory than a check has.
set_option Elab.async false

theorem dictionaryWrite (x0 : Path) (x1 : BitVec 16) (x2 : Byte) (x3 : BitVec 32) (x4 : BitVec 4) : Statement (.dictionaryWrite x0 x1 x2 x3 x4) := by
  rintro h ⟨⟩; exact Bool.noConfusion h
theorem levelKeyWrite (x0 : Path) (x1 : BitVec 32) : Statement (.levelKeyWrite x0 x1) := by
  rintro h ⟨⟩; exact Bool.noConfusion h
theorem claimTake (x0 : Path) (x1 : Fin 56) (x2 : BitVec 8) : Statement (.claimTake x0 x1 x2) := by
  rintro h ⟨⟩; exact Bool.noConfusion h
theorem claimRelease (x0 : Path) (x1 : Fin 56) : Statement (.claimRelease x0 x1) := by
  rintro h ⟨⟩; exact Bool.noConfusion h
theorem claimBroken (x0 : Path) (x1 : Fin 56) : Statement (.claimBroken x0 x1) := by
  rintro h ⟨⟩; exact Bool.noConfusion h
theorem restoreDefaults (x0 : Path) (x1 : BitVec 32) : Statement (.restoreDefaults x0 x1) := by
  rintro h ⟨⟩; exact Bool.noConfusion h
theorem mirrorUpdate (x0 : BitVec 16) (x1 : Byte) : Statement (.mirrorUpdate x0 x1) := fun _ h => nomatch h
theorem stateDigestUpdate (x0 : Fin 16) : Statement (.stateDigestUpdate x0) := fun _ h => nomatch h
theorem modeReqPrepare (x0 : Path) : Statement (.modeReqPrepare x0) := by
  rintro h ⟨⟩; exact Bool.noConfusion h
theorem modeReqCalibrate (x0 : Path) : Statement (.modeReqCalibrate x0) := by
  rintro h ⟨⟩; exact Bool.noConfusion h
theorem modeReqScan (x0 : Path) : Statement (.modeReqScan x0) := by
  rintro h ⟨⟩; exact Bool.noConfusion h
theorem modeReqPark (x0 : Path) : Statement (.modeReqPark x0) := by
  rintro h ⟨⟩; exact Bool.noConfusion h
theorem nop (x0 : Path) (x1 : CmdRecord) : Statement (.nop x0 x1) := by
  rintro h ⟨⟩; exact Bool.noConfusion h
theorem read (x0 : Path) (x1 : CmdRecord) : Statement (.read x0 x1) := by
  rintro h ⟨⟩; exact Bool.noConfusion h
theorem write (x0 : Path) (x1 : CmdRecord) : Statement (.write x0 x1) := by
  rintro h ⟨⟩; exact Bool.noConfusion h
theorem domainWrite (x0 : Path) (x1 : CmdRecord) : Statement (.domainWrite x0 x1) := by
  rintro h ⟨⟩; exact Bool.noConfusion h
theorem domainRead (x0 : Path) (x1 : CmdRecord) : Statement (.domainRead x0 x1) := by
  rintro h ⟨⟩; exact Bool.noConfusion h
theorem journalRead (x0 : Path) (x1 : CmdRecord) : Statement (.journalRead x0 x1) := by
  rintro h ⟨⟩; exact Bool.noConfusion h
theorem commandBadOpcode (x0 : Path) (x1 : CmdRecord) : Statement (.commandBadOpcode x0 x1) := by
  rintro h ⟨⟩; exact Bool.noConfusion h
theorem fenceRequest (x0 : Path) (x1 : Fin 15) : Statement (.fenceRequest x0 x1) := by
  rintro h ⟨⟩; exact Bool.noConfusion h
theorem readmitRequest (x0 : Path) (x1 : Fin 15) : Statement (.readmitRequest x0 x1) := by
  rintro h ⟨⟩; exact Bool.noConfusion h
theorem fenceTakesEffect (x0 : Fin 15) : Statement (.fenceTakesEffect x0) := fun _ h => nomatch h
theorem islandPllLost (x0 : Fin 15) : Statement (.islandPllLost x0) := fun _ h => nomatch h
theorem handshakeTimeout (x0 : Fin 15) (x1 : Fin 15) (x2 : CrossReq) : Statement (.handshakeTimeout x0 x1 x2) := fun _ h => nomatch h
theorem islandPllLock (x0 : Fin 15) : Statement (.islandPllLock x0) := fun _ h => nomatch h
theorem readmitLockTimeout (x0 : Fin 15) : Statement (.readmitLockTimeout x0) := fun _ h => nomatch h
theorem syncAttemptEnd (x0 : Fin 15) (x1 : List (U64 × U64)) : Statement (.syncAttemptEnd x0 x1) := fun _ h => nomatch h
theorem readmissionPoint (x0 : Fin 15) : Statement (.readmissionPoint x0) := fun _ h => nomatch h
theorem rulingPositionArrival (x0 : Fin 4) (x1 : Fin 256) : Statement (.rulingPositionArrival x0 x1) := fun _ h => nomatch h
theorem headEnable (x0 : Path) (x1 : Fin 4) : Statement (.headEnable x0 x1) := by
  rintro h ⟨⟩; exact Bool.noConfusion h
theorem headDisable (x0 : Path) (x1 : Fin 4) : Statement (.headDisable x0 x1) := by
  rintro h ⟨⟩; exact Bool.noConfusion h
theorem hostTrig (x0 : Path) (x1 : Fin 4) : Statement (.hostTrig x0 x1) := by
  rintro h ⟨⟩; exact Bool.noConfusion h
theorem lineTrigger (x0 : Fin 4) (x1 : TrigFrom) : Statement (.lineTrigger x0 x1) := fun _ h => nomatch h
theorem lineEnd (x0 : Fin 4) : Statement (.lineEnd x0) := fun _ h => nomatch h
theorem exposureWindowOpen (x0 : Fin 4) (x1 : Fin 3) : Statement (.exposureWindowOpen x0 x1) := fun _ h => nomatch h
theorem exposureWindowClose (x0 : Fin 4) (x1 : Fin 3) : Statement (.exposureWindowClose x0 x1) := fun _ h => nomatch h
theorem lineDurUpdate (x0 : Fin 4) : Statement (.lineDurUpdate x0) := fun _ h => nomatch h
theorem adcSample (x0 : Fin 12) (x1 : BitVec 32) (x2 : List (BitVec 32 × Int)) (x3 : Int) (x4 : Int) (x5 : Int) : Statement (.adcSample x0 x1 x2 x3 x4 x5) := fun _ h => nomatch h
theorem lanePixelWord (x0 : Fin 4) (x1 : Fin 8) (x2 : BitVec 14) : Statement (.lanePixelWord x0 x1 x2) := fun _ h => nomatch h
theorem laneStartOfLine (x0 : Fin 4) (x1 : List (BitVec 14)) (x2 : List Int) : Statement (.laneStartOfLine x0 x1 x2) := fun _ h => nomatch h
theorem laneEndOfLine (x0 : Fin 4) (x1 : List (BitVec 14)) : Statement (.laneEndOfLine x0 x1) := fun _ h => nomatch h
theorem laneIdleSequence (x0 : Fin 4) (x1 : Fin 8) (x2 : List (BitVec 14)) : Statement (.laneIdleSequence x0 x1 x2) := fun _ h => nomatch h
theorem laneUnlistedCode (x0 : Fin 4) (x1 : Fin 8) (x2 : List (BitVec 14)) : Statement (.laneUnlistedCode x0 x1 x2) := fun _ h => nomatch h
theorem laneAlignmentLost (x0 : Fin 4) (x1 : Fin 8) : Statement (.laneAlignmentLost x0 x1) := fun _ h => nomatch h
theorem lineRecordEmit (x0 : Fin 4) : Statement (.lineRecordEmit x0) := fun _ h => nomatch h
theorem seamDataArrival (x0 : Fin 4) : Statement (.seamDataArrival x0) := fun _ h => nomatch h
theorem seamWaitExpired (x0 : Fin 4) : Statement (.seamWaitExpired x0) := fun _ h => nomatch h
theorem calDark (x0 : Path) (x1 : Fin 4) : Statement (.calDark x0 x1) := by
  rintro h ⟨⟩; exact Bool.noConfusion h
theorem calWhite (x0 : Path) (x1 : Fin 4) : Statement (.calWhite x0 x1) := by
  rintro h ⟨⟩; exact Bool.noConfusion h
theorem calCompute (x0 : Path) (x1 : Fin 4) : Statement (.calCompute x0 x1) := by
  rintro h ⟨⟩; exact Bool.noConfusion h
theorem calCaptureDone (x0 : Fin 4) : Statement (.calCaptureDone x0) := fun _ h => nomatch h
theorem calComputeDone (x0 : Fin 4) : Statement (.calComputeDone x0) := fun _ h => nomatch h
theorem temperatureArrivalLine (x0 : Fin 64) : Statement (.temperatureArrivalLine x0) := fun _ h => nomatch h
theorem tempAgeExpired (x0 : Fin 4) : Statement (.tempAgeExpired x0) := fun _ h => nomatch h
theorem coverInputChange (x0 : Fin 4) (x1 : Bool) : Statement (.coverInputChange x0 x1) := fun _ h => nomatch h
theorem coverDebounceExpired (x0 : Fin 4) : Statement (.coverDebounceExpired x0) := fun _ h => nomatch h
theorem axisEnable (x0 : Path) (x1 : Fin 6) : Statement (.axisEnable x0 x1) := by
  rintro h ⟨⟩; exact Bool.noConfusion h
theorem axisDisable (x0 : Path) (x1 : Fin 6) : Statement (.axisDisable x0 x1) := by
  rintro h ⟨⟩; exact Bool.noConfusion h
theorem moveAbs (x0 : Path) (x1 : Fin 6) : Statement (.moveAbs x0 x1) := by
  rintro h ⟨⟩; exact Bool.noConfusion h
theorem moveRel (x0 : Path) (x1 : Fin 6) : Statement (.moveRel x0 x1) := by
  rintro h ⟨⟩; exact Bool.noConfusion h
theorem moveVelPos (x0 : Path) (x1 : Fin 6) : Statement (.moveVelPos x0 x1) := by
  rintro h ⟨⟩; exact Bool.noConfusion h
theorem moveVelNeg (x0 : Path) (x1 : Fin 6) : Statement (.moveVelNeg x0 x1) := by
  rintro h ⟨⟩; exact Bool.noConfusion h
theorem moveStop (x0 : Path) (x1 : Fin 6) : Statement (.moveStop x0 x1) := by
  rintro h ⟨⟩; exact Bool.noConfusion h
theorem moveHalt (x0 : Path) (x1 : Fin 6) : Statement (.moveHalt x0 x1) := by
  rintro h ⟨⟩; exact Bool.noConfusion h
theorem moveHome (x0 : Path) (x1 : Fin 6) : Statement (.moveHome x0 x1) := by
  rintro h ⟨⟩; exact Bool.noConfusion h
theorem retarget (x0 : Path) (x1 : Fin 6) (x2 : BitVec 32) : Statement (.retarget x0 x1 x2) := by
  rintro h ⟨⟩; exact Bool.noConfusion h
theorem posSet (x0 : Path) (x1 : Fin 6) (x2 : BitVec 32) : Statement (.posSet x0 x1 x2) := by
  rintro h ⟨⟩; exact Bool.noConfusion h
theorem axisFaultClr (x0 : Path) (x1 : Fin 6) : Statement (.axisFaultClr x0 x1) := by
  rintro h ⟨⟩; exact Bool.noConfusion h
theorem encEnWrite (x0 : Path) (x1 : Fin 6) (x2 : Bool) : Statement (.encEnWrite x0 x1 x2) := by
  rintro h ⟨⟩; exact Bool.noConfusion h
theorem planningCycle (x0 : List (Nat × Nat)) : Statement (.planningCycle x0) := fun _ h => nomatch h
theorem targetReached (x0 : Fin 6) : Statement (.targetReached x0) := fun _ h => nomatch h
theorem stopComplete (x0 : Fin 6) : Statement (.stopComplete x0) := fun _ h => nomatch h
theorem encoderTransition (x0 : Fin 6) (x1 : Bool) (x2 : Bool) : Statement (.encoderTransition x0 x1 x2) := fun _ h => nomatch h
theorem encoderIndex (x0 : Fin 6) : Statement (.encoderIndex x0) := fun _ h => nomatch h
theorem homeSwitchEdge (x0 : Fin 6) (x1 : Bool) : Statement (.homeSwitchEdge x0 x1) := fun _ h => nomatch h
theorem holdDelayExpired (x0 : Fin 6) : Statement (.holdDelayExpired x0) := fun _ h => nomatch h
theorem coilOpen (x0 : Fin 6) (x1 : Fin 2) (x2 : List (BitVec 12)) : Statement (.coilOpen x0 x1 x2) := fun _ h => nomatch h
theorem overcurrent (x0 : Fin 6) (x1 : Fin 2) (x2 : List (BitVec 12)) : Statement (.overcurrent x0 x1 x2) := fun _ h => nomatch h
theorem stall (x0 : Fin 6) : Statement (.stall x0) := fun _ h => nomatch h
theorem freeSpaceArrival (x0 : Fin 8) : Statement (.freeSpaceArrival x0) := fun _ h => nomatch h
theorem lineDurationArrival (x0 : Fin 4) : Statement (.lineDurationArrival x0) := fun _ h => nomatch h
theorem stringOn (x0 : Path) (x1 : Fin 8) : Statement (.stringOn x0 x1) := by
  rintro h ⟨⟩; exact Bool.noConfusion h
theorem stringOffFade (x0 : Path) (x1 : Fin 8) : Statement (.stringOffFade x0 x1) := by
  rintro h ⟨⟩; exact Bool.noConfusion h
theorem stringOffNow (x0 : Path) (x1 : Fin 8) : Statement (.stringOffNow x0 x1) := by
  rintro h ⟨⟩; exact Bool.noConfusion h
theorem stringFaultClr (x0 : Path) (x1 : Fin 8) : Statement (.stringFaultClr x0 x1) := by
  rintro h ⟨⟩; exact Bool.noConfusion h
theorem dimmingPeriodStart (x0 : Fin 8) (x1 : BitVec 16) (x2 : List (BitVec 32)) : Statement (.dimmingPeriodStart x0 x1 x2) := fun _ h => nomatch h
theorem softStartDone (x0 : Fin 8) : Statement (.softStartDone x0) := fun _ h => nomatch h
theorem stringShortSs (x0 : Fin 8) (x1 : BitVec 16) (x2 : List (BitVec 12)) : Statement (.stringShortSs x0 x1 x2) := fun _ h => nomatch h
theorem stringOvercurrent (x0 : Fin 8) (x1 : List (BitVec 12)) : Statement (.stringOvercurrent x0 x1) := fun _ h => nomatch h
theorem stringOpen (x0 : Fin 8) (x1 : BitVec 16) : Statement (.stringOpen x0 x1) := fun _ h => nomatch h
theorem lampOpen (x0 : Fin 8) (x1 : BitVec 16) : Statement (.lampOpen x0 x1) := fun _ h => nomatch h
theorem lampLocateDone (x0 : Fin 8) (x1 : List (BitVec 16)) : Statement (.lampLocateDone x0 x1) := fun _ h => nomatch h
theorem lampShort (x0 : Fin 8) (x1 : List (BitVec 16)) : Statement (.lampShort x0 x1) := fun _ h => nomatch h
theorem lampCheck (x0 : Fin 8) (x1 : BitVec 16) (x2 : BitVec 16) : Statement (.lampCheck x0 x1 x2) := fun _ h => nomatch h
theorem baselineLearnEnd (x0 : Fin 8) (x1 : BitVec 16) : Statement (.baselineLearnEnd x0 x1) := fun _ h => nomatch h
theorem stringTemperatureArrival (x0 : Fin 64) : Statement (.stringTemperatureArrival x0) := fun _ h => nomatch h
theorem stringTempStale (x0 : Fin 8) : Statement (.stringTempStale x0) := fun _ h => nomatch h
theorem heathEnable (x0 : Path) : Statement (.heathEnable x0) := by
  rintro h ⟨⟩; exact Bool.noConfusion h
theorem heathDisable (x0 : Path) : Statement (.heathDisable x0) := by
  rintro h ⟨⟩; exact Bool.noConfusion h
theorem heathRoutingDone (x0 : Fin 3) : Statement (.heathRoutingDone x0) := fun _ h => nomatch h
theorem heathConversionEnd (x0 : Fin 3) (x1 : Int) (x2 : Int) (x3 : Int) (x4 : BitVec 32) (x5 : BitVec 32) (x6 : BitVec 16) : Statement (.heathConversionEnd x0 x1 x2 x3 x4 x5 x6) := fun _ h => nomatch h
theorem heathResultDelivery (x0 : Fin 3) : Statement (.heathResultDelivery x0) := fun _ h => nomatch h
theorem urgent (x0 : Path) (x1 : BitVec 8) : Statement (.urgent x0 x1) := by
  rintro h ⟨⟩; exact Bool.noConfusion h
theorem plausClr (x0 : Path) (x1 : BitVec 8) : Statement (.plausClr x0 x1) := by
  rintro h ⟨⟩; exact Bool.noConfusion h
theorem mainsZeroCrossing (x0 : BitVec 32) : Statement (.mainsZeroCrossing x0) := fun _ h => nomatch h
theorem timerStart (x0 : Path) (x1 : Fin 32) : Statement (.timerStart x0 x1) := by
  rintro h ⟨⟩; exact Bool.noConfusion h
theorem timerStop (x0 : Path) (x1 : Fin 32) : Statement (.timerStop x0 x1) := by
  rintro h ⟨⟩; exact Bool.noConfusion h
theorem timerRollover (x0 : Fin 32) : Statement (.timerRollover x0) := fun _ h => nomatch h
theorem timerMatch (x0 : Fin 32) (x1 : Bool) : Statement (.timerMatch x0 x1) := fun _ h => nomatch h
theorem compareWrite (x0 : Path) (x1 : Fin 32) (x2 : Bool) (x3 : Bool) (x4 : BitVec 32) : Statement (.compareWrite x0 x1 x2 x3 x4) := by
  rintro h ⟨⟩; exact Bool.noConfusion h
theorem periodWrite (x0 : Path) (x1 : Fin 32) (x2 : Bool) (x3 : BitVec 32) : Statement (.periodWrite x0 x1 x2 x3) := by
  rintro h ⟨⟩; exact Bool.noConfusion h
theorem slaveEdge (x0 : Fin 32) (x1 : Bool) (x2 : BitVec 16) : Statement (.slaveEdge x0 x1 x2) := fun _ h => nomatch h
theorem captureEdge (x0 : Fin 32) (x1 : Bool) (x2 : BitVec 16) : Statement (.captureEdge x0 x1 x2) := fun _ h => nomatch h
theorem bankOwnerWrite (x0 : Path) (x1 : Fin 24) (x2 : BitVec 8) : Statement (.bankOwnerWrite x0 x1 x2) := by
  rintro h ⟨⟩; exact Bool.noConfusion h
theorem bankPowerOff (x0 : Path) (x1 : Fin 24) : Statement (.bankPowerOff x0 x1) := by
  rintro h ⟨⟩; exact Bool.noConfusion h
theorem bankFallow (x0 : Path) (x1 : Fin 24) : Statement (.bankFallow x0 x1) := by
  rintro h ⟨⟩; exact Bool.noConfusion h
theorem bankPowerOn (x0 : Path) (x1 : Fin 24) : Statement (.bankPowerOn x0 x1) := by
  rintro h ⟨⟩; exact Bool.noConfusion h
theorem bankPowerUpDone (x0 : Fin 24) : Statement (.bankPowerUpDone x0) := fun _ h => nomatch h
theorem bankRetentionExit (x0 : Fin 24) : Statement (.bankRetentionExit x0) := fun _ h => nomatch h
theorem bankDrainDone (x0 : Fin 24) : Statement (.bankDrainDone x0) := fun _ h => nomatch h
theorem bankBlotDone (x0 : Fin 24) : Statement (.bankBlotDone x0) := fun _ h => nomatch h
theorem bankAccessRead (x0 : Master) (x1 : BitVec 26) (x2 : BitVec 13) (x3 : List (BitVec 18)) (x4 : List (BitVec 18)) : Statement (.bankAccessRead x0 x1 x2 x3 x4) := fun _ h => nomatch h
theorem bankAccessWrite (x0 : Master) (x1 : BitVec 26) (x2 : List Byte) (x3 : List (BitVec 18)) (x4 : List (BitVec 18)) : Statement (.bankAccessWrite x0 x1 x2 x3 x4) := fun _ h => nomatch h
theorem rowTestDone (x0 : Bool) : Statement (.rowTestDone x0) := fun _ h => nomatch h
theorem keyLoad (x0 : Path) (x1 : List Byte) : Statement (.keyLoad x0 x1) := by
  rintro h ⟨⟩; exact Bool.noConfusion h
theorem wipe (x0 : Path) (x1 : BitVec 32) : Statement (.wipe x0 x1) := by
  rintro h ⟨⟩; exact Bool.noConfusion h
theorem lcAdvance (x0 : Path) (x1 : BitVec 8) : Statement (.lcAdvance x0 x1) := by
  rintro h ⟨⟩; exact Bool.noConfusion h
theorem tamperDetected (x0 : BitVec 4) (x1 : Bool) : Statement (.tamperDetected x0 x1) := fun _ h => nomatch h
theorem tamperClr (x0 : Path) (x1 : BitVec 8) : Statement (.tamperClr x0 x1) := by
  rintro h ⟨⟩; exact Bool.noConfusion h
theorem cmdRingEnable (x0 : Path) : Statement (.cmdRingEnable x0) := by
  rintro h ⟨⟩; exact Bool.noConfusion h
theorem cmdRingDisable (x0 : Path) : Statement (.cmdRingDisable x0) := by
  rintro h ⟨⟩; exact Bool.noConfusion h
theorem cmdTailWrite (x0 : Path) (x1 : BitVec 16) : Statement (.cmdTailWrite x0 x1) := by
  rintro h ⟨⟩; exact Bool.noConfusion h
theorem cplTailWrite (x0 : Path) (x1 : BitVec 16) : Statement (.cplTailWrite x0 x1) := by
  rintro h ⟨⟩; exact Bool.noConfusion h
theorem commandFetchComplete (x0 : List Byte) : Statement (.commandFetchComplete x0) := fun _ h => nomatch h
theorem pcieLinkLoss (x0 : Fin 5) : Statement (.pcieLinkLoss x0) := fun _ h => nomatch h
theorem pcieRequestRefused (x0 : Bool) : Statement (.pcieRequestRefused x0) := fun _ h => nomatch h
theorem msixHoldoffExpired (x0 : Fin 5) : Statement (.msixHoldoffExpired x0) := fun _ h => nomatch h
theorem streamEnable (x0 : Path) (x1 : Fin 8) : Statement (.streamEnable x0 x1) := by
  rintro h ⟨⟩; exact Bool.noConfusion h
theorem streamDisable (x0 : Path) (x1 : Fin 8) : Statement (.streamDisable x0 x1) := by
  rintro h ⟨⟩; exact Bool.noConfusion h
theorem rdPtrWrite (x0 : Path) (x1 : Fin 8) (x2 : BitVec 32) : Statement (.rdPtrWrite x0 x1 x2) := by
  rintro h ⟨⟩; exact Bool.noConfusion h
theorem streamBufferConfig (x0 : Path) (x1 : Fin 8) (x2 : Fin 3) (x3 : BitVec 32) : Statement (.streamBufferConfig x0 x1 x2 x3) := by
  rintro h ⟨⟩; exact Bool.noConfusion h
theorem streamRecordArrival (x0 : Fin 8) : Statement (.streamRecordArrival x0) := fun _ h => nomatch h
theorem streamRecordWritten (x0 : Fin 8) : Statement (.streamRecordWritten x0) := fun _ h => nomatch h
theorem stageTransfer (x0 : Fin 8) : Statement (.stageTransfer x0) := fun _ h => nomatch h
theorem streamIrqTimeout (x0 : Fin 8) : Statement (.streamIrqTimeout x0) := fun _ h => nomatch h
theorem parRead (x0 : BitVec 25) : Statement (.parRead x0) := fun _ h => nomatch h
theorem parWriteLowerHalf (x0 : BitVec 24) (x1 : BitVec 16) : Statement (.parWriteLowerHalf x0 x1) := fun _ h => nomatch h
theorem parWriteUpperHalf (x0 : BitVec 24) (x1 : BitVec 16) : Statement (.parWriteUpperHalf x0 x1) := fun _ h => nomatch h
theorem parFifoWrite (x0 : BitVec 16) : Statement (.parFifoWrite x0) := fun _ h => nomatch h
theorem commandFifoRead (x0 : Fin 2) : Statement (.commandFifoRead x0) := fun _ h => nomatch h
theorem parErrRead (x0 : Path) : Statement (.parErrRead x0) := by
  rintro h ⟨⟩; exact Bool.noConfusion h
theorem fifoResetWrite (x0 : Path) (x1 : Fin 2) (x2 : BitVec 8) : Statement (.fifoResetWrite x0 x1 x2) := by
  rintro h ⟨⟩; exact Bool.noConfusion h
theorem postedQueueDispatch (x0 : Fin 2) : Statement (.postedQueueDispatch x0) := fun _ h => nomatch h
theorem qspiRead (x0 : BitVec 32) (x1 : Nat) : Statement (.qspiRead x0 x1) := fun _ h => nomatch h
theorem qspiReadQuad (x0 : BitVec 32) (x1 : Nat) : Statement (.qspiReadQuad x0 x1) := fun _ h => nomatch h
theorem qspiWrite (x0 : BitVec 32) (x1 : List (BitVec 32)) (x2 : Bool) : Statement (.qspiWrite x0 x1 x2) := fun _ h => nomatch h
theorem qspiWriteQuad (x0 : BitVec 32) (x1 : List (BitVec 32)) (x2 : Bool) : Statement (.qspiWriteQuad x0 x1 x2) := fun _ h => nomatch h
theorem qspiReadStatus (x0 : Nat) : Statement (.qspiReadStatus x0) := fun _ h => nomatch h
theorem qspiBadInstruction (x0 : Byte) : Statement (.qspiBadInstruction x0) := fun _ h => nomatch h
theorem qspiErrRead (x0 : Path) : Statement (.qspiErrRead x0) := by
  rintro h ⟨⟩; exact Bool.noConfusion h
theorem nmtStart (x0 : Fin 2) (x1 : Fin 128) : Statement (.nmtStart x0 x1) := fun _ h => nomatch h
theorem nmtStop (x0 : Fin 2) (x1 : Fin 128) : Statement (.nmtStop x0 x1) := fun _ h => nomatch h
theorem nmtEnterPreoperational (x0 : Fin 2) (x1 : Fin 128) : Statement (.nmtEnterPreoperational x0 x1) := fun _ h => nomatch h
theorem nmtResetCommunication (x0 : Fin 2) (x1 : Fin 128) : Statement (.nmtResetCommunication x0 x1) := fun _ h => nomatch h
theorem nmtResetNode (x0 : Fin 2) (x1 : Fin 128) : Statement (.nmtResetNode x0 x1) := fun _ h => nomatch h
theorem sdoExpeditedDownload (x0 : BitVec 16) (x1 : Byte) (x2 : Option (Fin 4)) (x3 : BitVec 32) : Statement (.sdoExpeditedDownload x0 x1 x2 x3) := fun _ h => nomatch h
theorem sdoSegmentedDownloadInit (x0 : BitVec 16) (x1 : Byte) (x2 : Option (BitVec 32)) : Statement (.sdoSegmentedDownloadInit x0 x1 x2) := fun _ h => nomatch h
theorem sdoDownloadSegment (x0 : Bool) (x1 : List Byte) (x2 : Bool) : Statement (.sdoDownloadSegment x0 x1 x2) := fun _ h => nomatch h
theorem sdoUploadInitiate (x0 : BitVec 16) (x1 : Byte) : Statement (.sdoUploadInitiate x0 x1) := fun _ h => nomatch h
theorem sdoUploadSegment (x0 : Bool) : Statement (.sdoUploadSegment x0) := fun _ h => nomatch h
theorem sdoBlockDownload (x0 : List Byte) : Statement (.sdoBlockDownload x0) := fun _ h => nomatch h
theorem sdoBlockUpload (x0 : List Byte) : Statement (.sdoBlockUpload x0) := fun _ h => nomatch h
theorem sdoTimeout (x0 : Fin 2) : Statement (.sdoTimeout x0) := fun _ h => nomatch h
theorem sdoResponse (x0 : Fin 2) : Statement (.sdoResponse x0) := fun _ h => nomatch h
theorem usdoDownload (x0 : Fin 128) (x1 : BitVec 16) (x2 : Byte) (x3 : List Byte) : Statement (.usdoDownload x0 x1 x2 x3) := fun _ h => nomatch h
theorem usdoUpload (x0 : Fin 128) (x1 : BitVec 16) (x2 : Byte) : Statement (.usdoUpload x0 x1 x2) := fun _ h => nomatch h
theorem commandUpload (x0 : Fin 2) : Statement (.commandUpload x0) := fun _ h => nomatch h
theorem rpdoReceive (x0 : Fin 12) (x1 : List Byte) : Statement (.rpdoReceive x0 x1) := fun _ h => nomatch h
theorem syncReceive (x0 : Fin 2) : Statement (.syncReceive x0) := fun _ h => nomatch h
theorem tpdoEventTimer (x0 : Fin 12) : Statement (.tpdoEventTimer x0) := fun _ h => nomatch h
theorem tpdoInhibitExpired (x0 : Fin 12) : Statement (.tpdoInhibitExpired x0) := fun _ h => nomatch h
theorem heartbeatProduce (x0 : Fin 2) : Statement (.heartbeatProduce x0) := fun _ h => nomatch h
theorem heartbeatReceive (x0 : Fin 2) (x1 : Fin 128) : Statement (.heartbeatReceive x0 x1) := fun _ h => nomatch h
theorem heartbeatConsumerTimeout (x0 : Fin 8) : Statement (.heartbeatConsumerTimeout x0) := fun _ h => nomatch h
theorem emcyInhibitExpired (x0 : Fin 2) : Statement (.emcyInhibitExpired x0) := fun _ h => nomatch h
theorem canErrorDetected (x0 : Fin 2) (x1 : BitVec 9) (x2 : BitVec 9) (x3 : Bool) : Statement (.canErrorDetected x0 x1 x2 x3) := fun _ h => nomatch h
theorem canBusOffRecovery (x0 : Fin 2) : Statement (.canBusOffRecovery x0) := fun _ h => nomatch h
theorem nodeIdWrite (x0 : Path) (x1 : Fin 2) (x2 : BitVec 8) : Statement (.nodeIdWrite x0 x1 x2) := by
  rintro h ⟨⟩; exact Bool.noConfusion h
theorem errorFieldClear (x0 : Path) : Statement (.errorFieldClear x0) := by
  rintro h ⟨⟩; exact Bool.noConfusion h
theorem lssSwitchStateGlobal (x0 : Bool) : Statement (.lssSwitchStateGlobal x0) := fun _ h => nomatch h
theorem lssSwitchStateSelective (x0 : BitVec 32) (x1 : BitVec 32) (x2 : BitVec 32) (x3 : BitVec 32) : Statement (.lssSwitchStateSelective x0 x1 x2 x3) := fun _ h => nomatch h
theorem lssConfigureNodeId (x0 : Byte) : Statement (.lssConfigureNodeId x0) := fun _ h => nomatch h
theorem lssConfigureBitTiming (x0 : Byte) (x1 : Byte) : Statement (.lssConfigureBitTiming x0 x1) := fun _ h => nomatch h
theorem lssInquireIdentity (x0 : Fin 4) : Statement (.lssInquireIdentity x0) := fun _ h => nomatch h
theorem lssIdentifyRemoteSlave (x0 : BitVec 32) (x1 : BitVec 32) (x2 : BitVec 32) (x3 : BitVec 32) (x4 : BitVec 32) (x5 : BitVec 32) : Statement (.lssIdentifyRemoteSlave x0 x1 x2 x3 x4 x5) := fun _ h => nomatch h
theorem lssFastscan (x0 : BitVec 32) (x1 : Byte) (x2 : Byte) (x3 : Byte) : Statement (.lssFastscan x0 x1 x2 x3) := fun _ h => nomatch h
theorem enumReq (x0 : Path) : Statement (.enumReq x0) := by
  rintro h ⟨⟩; exact Bool.noConfusion h
theorem linkPortUp (x0 : Fin 2) : Statement (.linkPortUp x0) := fun _ h => nomatch h
theorem linkPortDown (x0 : Fin 2) (x1 : Byte) : Statement (.linkPortDown x0 x1) := fun _ h => nomatch h
theorem enumFrameReceive (x0 : BitVec 16) : Statement (.enumFrameReceive x0) := fun _ h => nomatch h
theorem ringSizeBroadcast (x0 : Byte) : Statement (.ringSizeBroadcast x0) := fun _ h => nomatch h
theorem lineBurstReceive (x0 : Fin 2) (x1 : List Byte) : Statement (.lineBurstReceive x0 x1) := fun _ h => nomatch h
theorem seamBurstReceive (x0 : Fin 2) (x1 : List Byte) : Statement (.seamBurstReceive x0 x1) := fun _ h => nomatch h
theorem fwdBurstReceive (x0 : Fin 2) (x1 : List Byte) : Statement (.fwdBurstReceive x0 x1) := fun _ h => nomatch h
theorem fwdRetBurstReceive (x0 : Fin 2) (x1 : List Byte) : Statement (.fwdRetBurstReceive x0 x1) := fun _ h => nomatch h
theorem ctrlBurstReceive (x0 : Fin 2) (x1 : Fin 128) (x2 : BitVec 16) (x3 : Bool) (x4 : Fin 128) (x5 : U32) : Statement (.ctrlBurstReceive x0 x1 x2 x3 x4 x5) := fun _ h => nomatch h
theorem throughBurst (x0 : Fin 2) (x1 : List Byte) : Statement (.throughBurst x0 x1) := fun _ h => nomatch h
theorem ackReceive (x0 : Byte) (x1 : BitVec 16) : Statement (.ackReceive x0 x1) := fun _ h => nomatch h
theorem nakReceive (x0 : Byte) (x1 : BitVec 16) : Statement (.nakReceive x0 x1) := fun _ h => nomatch h
theorem ackTimeout (x0 : Byte) : Statement (.ackTimeout x0) := fun _ h => nomatch h
theorem alignFrameReceive (x0 : Fin 2) (x1 : BitVec 32) (x2 : BitVec 32) (x3 : U64) (x4 : U64) (x5 : Bool) : Statement (.alignFrameReceive x0 x1 x2 x3 x4 x5) := fun _ h => nomatch h
theorem ringUnwrap (x0 : Fin 2) : Statement (.ringUnwrap x0) := fun _ h => nomatch h
theorem fwdOut (x0 : Path) (x1 : List Byte) : Statement (.fwdOut x0 x1) := by
  rintro h ⟨⟩; exact Bool.noConfusion h
theorem fwdIn (x0 : Path) : Statement (.fwdIn x0) := by
  rintro h ⟨⟩; exact Bool.noConfusion h
theorem memberOutSet (x0 : Path) : Statement (.memberOutSet x0) := by
  rintro h ⟨⟩; exact Bool.noConfusion h
theorem admissionGrant (x0 : Fin 128) : Statement (.admissionGrant x0) := fun _ h => nomatch h
theorem collectorFreeBroadcast (x0 : U32) : Statement (.collectorFreeBroadcast x0) := fun _ h => nomatch h
theorem powerReqWrite (x0 : Path) (x1 : BitVec 8) : Statement (.powerReqWrite x0 x1) := by
  rintro h ⟨⟩; exact Bool.noConfusion h
theorem onDelayExpired (x0 : Fin 12) : Statement (.onDelayExpired x0) := fun _ h => nomatch h
theorem railGood (x0 : Fin 12) (x1 : BitVec 16) : Statement (.railGood x0 x1) := fun _ h => nomatch h
theorem pgTimeoutExpired (x0 : Fin 12) (x1 : BitVec 16) : Statement (.pgTimeoutExpired x0 x1) := fun _ h => nomatch h
theorem dischargeExpired (x0 : Fin 12) : Statement (.dischargeExpired x0) := fun _ h => nomatch h
theorem railDischarged (x0 : Fin 12) (x1 : BitVec 16) : Statement (.railDischarged x0 x1) := fun _ h => nomatch h
theorem offTimeoutExpired (x0 : Fin 12) (x1 : BitVec 16) : Statement (.offTimeoutExpired x0 x1) := fun _ h => nomatch h
theorem railLost (x0 : Fin 12) (x1 : BitVec 16) : Statement (.railLost x0 x1) := fun _ h => nomatch h
theorem dirtyClr (x0 : Path) : Statement (.dirtyClr x0) := by
  rintro h ⟨⟩; exact Bool.noConfusion h
theorem deviceResetWrite (x0 : Path) (x1 : BitVec 32) : Statement (.deviceResetWrite x0 x1) := by
  rintro h ⟨⟩; exact Bool.noConfusion h
theorem bootRailLost (x0 : Fin 12) (x1 : BitVec 16) : Statement (.bootRailLost x0 x1) := fun _ h => nomatch h
theorem aonPowerOn (x0 : BitVec 4) : Statement (.aonPowerOn x0) := fun _ h => nomatch h
theorem resetRelease (x0 : Bool) (x1 : Bool) (x2 : BitVec 5) (x3 : Bool) (x4 : Bool) : Statement (.resetRelease x0 x1 x2 x3 x4) := fun _ h => nomatch h
theorem tjSample (x0 : BitVec 32) : Statement (.tjSample x0) := fun _ h => nomatch h
theorem bar0WindowRead (x0 : BitVec 24) (x1 : Nat) (x2 x3 : BitVec 4) : Statement (.bar0WindowRead x0 x1 x2 x3) := fun _ h => nomatch h
theorem pcieLinkUp (x0 : Fin 4) (x1 : Fin 9) (x2 : Bool) (x3 : Fin 6) (x4 : Fin 6) : Statement (.pcieLinkUp x0 x1 x2 x3 x4) := fun _ h => nomatch h
theorem canBusIdleResume (x0 : Fin 2) : Statement (.canBusIdleResume x0) := fun _ h => nomatch h
theorem neighbourLinkAbsent (x0 : Fin 128) (x1 : Bool) : Statement (.neighbourLinkAbsent x0 x1) := fun _ h => nomatch h
theorem modeRequestTakeUp : Statement .modeRequestTakeUp := fun _ h => nomatch h
theorem modeTransitionDone : Statement .modeTransitionDone := fun _ h => nomatch h
theorem parkEntry : Statement .parkEntry := fun _ h => nomatch h
theorem tbHoldover : Statement .tbHoldover := fun _ h => nomatch h
theorem holdoverExit : Statement .holdoverExit := fun _ h => nomatch h
theorem scanPeriodTick : Statement .scanPeriodTick := fun _ h => nomatch h
theorem rowTestStart : Statement .rowTestStart := fun _ h => nomatch h
theorem keySlotWiped : Statement .keySlotWiped := fun _ h => nomatch h
theorem secureWipeDone : Statement .secureWipeDone := fun _ h => nomatch h
theorem lcFusesBlown : Statement .lcFusesBlown := fun _ h => nomatch h
theorem commandFetch : Statement .commandFetch := fun _ h => nomatch h
theorem commandFetchError : Statement .commandFetchError := fun _ h => nomatch h
theorem qspiPortReset : Statement .qspiPortReset := fun _ h => nomatch h
theorem sdoAbortReceived : Statement .sdoAbortReceived := fun _ h => nomatch h
theorem lssActivateBitTiming : Statement .lssActivateBitTiming := fun _ h => nomatch h
theorem lssSwitchDelayExpired : Statement .lssSwitchDelayExpired := fun _ h => nomatch h
theorem lssInquireNodeId : Statement .lssInquireNodeId := fun _ h => nomatch h
theorem lssIdentifyNonConfigured : Statement .lssIdentifyNonConfigured := fun _ h => nomatch h
theorem lssStoreConfiguration : Statement .lssStoreConfiguration := fun _ h => nomatch h
theorem enumTimeout : Statement .enumTimeout := fun _ h => nomatch h
theorem ackSendTimer : Statement .ackSendTimer := fun _ h => nomatch h
theorem alignExchangeTick : Statement .alignExchangeTick := fun _ h => nomatch h
theorem rootAlignAbsent : Statement .rootAlignAbsent := fun _ h => nomatch h
theorem alignLostTimeout : Statement .alignLostTimeout := fun _ h => nomatch h
theorem admissionRequest : Statement .admissionRequest := fun _ h => nomatch h
theorem joiningTimeout : Statement .joiningTimeout := fun _ h => nomatch h
theorem collectorFreeTimeout : Statement .collectorFreeTimeout := fun _ h => nomatch h
theorem collapseStep : Statement .collapseStep := fun _ h => nomatch h
theorem resetNAsserted : Statement .resetNAsserted := fun _ h => nomatch h
theorem supplyLow : Statement .supplyLow := fun _ h => nomatch h
theorem aonPowerFail : Statement .aonPowerFail := fun _ h => nomatch h
theorem bootRailTimeout : Statement .bootRailTimeout := fun _ h => nomatch h
theorem bootRetryDelay : Statement .bootRetryDelay := fun _ h => nomatch h
theorem startUpComplete : Statement .startUpComplete := fun _ h => nomatch h
theorem lowVoltageCheckArmed : Statement .lowVoltageCheckArmed := fun _ h => nomatch h

end Sys2Proof.Laws.Sender
end

