-- ==== Sys2Proof/Laws/Write.lean ====
section
/-! SUPPORT. A write that passes the checks runs its effect and nothing else. -/
namespace Sys2Proof.Machine

open Prog

/-- The update is none of a command channel. -/
def Op.leavesCmds : Op → Bool
  | .cmd .. | .clearState _ => false
  | _ => true

theorem Prog.run_cmdOf {p : Prog} (h : p.All fun o => o.leavesCmds = true) (s : State) (k : Nat) : (p.run s).cmd k = s.cmd k := by
  refine Prog.run_rel (R := fun a b => b.cmd k = a.cmd k) (fun _ => rfl) (fun f g => g.trans f) (fun o s ho => ?_) p h s
  exact State.cmd_frame ⟨fun k r e => by simp [e, Op.leavesCmds] at ho, fun f e => by simp [e, Op.leavesCmds] at ho⟩

/-- Where no record is held, nothing follows a program that leaves the command channels alone. -/
theorem settled_run {p : Prog} {s : State} (h : p.All fun o => o.leavesCmds = true) (h3 : (s.cmd 3).held = [])
    (h4 : (s.cmd 4).held = []) (h5 : (s.cmd 5).held = []) : (settled p).run s = p.run s := by
  simp only [settled, run_seq, run_ask, run_cmdOf h, h3, h4, h5]
  rfl

theorem submit_ok {s : State} {q : WriteReq} {k : Verdict → Prog} (h : (verdict s q).st = .ok)
    (hm : ∀ e w, q.ents = [(e, w)] → e.name ≠ .modeReq) (hr : (q.ents.any fun x => x.1.name = .deviceReset) = false) :
    (submit q k).run s = (k (verdict s q)).run ((applyWrite q).run s) := by
  simp only [submit, run_ask, h]
  split
  · next j i w heq => exact absurd rfl (hm _ _ heq)
  · rw [if_neg (by rw [hr]; simp)]; rfl

/-- A write that passes the checks is applied, and nothing follows it. -/
theorem writeRow_takes {s : State} {p : Path} {e : Ent} {w : U32} (h : Takes s p e w) (hm : e.name ≠ .modeReq) (hr : e.name ≠ .deviceReset)
    (hc : ∀ k, (((applyWrite { path := p, ents := [(e, w)] }).run s).cmd k) = s.cmd k) :
    (writeRow p e w).run s = (applyWrite { path := p, ents := [(e, w)] }).run s := by
  have hw : (writeEnt p .plain e w).run s = (applyWrite { path := p, ents := [(e, w)] }).run s := by
    unfold writeEnt
    rw [submit_ok h.ok (by intro e' w' he; simp at he; rw [← he.1]; exact hm) (by simpa using hr)]
    simp [noteRefusal, h.ok]
  simp only [writeRow, Prog.live, run_ask, h.live, h.up, run_when, if_true]
  simp only [settled, run_seq, run_ask, hw, hc, h.held3, h.held4, h.held5]
  rfl

/-- A write that no chapter gives a form of its own: its value is taken, then its effect runs. -/
theorem applyWrite_plain (p : Path) (e : Ent) (w : U32) (s : State) (hi : idleWrite s e w = false)
    (h : e.name ≠ .claim ∧ e.name ≠ .levelKey ∧ e.name ≠ .restoreDefaults) :
    (applyWrite { path := p, ents := [(e, w)] }).run s =
      (writeEffect p e (masked e.name w) (s.rd e.name e.inst e.item)).run
        ((takeValue { path := p } e w).run ((streamBefore e.name e.inst).run ((timerBefore e.name e.inst).run s))) := by
  obtain ⟨n, j, i⟩ := e
  simp only [applyWrite, run_ask, List.filter, hi, Bool.not_false, all_cons, all_nil, each_cons, each_nil, run_seq, run_nop]
  split
  · exact absurd rfl h.1
  · exact absurd rfl h.2.1
  · exact absurd rfl h.2.2
  · rfl

end Sys2Proof.Machine
end

