-- ==== Sys2Proof/Tests/Slice0.lean ====
section
/-! SUPPORT. Tests: states that meet the hypotheses of the statements, small checks of single steps against the spec, and ill-formed
commands that WellFormed refuses. -/
namespace Sys2Proof.Tests

open Sys2Proof.Machine

-- One proof at a time: many kernel evaluations at once would need more memory than a check has.
set_option Elab.async false

/-! ### States -/

/-- The X9 in service after reset. -/
def live0 : State := { State.reset with phase := .live }
/-- A state with one entry changed. -/
def with1 (s : State) (n : Name) (j i : Nat) (v : U32) : State := (Op.put n j i v).apply s
/-- A state with an island's fence logic changed. -/
def withIsland (i : Nat) (r : Island) : State := (Op.island i r).apply live0
def fencedAt (i : Nat) : State := withIsland i { st := .fenced, cause := 1 }
def comingAt (i : Nat) : State := with1 (withIsland i { coming := some (1, 0) }) .fenceReq 0 i 1
def lockingAt (i : Nat) : State := withIsland i { st := .locking, cause := 1 }
def syncingAt (i n : Nat) : State := withIsland i { st := .syncing, cause := 1, attempts := n }
def waitingAt (i : Nat) : State := withIsland i { st := .waiting, cause := 1 }
def withMode (s : State) (m : Modes) : State := { s with modes := m }
/-- P3 has an expert grant. -/
def granted3 (s : State) : State := with1 s .levelGranted 0 0 0x48
def inScan : State := withMode live0 { mode := .scan }
def pendingFrom (p : Path) : State := withMode live0 { pendingReq := some { path := p, mode := .scan, origin := .plain } }
/-- The managed rails are up. -/
def seqOn : State := with1 live0 .seqState 0 0 3
def withHead (s : State) (h : Nat) (r : Head) : State := (Op.head h r).apply s
def withLine (s : State) (h : Nat) (r : LineUnit) : State := (Op.lineUnit h r).apply s
/-- Head 0 enabled in SCAN, in a state and with a trigger source. -/
def headAt (st src : Nat) : State := with1 (with1 (with1 inScan .headEn 0 0 1) .headState 0 0 (u32 st)) .trigSrc 0 0 (u32 src)
def playing (st : Nat) : State := withHead (headAt st 1) 0 { cur := some { number := 7 } }
/-- Head 0 plays a pattern whose first step is a word. -/
def pattern (w : Nat) : State := (Op.bytes (patternBase 0) (leBytes 4 w)).apply (with1 (playing 3) .segLen 0 0 1)
def lanes0 : State := (Op.lane 0 { colour := some 2, discard := false }).apply
  (with1 (with1 (playing 3) .videoSrc 0 0 1) .laneState 0 0 1)
def queued0 (q : List LineItem) : State := withLine live0 0 { queue := q, page := some {} }
/-- The right seam of head 0 blends and waits for head 1. -/
def seamWaits (l : List (Bool × SeamData)) : State :=
  withLine (with1 (with1 live0 .seamRRole 0 0 1) .seamRPartner 0 0 1) 0 { queue := [.line { number := 7 }], seamIn := l }
/-- Head 0 in CALIBRATE with its calibration bank, in a calibration state. -/
def calHead (st : Nat) : State := with1 (with1 (with1 (with1 (with1 (withMode (headAt 1 1) { mode := .calibrate }) .calBank 0 0 0) .owner 0 0 0x10)
  .bankState 0 0 2) .pixels 0 0 16) .calState 0 0 (u32 st)
def covered : State := withHead (with1 inScan .coverEn 0 0 1) 0 { coverPin := true, coverRuns := true }
def allLocked : State := { State.reset with seqr := { locks := List.range 13 } }
def withAxis (s : State) (a : Nat) (x : Axis) : State := (Op.axis a x).apply s
/-- Axis 2 in SCAN in a state, with mode REF, its position known. -/
def axisAt (st : Nat) : State := with1 (with1 (with1 inScan .axisMode 2 0 2) .axisStatus 2 0 0) .axisState 2 0 (u32 st)
def moving (g : Goal) : State := withAxis (axisAt 2) 2 { goal := g, vel := 100000 }
/-- Axis 2 in FAULT by STALL, its encoder 100 units away. -/
def stalled : State := with1 (with1 (with1 (with1 (axisAt 5) .encEn 2 0 1) .devWin 2 0 50) .encPos 2 0 100) .axisFaultCause 2 0 (u32 Event.stall.code)
/-- The paced feed of head 0 and axis 0 in a pacing state and an axis state. -/
def paced (st ax : Nat) : State := with1 (with1 (with1 (with1 inScan .paceState 0 0 (u32 st)) .axisState 0 0 (u32 ax)) .rulingAxis 0 0 0) .endTarget 0 0 500
def withString (s : State) (k : Nat) (x : LStr) : State := (Op.lstr k x).apply s
/-- String 1 in SCAN in a state. -/
def stringAt (st : Nat) : State := with1 (with1 inScan .stringState 1 0 (u32 st)) .stringEn 1 0 (if st = 1 ∨ st = 2 then 1 else 0)
/-- Strings 1, 5 and 6 of group 3: string 1 in FAULT, 5 and 6 held. -/
def grouped : State := with1 (with1 (with1 (with1 (with1 (stringAt 4) .illumGroup 1 0 3) .illumGroup 5 0 3) .illumGroup 6 0 3) .stringState 5 0 5)
  .stringState 6 0 5
/-- Matrix string 1 with lamps 5 and 40. -/
def lamps (st : Nat) : State := with1 (with1 (with1 (with1 (stringAt st) .matrixEn 1 0 1) .lampMask 1 0 0x20) .lampMask 1 1 0x100) .checkScan 1 0 1
/-- String 1 lit and at 200 degrees by scan-list entry 9. -/
def hotString : State := with1 (with1 (with1 (stringAt 2) .lsTempSrc 1 0 9) .heathValue 0 9 0x43480000) .tShut 1 0 0x42C80000
/-- Heath in a state, with entry 3 of the scan list on SDC0, plain, linear, without polynomial or cold junction. -/
def listed (st : Nat) : State := with1 ((Op.bytes (scanListAt + 96) ([1, 0, 0, 0, 0, 0, 0, 0xFF, 0, 0, 0xFF, 0xFF] ++ leBytes 4 0x3F800000)).apply live0)
  .heathState 0 0 (u32 st)
/-- The same with an odd input on a differential entry. -/
def badList (st : Nat) : State := (Op.bytes (scanListAt + 97) [5]).apply (listed st)
def withConv (k : Nat) (c : Conv) : State := (Op.conv k c).apply (listed 1)
def result3 : HResult := { entry := 3, time := 5, pass := 0, urgent := false, late := false, code := 4194304, code2 := 0, quad := 0, e1 := 0, e2 := 0, opened := false, free := false, isrc := 0, tconv := 0 }
/-- Timer channel 9 in a state. -/
def timerAt (st : Nat) : State := with1 live0 .tmrState 9 0 (u32 st)
/-- Timer channel 9 with period 5, ten ticks after a time. -/
def rolling (a : Nat) : State := { (Op.timer 9 { period := 5, since := a }).apply (timerAt 2) with time := BitVec.ofNat 64 (a + 100) }
/-- Bank 3 in a state, its power requested. -/
def bankAt (st : Nat) : State := with1 (with1 live0 .bankState 3 0 (u32 st)) .bankPowerReq 3 0 (if st = 4 then 1 else 2)
/-- Stream 2 in a state, with a buffer of 4,096 bytes. -/
def streamAt (st : Nat) (x : Machine.Stream) : State := (Op.stream 2 x).apply (with1 (with1 live0 .bufLog2 2 0 12) .streamState 2 0 (u32 st))
def full (x : Machine.Stream) : State := with1 (streamAt 1 x) .wrPtr 2 0 64
def rec64 : List Byte := List.replicate 64 0
def pcieUp (s : State) : State := with1 s .linkStatus 0 0 0x3013
/-- The command ring runs, with one command to fetch. -/
def ringUp (r : Ring) : State := { with1 (with1 (pcieUp live0) .ringState 0 0 1) .cmdTail 0 0 1 with ring := r }
/-- A record of HOST_SEQ 0 with an opcode, an entry, a LENGTH and data. -/
def rec (op idx sub len : Nat) (data : List Byte) : CmdRecord :=
  { hostSeq := 0, opcode := BitVec.ofNat 8 op, flags := 0, index := BitVec.ofNat 16 idx, sub := BitVec.ofNat 8 sub, length := BitVec.ofNat 8 len,
    expEpoch := 0, data := data }
/-- Bank 3 belongs to P3. -/
def ownBank : State := with1 live0 .owner 3 0 3
/-- DOMAIN_READ of SCAN_LIST to bank 3 at 16, at most 256 bytes. -/
def bankRead : CmdRecord := { rec 4 0x5900 1 12 ([3, 0, 0, 0] ++ leBytes 4 16 ++ leBytes 4 256) with flags := 2 }
def withPort (k : Nat) (x : Port) : State := (Op.port k x).apply live0

def withCtrl (s : State) (x : Nat) (c : Ctrl) : State := (Op.ctrl x c).apply s
/-- Both controllers are node 5 and OPERATIONAL. -/
def node5 : State := with1 (with1 (with1 (with1 (with1 (with1 inScan .nodeId 0 0 5) .nodeIdNow 0 0 5) .nodeId 1 0 5) .nodeIdNow 1 0 5) .nmtState 0 0 5)
  .nmtState 1 0 5
def hostFenced (s : State) : State := (Op.island islHost { st := .fenced, cause := 1 }).apply s
/-- LSS is in the configuration state. -/
def configuring (s : State) : State := withCtrl s 0 { lssConfig := true }

/-- A transfer of the SDO server is under way. -/
def sdoIn (x : Xfer) : State := withCtrl node5 0 { xfer := some x }

/-- One unread and one returned completion on P3 and on P4. -/
def uploads : State := { node5 with unreads := [(3, [rec64]), (4, [rec64])], fwdIns := [(3, [rec64]), (4, [rec64])] }

def withPdo (s : State) (k : Nat) (x : Pdo) : State := (Op.pdo k x).apply s
/-- RPDO2 writes V_MAX of axis 0 on receipt. -/
def rpdoVMax : State := with1 (with1 (with1 (with1 node5 .rpdoCobId 1 0 0x300) .rpdoMapCount 1 0 1) .rpdoMap 1 0 0x26000620) .rpdoType 1 0 255
/-- Node 9 of CAN-A is lost. -/
def lostNode : State := { node5 with net := { lost := [(0, 9)] } }
/-- Entry 3 of [1016] consumes node 9 of CAN-A, with an HB_ACTION. -/
def consumes (a : U32) : State := with1 (with1 node5 .consumerHb 0 2 0x90064) .hbAction 0 0 a

/-- The root of a Link ring, both ports UP. -/
def rootX9 : State := with1 (with1 (with1 live0 .isRoot 0 0 1) .portState 0 0 2) .portState 1 0 2
def withLink (s : State) (l : Machine.Link) : State := (Op.link l).apply s
/-- An enumeration gave the tentative number 0. -/
def numbering (s : State) : State := withLink s { enumerating := true, enumerated := true, tentative := some 0 }
/-- Member 2 of a ring of five, ACTIVE, both ports UP. -/
def member2 : State := with1 (with1 (with1 (with1 (with1 live0 .portState 0 0 2) .portState 1 0 2) .member 0 0 2) .ringSize 0 0 5) .memberState 0 0 1

/-- A burst of an origin to member 2, from the layout of the link header and its CRC. -/
def burst (seq kind src : Nat) (payload : List Byte) : List Byte := withTrailer (burstBody seq kind src 2 0 7 0 (padTo 8 payload))
/-- The payload of a forwarded request of a kind, a WRITE of 7 to an entry. -/
def fwdBody (kind idx sub : Nat) : List Byte := [0xFF] ++ leBytes 1 kind ++ [0, 0] ++ leBytes 2 0 ++ [2, 0] ++ leBytes 2 idx ++ leBytes 1 sub
  ++ leBytes 1 4 ++ List.replicate 8 0 ++ [7] ++ List.replicate 47 0
/-- One burst to member 5 lies in the replay window. -/
def sentOnce : State := withLink live0 { nextSeq := [(5, 1)], logE := [{ dst := 5, seq := 0, size := 64, bytes := rec64 }] }

theorem burst_taken : ∃ b, burstOf (burst 0 3 5 (fwdBody 0 0x2000 5)) = some b ∧ b.seq = 0 ∧ b.kind = 3 ∧ b.src = 5 ∧ b.void = false
    ∧ (parseRecord (b.payload.drop 4)).opcode = 2 ∧ lookupRun .p5 (parseRecord (b.payload.drop 4)).index.toNat 5 1 = .ok [{ name := .calMaxAge }]
    ∧ (parseRecord (b.payload.drop 4)).dataAt 0 4 = 7 :=
  ⟨_, burstOf_withTrailer _ (by decide +kernel), by decide +kernel, by decide +kernel, by decide +kernel, by decide +kernel, by decide +kernel,
    by decide +kernel, by decide +kernel⟩

/-- Twelve managed rails, in a state of the sequencer at a level. -/
def railsAt (st level : Nat) (step : Option SeqStep) : State :=
  (Op.seqr { level := level, step := step }).apply (with1 (with1 live0 .railMask 0 0 0xFFF) .seqState 0 0 (u32 st))
def collapsing : State := (Op.seqr { level := 3, drops := [2, 1], watch := [3] }).apply (railsAt 5 3 none)
/-- Device reset is held. -/
def held (q : Seqr) : State := (Op.phase .held).apply ((Op.seqr q).apply live0)

/-- The state that a command leads to. -/
def after (c : Instr) (s : State) : State :=
  match exec c s with
  | .next t => t
  | _ => s
/-- The hypotheses of a write that passes, as one computation. -/
def takesB (s : State) (p : Path) (e : Ent) (w : U32) : Bool :=
  s.live && pathUp s p && decide ((verdict s { path := p, ents := [(e, w)] }).st = .ok) && decide ((s.cmd 3).held = [])
    && decide ((s.cmd 4).held = []) && decide ((s.cmd 5).held = [])

theorem tk {s : State} {p : Path} {e : Ent} {w : U32} (h : takesB s p e w = true) : Takes s p e w := by
  simp only [takesB, Bool.and_eq_true, decide_eq_true_eq] at h
  exact ⟨h.1.1.1.1.1, h.1.1.1.1.2, h.1.1.1.2, h.1.1.2, h.1.2, h.2⟩

/-- The hypotheses of a write that the checks refuse, as one computation. -/
def refusesB (s : State) (p : Path) (e : Ent) (w : U32) (st : Status) : Bool :=
  s.live && pathUp s p && decide ((verdict s { path := p, ents := [(e, w)] }).st = st) && decide (st ≠ .ok) && decide ((s.cmd 3).held = [])
    && decide ((s.cmd 4).held = []) && decide ((s.cmd 5).held = [])

theorem rf {s : State} {p : Path} {e : Ent} {w : U32} {st : Status} (h : refusesB s p e w st = true) : Refuses s p e w st := by
  simp only [refusesB, Bool.and_eq_true, decide_eq_true_eq] at h
  exact ⟨h.1.1.1.1.1.1, h.1.1.1.1.1.2, h.1.1.1.1.2, h.1.1.1.2, h.1.1.2, h.1.2, h.2⟩

/-! ### States and operands that meet the statements' hypotheses -/

theorem witness_AnEmptyQueueLetsTimePass : State.reset.pending = [] := rfl

theorem witness_NoCommandTouchesTheQueue : exec .parkEntry live0 = .next ((Prog.live (settled parkEntry)).run live0) := rfl

theorem witness_EveryStepKeepsTheInvariant : State.Inv live0 ∧ step live0 = .next { live0 with time := live0.time + 10 } :=
  ⟨⟨by decide +kernel, by decide +kernel, by decide +kernel, by decide, by decide, by decide, by decide, by decide, by simp [live0, State.reset]⟩, rfl⟩

theorem witness_RefusedWritesLeaveTheRest :
    (lookup 0x2000 2 = .ok { name := .modeNow } ∧ notForPath .p3 { name := .modeNow } = false
      ∧ Refuses live0 .p3 { name := .modeNow } 0 .readOnly)
    ∧ (lookup 0x2400 2 = .ok { name := .pixels } ∧ notForPath .p3 { name := .pixels } = false ∧ isDomain { name := .pixels } = false
      ∧ isCommand { name := .pixels } = false ∧ live0.live = true ∧ pathUp live0 .p3 = true ∧ NoHeld live0)
    ∧ Refuses (with1 live0 .claim 0 1 4) .p3 { name := .headEn, inst := 1 } 1 .claimed := by
  refine ⟨⟨by decide +kernel, rfl, ?_⟩, by decide +kernel, ?_⟩ <;> exact ⟨rfl, rfl, by decide +kernel, by decide, rfl, rfl, rfl⟩

theorem witness_ChecksComeInTheirOrder :
    accessOf { name := .modeNow } ∉ [Access.rw, .rwp, .wo]
    ∧ (isExpert { name := .lcAdvance } = true ∧ live0.granted .p3 = false ∧ accessOf { name := .lcAdvance } ∈ [Access.rw, .rwp, .wo])
    ∧ ((with1 live0 .claim 0 1 4).holderOf 2 = 4 ∧ ({ name := .headEn, inst := 1 } : Ent).unit = some 2)
    ∧ (({ name := .headEn, inst := 1 } : Ent).holder = some 1 ∧ (fencedAt 1).fenced 1 = true)
    ∧ (accessOf { name := .calMaxAge } = .rwp ∧ inScan.preparing = false) := by decide +kernel

theorem witness_NoGrantNoExpertEntry : live0.granted .p3 = false ∧ lookup 0x3B02 1 = .ok { name := .lcAdvance }
    ∧ isExpert { name := .lcAdvance } = true ∧ (live0.cmd 3).held = [] := by decide +kernel

theorem witness_DictionaryAndClaimWritesComplete :
    (lookup 0x2400 2 = .ok { name := .pixels } ∧ notForPath .p3 { name := .pixels } = false ∧ accessOf { name := .pixels } = .rwp
      ∧ idleWrite live0 { name := .pixels } 0x8000 = false ∧ Takes live0 .p3 { name := .pixels } 0x8000)
    ∧ Takes live0 .p4 { name := .levelKey } 0
    ∧ (Takes live0 .p3 { name := .claim, item := 55 } 3 ∧ live0.rd .claim 0 55 = 0xFF)
    ∧ (Takes (with1 live0 .claim 0 0 3) .p3 { name := .claim, item := 0 } 0xFF ∧ (with1 live0 .claim 0 0 3).rdN .claim 0 0 = 3)
    ∧ (Takes (with1 (with1 live0 .claim 0 7 4) .levelGranted 0 0 0x48) .p3 { name := .claim, item := 7 } 0xFF
      ∧ (with1 (with1 live0 .claim 0 7 4) .levelGranted 0 0 0x48).rdN .claim 0 7 = 4)
    ∧ Takes live0 .p0 { name := .errorCount } 0 :=
  ⟨⟨by decide +kernel, by decide +kernel, by decide +kernel, by decide +kernel, tk (by decide +kernel)⟩, tk (by decide +kernel),
    ⟨tk (by decide +kernel), by decide +kernel⟩, ⟨tk (by decide +kernel), by decide +kernel⟩,
    ⟨tk (by decide +kernel), by decide +kernel⟩, tk (by decide +kernel)⟩

theorem witness_WrongKeysClearTheGrant : ((∃ v : U32, v ≠ 0 ∧ v ≠ Config.levelKey) ∧ live0.live = true ∧ pathUp live0 .p3 = true
      ∧ live0.fenced islHost = false ∧ NoHeld live0)
    ∧ Refuses (fencedAt 6) .p3 { name := .levelKey } 5 .unitAbsent := by
  refine ⟨⟨?_, by decide +kernel⟩, rfl, by decide +kernel, by decide +kernel, by decide, rfl, rfl, rfl⟩
  by_cases h : Config.levelKey = 1
  · exact ⟨2, by decide, by rw [h]; decide⟩
  · exact ⟨1, by decide, fun e => h e.symm⟩

theorem witness_ClaimedUnitsAreRefused : (with1 live0 .claim 0 55 4).rdN .claim 0 55 = 4 ∧ (with1 live0 .claim 0 55 4).live = true
    ∧ pathUp (with1 live0 .claim 0 55 4) .p3 = true ∧ (with1 live0 .claim 0 55 4).granted .p3 = false := by decide +kernel

theorem witness_RestoresAndMirrorsComplete : Takes live0 .p3 { name := .restoreDefaults } 0x64616F6C
    ∧ (lookup 0x2000 5 = .ok { name := .calMaxAge } ∧ ({ name := .calMaxAge } : Ent).pushUnit = none
      ∧ lookup 0x2460 2 = .ok { name := .pixels, inst := 3 } ∧ ({ name := .pixels, inst := 3 } : Ent).pushUnit = some 4
      ∧ lookup 0x2002 4 = .ok { name := .epoch, item := 3 } ∧ ({ name := .epoch, item := 3 } : Ent).pushUnit = some 4
      ∧ ({ name := .pixels, inst := 3 } : Ent) ∈ unitEnts 4
      ∧ ∀ y ∈ unitEnts 4, y.key = ({ name := .pixels, inst := 3 } : Ent).key → y = { name := .pixels, inst := 3 })
    ∧ (∀ i, live0.fenced i = false) ∧ Running live0 islHost
    ∧ (after (.dictionaryWrite .p3 0x2400 2 0x8000 0xF) live0).groupSeq 4 ≠ none :=
  ⟨tk (by decide +kernel), by decide +kernel, fun _ => rfl, by decide, by decide +kernel⟩

/-- A request of P3 that reached arbitration in the present HOST cycle waits. -/
def pendingNow (p : Path) : State := withMode live0 { pendingReq := some { path := p, mode := .scan, origin := .plain, since := live0.time.toNat } }

theorem witness_ModeRequestsWaitToBeTakenUp : (∀ w : Fin 4, Takes live0 .p5 { name := .modeReq } (u32 w)) ∧ live0.fenced islHost = false
    ∧ (Takes (pendingNow .p3) .p5 { name := .modeReq } 2
      ∧ outranks { path := .p3, mode := .scan, origin := .plain } { path := .p5, mode := .scan, origin := .plain } = false)
    ∧ (Takes (pendingNow .p5) .p0 { name := .modeReq } 2
      ∧ outranks { path := .p5, mode := .scan, origin := .plain } { path := .p0, mode := .scan, origin := .plain } = true)
    ∧ live0.modes.mode = .prepare :=
  ⟨fun w => tk (by revert w; decide +kernel), rfl, ⟨tk (by decide +kernel), by decide⟩, ⟨tk (by decide +kernel), by decide⟩, rfl⟩

theorem witness_ModeTransitionsComplete :
    (let s := withMode seqOn { pendingReq := some { path := .p3, mode := .calibrate, origin := .plain } };
      Running s islHost ∧ NoHeld s ∧ s.modes.haltLines = [] ∧ modeCheck s .calibrate = .ok)
    ∧ (let s := withMode seqOn { pendingReq := some { path := .p3, mode := .calibrate, origin := .plain }, haltLines := [.railLost] };
      Running s islHost ∧ NoHeld s ∧ s.modes.mode ≠ .park)
    ∧ ((withMode seqOn { target := some .calibrate }).transitionReady .calibrate = true
      ∧ (withMode seqOn { target := some .calibrate }).fenced islSeq = false)
    ∧ (withMode live0 { mode := .scan, haltLines := [.railLost] }).modes.mode = .scan
    ∧ (withMode live0 { mode := .scan, parkReq := [{ path := .p3, mode := .park, origin := .plain }] }).live = true := by
  decide +kernel

theorem witness_ModeChecksHold : (fencedAt 13).fenced islSeq = true ∧ (live0.fenced islSeq = false ∧ live0.rdN .seqState ≠ 3)
    ∧ live0.calValid = false ∧ (withMode live0 { mode := .park }).parkHeld = false := by decide +kernel

theorem witness_FenceRequestsComplete :
    (Takes (granted3 live0) .p3 { name := .fenceReq, item := 14 } 1 ∧ live0.rd .fenceReq 0 14 ≠ 1 ∧ (live0.island 14).coming = none)
    ∧ (Takes (granted3 (with1 (fencedAt 0) .fenceReq 0 0 1)) .p3 { name := .fenceReq, item := 0 } 0 ∧ ((fencedAt 0).island 0).st = .fenced)
    ∧ (Takes (granted3 (comingAt 4)) .p3 { name := .fenceReq, item := 4 } 0 ∧ ((comingAt 4).island 4).coming ≠ none)
    ∧ (live0.live = true ∧ (live0.island 6).st = .running)
    ∧ (NoHeld live0 ∧ (live0.island 0).st = .running ∧ pathUp live0 .p3 = true ∧ lookup 0x2400 2 = .ok { name := .pixels }
      ∧ notForPath .p3 { name := .pixels } = false ∧ stepWindow .p3 { name := .pixels } = .ok ∧ stepAccess { name := .pixels } = .ok
      ∧ stepLevel live0 .p3 { name := .pixels } = .ok ∧ stepClaim live0 .p3 { name := .pixels } 64 = .ok
      ∧ ({ name := .pixels } : Ent).holder = some 0) :=
  ⟨⟨tk (by decide +kernel), by decide +kernel⟩, ⟨tk (by decide +kernel), by decide +kernel⟩,
    ⟨tk (by decide +kernel), by decide +kernel⟩, by decide +kernel, by decide +kernel⟩

/-- Sixteen samples of an island's time, equal to SEQ's count. -/
def samples16 : List (U64 × U64) := (List.range 16).map fun k => (BitVec.ofNat 64 (1000 + 100 * k), BitVec.ofNat 64 (1000 + 100 * k))

theorem witness_FencesAndReadmissionsComplete :
    (comingAt 4).live = true ∧ ((comingAt 4).island 4).coming = some (1, 0) ∧ State.reset.phase = .starting
    ∧ ((lockingAt 14).live = true ∧ ((lockingAt 14).island 14).st = .locking)
    ∧ (((syncingAt 3 1).island 3).st = .syncing ∧ ((syncingAt 3 1).island 3).attempts < 2 ∧ 2 ≤ ((syncingAt 3 2).island 3).attempts
      ∧ syncConsistent 3 samples16 = true ∧ syncConsistent 3 (samples16.drop 1) = false)
    ∧ (((waitingAt 5).island 5).st = .waiting ∧ NoHeld (waitingAt 5)) ∧ live0.phase ≠ .unpowered
    ∧ (allLocked.phase = .starting ∧ (∀ i < 13, i ∈ allLocked.seqr.locks) ∧ allLocked.fenced islHost = false) := by
  refine ⟨by decide, by decide, by decide, by decide, by decide +kernel, ⟨by decide, by decide⟩, by decide, by decide⟩

theorem witness_HeadWritesComplete :
    (Takes live0 .p3 { name := .headEn, inst := 3 } 1 ∧ live0.rd .headState 3 = 0 ∧ live0.modes.mode ≠ .scan)
    ∧ (Takes (headAt 0 4) .p3 { name := .headEn, inst := 0 } 1 ∧ (headAt 0 4).modes.mode = .scan ∧ (headAt 0 4).modes.target = none)
    ∧ (Takes (headAt 3 4) .p3 { name := .headEn, inst := 0 } 0 ∧ (headAt 3 4).rd .headState 0 ≠ 0)
    ∧ (∀ k : Fin 3, Takes (headAt (2 + k) 4) .p1 { name := .hostTrig, inst := 0 } 1 ∧ (headAt (2 + k) 4).lineKind 0 = 0
      ∧ (headAt (2 + k) 4).fenced 0 = false ∧ ((headAt (2 + k) 4).head 0).leaving = false) :=
  ⟨⟨tk (by decide +kernel), by decide +kernel⟩, ⟨tk (by decide +kernel), by decide +kernel⟩, ⟨tk (by decide +kernel), by decide +kernel⟩,
    fun k => ⟨tk (by revert k; decide +kernel), by revert k; decide +kernel⟩⟩

theorem witness_LinesStartAndEnd :
    (∀ k : Fin 3, (headAt (2 + k) 1).live = true ∧ (headAt (2 + k) 1).rdN .trigSrc 0 = 1 ∧ (headAt (2 + k) 1).rdN .trigBusLine 0 = 0
      ∧ (headAt (2 + k) 1).fenced islTimer = false ∧ (headAt (2 + k) 3).rdN .trigSrc 0 = 3)
    ∧ ((headAt 2 2).rd .headState 0 = 2 ∧ (256 * ((headAt 2 2).head 0).next : Nat) ≤ (headAt 2 2).rulingAhead 0 ((headAt 2 2).rulingL 0 0)
      ∧ ((headAt 2 2).axis ((headAt 2 2).rdN .rulingAxis 0)).readmitted = false ∧ (headAt 2 2).fenced islMotion = false)
    ∧ (with1 (with1 (headAt 2 2) .encEn 0 0 1) .axisMode 0 0 2).encAxis ((headAt 2 2).rdN .rulingAxis 0) = true
    ∧ (((playing 3).head 0).cur = some { number := 7 } ∧ ((playing 3).head 0).pendAt = none ∧ (playing 3).scanFull 0 = false
      ∧ ((playing 3).head 0).skipping = false ∧ (playing 3).fenced islLine = false)
    ∧ ((withHead (playing 4) 0 { cur := some { number := 7 }, pendAt := some (0, false) }).head 0).pendAt ≠ none := by decide +kernel

theorem witness_ExposureAndDurationComplete : Running (playing 3) 0
    ∧ (((withHead (playing 3) 0 { windowLine := some 7, latched := [(0, 9), (0, 0), (0, 0)], windows := [false, true, false] }).head 0).windows.getD 1 false = true) := by
  decide +kernel

theorem witness_HeadRowsKeepTheirFrame : (headAt 2 1).live = true ∧ Running (headAt 3 1) 0 := by decide +kernel

/-- Channel 0's last conversion was 5 step clocks before the line start. -/
def spaced : State := (Op.chan 0 { lastClk := some 5 }).apply
  (withHead (pattern 0x38000000) 0 { cur := some { number := 7 }, lastStart := some 100 })
/-- The words of a synchronisation sequence of code `c` in words of `b` bits. -/
def syncWords (b c : Nat) : List (BitVec 14) := [BitVec.ofNat 14 (2 ^ b - 1), 0, 0, BitVec.ofNat 14 (c * 2 ^ (b - 4))]

theorem witness_FrontEndRowsComplete :
    (let s := pattern 0x09000000;
      s.live = true ∧ s.fenced 0 = false ∧ s.rd .pairEn 0 0 = 0 ∧ s.rdN .videoSrc 0 = 0 ∧ (s.head 0).cur.isSome = true
      ∧ bitAt (s.stepWord 0 (s.stepAt 0 0)) 27 = true ∧ bitAt (s.stepWord 0 (s.stepAt 0 0)) 24 = true ∧ (s.chan 0).lastClk = none)
    ∧ (spaced.live = true ∧ spaced.fenced 0 = false ∧ spaced.rd .pairEn 0 0 = 0 ∧ spaced.rdN .videoSrc 0 = 0
      ∧ (spaced.head 0).cur.isSome = true ∧ bitAt (spaced.stepWord 0 (spaced.stepAt 0 0)) 27 = true
      ∧ bitAt (spaced.stepWord 0 (spaced.stepAt 0 0)) 24 = false ∧ bitAt (spaced.stepWord 0 (spaced.stepAt 0 0)) 29 = true
      ∧ spaced.lineStarted 0 0 = true ∧ (spaced.chan 0).lastClk = some 5 ∧ 5 + 5 ≤ (spaced.head 0).lastStart.getD 0 / 10
      ∧ (spaced.chan 0).pixSeen < spaced.rdN .pixels 0 ∧ spaced.lineWaits 0 = false
      ∧ (spaced.head 0).fill - (spaced.time.toNat - (spaced.head 0).fillAt) / 10 < 16384)
    ∧ (Running lanes0 0 ∧ lanes0.rdN .videoSrc 0 = 1 ∧ (lanes0.lane 0).colour = some 2 ∧ (lanes0.lane 0).discard = false
      ∧ 0 < lanes0.rdN .lanes 0 ∧ 0 ∉ (lanes0.lane 0).dead ∧ 5 % 2 ^ lanes0.rdN .wordBits 0 ≠ 2 ^ lanes0.rdN .wordBits 0 - 1
      ∧ (lanes0.head 0).cur = some { number := 7 } ∧ (lanes0.lane 0).posn.getD 0 0 * lanes0.rdN .lanes 0 + 0 < lanes0.rdN .pixels 0
      ∧ lanes0.lineWaits 0 = false ∧ (lanes0.head 0).fill - (lanes0.time.toNat - (lanes0.head 0).fillAt) / 10 < 16384
      ∧ bitAt (lanes0.rdN .laneState 0) 0 = true)
    ∧ (∀ p ∈ [(8, Sync.start 0), (9, .start 1), (10, .start 2), (12, .stop), (14, .idle), (3, .unlisted)],
      syncOf (lanes0.rdN .wordBits 0) (syncWords (lanes0.rdN .wordBits 0) p.1) = some p.2) := by
  decide +kernel

theorem witness_LineRecordsComplete :
    (let s := queued0 [.line { number := 7 }];
      Running s islLine ∧ s.heldBack 0 = false ∧ ((s.laneLine 0).isSome && s.armedNow 0) = false
      ∧ (((closeLanes 0).run s).lineUnit 0).queue = [.line { number := 7 }] ∧ s.rdN .lineRoute 0 ≠ 0x10
      ∧ ((closeLanes 0).run s).seamAct 0 false 7 ≠ .wait ∧ ((closeLanes 0).run s).seamAct 0 true 7 ≠ .wait)
    ∧ (let s := queued0 [.line { number := 7, kind := 1 }];
      Running s islLine ∧ s.heldBack 0 = false ∧ ((s.laneLine 0).isSome && s.armedNow 0) = false
      ∧ (((closeLanes 0).run s).lineUnit 0).queue = [.line { number := 7, kind := 1 }] ∧ s.rdN .pixels 0 ≤ 32768)
    ∧ (let s := queued0 [.close 5];
      Running s islLine ∧ s.heldBack 0 = false ∧ (((closeLanes 0).run s).lineUnit 0).queue = [.close 5])
    ∧ (let d : SeamData := { line := 7, size := 1, rows := [] };
      Running (seamWaits [(true, d)]) islLine ∧ ((seamWaits [(true, d)]).lineUnit 0).seamIn = [(true, d)]
      ∧ ((seamWaits [(true, d)]).lineUnit 0).emitted = none ∧ ((seamWaits [(true, d)]).lineUnit 0).gaveUp = none
      ∧ ((withLine (seamWaits []) 0 { emitted := some 7, seamIn := [(true, d)] }).lineUnit 0).emitted = some 7
      ∧ notBefore 7 ((7 + ((seamWaits []).seamOf 0 true).2.2.2) % 4294967296) = true)
    ∧ (Running (seamWaits []) islLine ∧ ((seamWaits []).lineUnit 0).queue = [.line { number := 7 }] ∧ (seamWaits []).seamAct 0 true 7 = .wait) := by
  decide +kernel

theorem witness_CalibrationRowsComplete :
    Takes (calHead 0) .p0 { name := .calCmd, inst := 0 } 1 ∧ Takes (calHead 2) .p0 { name := .calCmd, inst := 0 } 2
    ∧ Takes (calHead 4) .p0 { name := .calCmd, inst := 0 } 3
    ∧ (Running (calHead 3) islLine ∧ ((calHead 3).lineUnit 0).capLeft = 0 ∧ (calHead 3).rd .calState 0 = 3)
    ∧ (calHead 5).rd .calState 0 = 5 :=
  ⟨tk (by decide +kernel), tk (by decide +kernel), tk (by decide +kernel), by decide +kernel, by decide +kernel⟩

theorem witness_TemperaturesAndCoversComplete :
    (Running live0 islLine ∧ (with1 live0 .lineTempSrc 2 0 63).rdN .lineTempSrc 2 = 63
      ∧ (with1 (with1 live0 .lineTempSrc 2 0 63) .tempMaxAge 2 0 1).rdN .tempMaxAge 2 ≠ 0)
    ∧ (covered.rd .coverEn 0 ≠ 0 ∧ (covered.head 0).coverRuns = true ∧ (covered.head 0).coverPin = true ∧ Running covered 0) := by
  decide +kernel

theorem witness_AxisWritesComplete :
    Takes (axisAt 0) .p0 { name := .axisEn, inst := 2 } 1 ∧ Takes (axisAt 2) .p0 { name := .axisEn, inst := 2 } 0
    ∧ Takes (axisAt 1) .p0 { name := .moveCmd, inst := 2 } 1 ∧ Takes (axisAt 1) .p0 { name := .moveCmd, inst := 2 } 2
    ∧ Takes (axisAt 1) .p0 { name := .moveCmd, inst := 2 } 3 ∧ Takes (axisAt 1) .p0 { name := .moveCmd, inst := 2 } 4
    ∧ Takes (axisAt 1) .p0 { name := .moveCmd, inst := 2 } 7 ∧ Takes (axisAt 4) .p0 { name := .moveCmd, inst := 2 } 5
    ∧ Takes (axisAt 3) .p0 { name := .moveCmd, inst := 2 } 6 ∧ Takes (granted3 (axisAt 3)) .p3 { name := .retarget, inst := 2 } 0xFFFFFFFF
    ∧ Takes (axisAt 1) .p0 { name := .posSet, inst := 2 } 5 ∧ Takes (axisAt 5) .p0 { name := .axisFaultClr, inst := 2 } 1
    ∧ Takes live0 .p0 { name := .encEn, inst := 2 } (u32 (bit01 true)) ∧ (axisAt 2).inMotion 2 = true ∧ (axisAt 2).rdB .encEn 2 = false :=
  ⟨tk (by decide +kernel), tk (by decide +kernel), tk (by decide +kernel), tk (by decide +kernel), tk (by decide +kernel),
   tk (by decide +kernel), tk (by decide +kernel), tk (by decide +kernel), tk (by decide +kernel), tk (by decide +kernel),
   tk (by decide +kernel), tk (by decide +kernel), tk (by decide +kernel), by decide +kernel, by decide +kernel⟩

theorem witness_FaultClearIsRefusedWhileTheCauseIsPresent :
    (stalled.live = true ∧ pathUp stalled .p0 = true ∧ NoHeld stalled ∧ stalled.rdN .claim 0 (unitAxis 2 - 1) = 0xFF
      ∧ stalled.fenced islMotion = false) ∧ stalled.rdN .axisState 2 = 5 ∧ stalled.causePresent 2 = true := by decide +kernel

/-- Axis 2 in MOVING at rest, at 100 units. -/
def arrived (g : Goal) : State := with1 (withAxis (axisAt 2) 2 { goal := g }) .pos 2 0 100

theorem witness_AxisMotionCompletes :
    (∀ s ∈ [arrived (.target 100), arrived (.limit 100 true)], Running s islMotion ∧ s.rdN .axisState 2 = 2 ∧ s.isPaced 2 = false
      ∧ s.atRest 2 = true ∧ (s.axis 2).frac = 0 ∧ s.rd .pos 2 = i32 100)
    ∧ (((arrived (.target 100)).axis 2).goal = .target 100 ∧ (arrived (.target 100)).planned 2 = (0, 0)
      ∧ ((arrived (.target 100)).axis 2).pend = none ∧ ((arrived (.limit 50 true)).axis 2).goal = .limit 50 true)
    ∧ (Running (moving (.target 100)) islMotion ∧ (moving (.target 100)).rdN .axisState 2 = 2 ∧ ((moving (.target 100)).axis 2).pend = none)
    ∧ (let s := withAxis (axisAt 1) 2 { pend := some (.abs 7) };
      s.rdN .paceState = 0 ∧ s.rdN .paceEn = 0 ∧ s.modes.mode = .scan ∧ s.rdN .axisState 2 = 1 ∧ (s.axis 2).pend = some (.abs 7)
      ∧ ((withAxis (axisAt 3) 2 { pend := some (.retarget 7) }).axis 2).pend = some (.retarget 7))
    ∧ ((axisAt 3).rdN .axisState 2 = 3 ∧ (axisAt 3).isPaced 2 = false ∧ (axisAt 3).atRest 2 = true)
    ∧ (quadStep (live0.axis 2).encA (live0.axis 2).encB true true = none ∧ (stalled.rdB .encEn 2 = true ∧ stalled.rdN .axisState 2 ≠ 0)
      ∧ quadStep (live0.axis 2).encA (live0.axis 2).encB true false = some 1)
    ∧ ((withAxis (axisAt 1) 2 { holdRuns := true }).inMotion 2 = false ∧ ((withAxis (axisAt 1) 2 { holdRuns := true }).axis 2).holdRuns = true) := by
  decide +kernel

theorem witness_AxisFaultsComplete :
    (let s := with1 (withAxis (axisAt 2) 2 { irefA := 64 }) .senseEn 2 0 1;
      Running s islMotion ∧ s.isPaced 2 = false ∧ s.rdB .senseEn 2 = true ∧ s.rdN .axisMode 2 ≠ 3 ∧ (s.axis 2).irefA = 64
      ∧ 8 * (31 : BitVec 12).toNat < 4 * 64)
    ∧ (let s := with1 (with1 (axisAt 2) .axisMode 2 0 3) .iLimit 2 0 4000;
      Running s islMotion ∧ s.isPaced 2 = false ∧ s.rdN .axisMode 2 = 3 ∧ s.rdN .iLimit 2 < (4095 : BitVec 12).toNat)
    ∧ (stalled.rdB .encEn 2 = true ∧ stalled.rdN .devWin 2 ≠ 0 ∧ stalled.rdN .devWin 2 < (stalled.devOf 2).natAbs
      ∧ stalled.rdN .axisState 2 ≠ 4) := by decide +kernel

theorem witness_WatermarksKeepTheirOrder :
    (∃ w v : U32, Takes live0 .p0 { name := .lowWm } w ∧ live0.rdN .highWm ≤ v.toNat)
    ∧ ∃ w v : U32, Takes live0 .p0 { name := .highWm } w ∧ v.toNat ≤ live0.rdN .lowWm :=
  ⟨⟨0, 0xFFFF, tk (by decide +kernel), by decide +kernel⟩, ⟨1000, 0, tk (by decide +kernel), by decide +kernel⟩⟩

/-- The paced axis 0, its position known, one stream's free space in MOTION. -/
def feeding (st ax free : Nat) : State :=
  let s := with1 (with1 (withAxis (paced st ax) 0 { vel := 100000000 }) .axisStatus 0 0 0) .paceStreams 0 0 1
  { s with pace := { free := [(0, free)], vEff := 1000 } }
/-- The paced axis 0 at rest. -/
def fed (st ax : Nat) (g : Goal) : State := withAxis (feeding st ax 0) 0 { goal := g }

theorem witness_PacedFeedFollowsItsStates :
    (let s := feeding 1 2 0;
      Running s islMotion ∧ s.fenced islHost = false ∧ s.feedAxis = 0 ∧ (s.axis 0).pend = none ∧ s.rdN .paceState = 1 ∧ s.rdN .axisState 0 = 2
      ∧ s.planned 0 ≠ (0, 0) ∧ s.freeMinOf ≤ s.rdN .lowWm)
    ∧ (let s := with1 (with1 (fed 4 1 .open) .lowWm 0 0 10) .highWm 0 0 20;
      (s.axis 0).pend = none ∧ s.rdN .paceState = 4 ∧ s.rdN .axisState 0 = 1)
    ∧ (let s := with1 (with1 (feeding 4 1 30) .lowWm 0 0 10) .highWm 0 0 20;
      (s.axis 0).pend = none ∧ s.rdN .paceState = 4 ∧ s.rdN .axisState 0 = 1 ∧ s.rdN .highWm ≤ s.freeMinOf ∧ s.freeMinOf < 4294967296
      ∧ s.vMaxGate 0 s.pace.vEff = .ok ∧ s.retargetGate 0 (s.rdZ .endTarget) = .ok)
    ∧ (let s := fed 2 3 .open;
      Running s islMotion ∧ s.isPaced 0 = true ∧ s.atRest 0 = true ∧ s.rdN .axisState 0 = 3 ∧ s.rdN .paceState = 2
      ∧ s.vMaxGate 0 (s.rdN .backoffV) = .ok ∧ s.retargetGate 0 (s.posZ 0 - s.paceDir * s.backoffOf) = .ok)
    ∧ (let s := with1 (fed 3 2 (.target (-5))) .pos 0 0 (i32 (-5));
      s.isPaced 0 = true ∧ s.atRest 0 = true ∧ s.rdN .axisState 0 = 2 ∧ s.rdN .paceState = 3 ∧ (s.axis 0).frac = 0
      ∧ (s.axis 0).goal = .target (-5) ∧ s.rd .pos 0 = i32 (-5))
    ∧ (Running (with1 live0 .photonMode 0 0 1) islLight ∧ (with1 live0 .photonMode 0 0 1).rdN .photonMode = 1
      ∧ (with1 live0 .photonMode 0 0 1).rdN .paceHead = (0 : Fin 4)) := by decide +kernel

theorem witness_StringWritesComplete :
    Takes (stringAt 0) .p0 { name := .stringEn, inst := 1 } 1 ∧ Takes (stringAt 3) .p0 { name := .stringEn, inst := 1 } 1
    ∧ Takes (stringAt 2) .p0 { name := .stringEn, inst := 1 } 0 ∧ Takes (stringAt 3) .p0 { name := .stringEn, inst := 1 } 2
    ∧ Takes (stringAt 4) .p0 { name := .lsFaultClr, inst := 1 } 1
    ∧ (grouped.stringState 1 = 4 ∧ grouped.stringState 5 = 5 ∧ grouped.groupOf 5 = grouped.groupOf 1
      ∧ ∀ i : Fin 8, i ≠ 1 → grouped.groupOf i = grouped.groupOf 1 → grouped.stringState i ≠ 4) :=
  ⟨tk (by decide +kernel), tk (by decide +kernel), tk (by decide +kernel), tk (by decide +kernel), tk (by decide +kernel), by decide +kernel⟩

theorem witness_StringFaultsComplete :
    (Running (stringAt 1) islLight ∧ (stringAt 1).stringState 1 = 1 ∧ 10 * (0 : BitVec 16).toNat < (with1 (stringAt 1) .voutNom 1 0 5000).rdN .voutNom 1
      ∧ ∀ x ∈ List.replicate 16 (100 : BitVec 12), (with1 (stringAt 1) .csLimit 1 0 100).rdN .csLimit 1 ≤ x.toNat)
    ∧ ((stringAt 3).stringState 1 = 3 ∧ (stringAt 2).matrix 1 = false ∧ (stringAt 2).rdN .ovpV 1 < (0xFFFF : BitVec 16).toNat
      ∧ ((stringAt 2).lstr 1).learn = false)
    ∧ 10 * 65536 * ((0 : BitVec 16).toNat : Int) < 10 * ((withString (stringAt 2) 1 { base := 655360000 }).lstr 1).base
      - 6 * 65536 * (withString (stringAt 2) 1 { base := 655360000 }).rdN .lampV 1
    ∧ ((lamps 2).matrix 1 = true ∧ (lamps 2).rdN .ovpV 1 < (0xFFFF : BitVec 16).toNat ∧ ((lamps 2).lstr 1).locating = false
      ∧ ((withString (lamps 4) 1 { locating := true }).lstr 1).locating = true)
    ∧ ((lamps 2).modes.mode = .scan ∧ (lamps 2).rdB .checkScan 1 = true ∧ (lamps 2).longOn 1 = true
      ∧ (((List.range 64).map fun i => (((lamps 2).lstr 1).lamp + i) % 64).find? fun i =>
        bitAt ((lamps 2).pair64 .lampMask 1) i && !bitAt ((lamps 2).pair64 .bypPattern 1) i) = some 5) := by decide +kernel

theorem witness_LightRowsComplete :
    (Running (stringAt 3) islLight ∧ ((stringAt 3).lstr 1).temp = none ∧ ((withString (stringAt 2) 1 { rejoin := true }).lstr 1).rejoin = true
      ∧ (withString (stringAt 2) 1 { rejoin := true }).lit 1 = true
      ∧ ((withString (stringAt 3) 1 { level := 9, fade := some { start := 9, stop := 0, total := 4, step := 3, curve := false } }).lstr 1).fade
        = some { start := 9, stop := 0, total := 4, step := 3, curve := false }
      ∧ ((withString (stringAt 3) 1 { made := 5 }).lstr 1).made ≠ (stringAt 3).lightNow)
    ∧ (stringAt 1).stringState 1 = 1 ∧ ((withString (stringAt 2) 1 { learn := true }).lstr 1).learn = true
    ∧ (hotString.rdN .lsTempSrc 1 = 9 ∧ hotString.fenced islHeath = false
      ∧ realRat (hotString.rd .tShut 1) ≤ realRat (hotString.rd .heathValue 0 9) ∧ hotString.stringState 1 = 2)
    ∧ (with1 hotString .heathValue 0 9 0).rdN .lsTempSrc 1 = 9
    ∧ (∀ k : Fin 8, (with1 hotString .heathValue 0 9 0).rdN .lsTempSrc k = 9 →
      realRat ((with1 hotString .heathValue 0 9 0).rd .heathValue 0 9) < realRat ((with1 hotString .heathValue 0 9 0).rd .tShut k))
    ∧ (hotString.rdN .lsTempSrc 1 ≤ 63 ∧ (hotString.lstr 1).stale = false) := by decide +kernel

theorem witness_HeathWritesComplete :
    Takes (listed 0) .p0 { name := .heathEn } 1 ∧ Takes (listed 1) .p0 { name := .heathEn } 1
    ∧ ((listed 0).heathSt = 0 ∧ (listed 1).heathSt = 1 ∧ (listed 0).nextEntry 0 0 = some 3 ∧ (listed 0).nextEntry 1 0 = none)
    ∧ Refuses (badList 0) .p0 { name := .heathEn } 1 .scanInvalid ∧ Takes (listed 1) .p0 { name := .heathEn } 0
    ∧ Takes (listed 1) .p0 { name := .urgent } ((3 : BitVec 8).setWidth 32) ∧ ((listed 1).conv ((listed 1).scanConv 3 - 1)).phase = 0
    ∧ Takes { listed 1 with heath := { halts := [2, 0] } } .p0 { name := .plausClr } ((4 : BitVec 8).setWidth 32) :=
  ⟨tk (by decide +kernel), tk (by decide +kernel), by decide +kernel, rf (by decide +kernel), tk (by decide +kernel), tk (by decide +kernel),
   by decide +kernel, tk (by decide +kernel)⟩

theorem witness_HeathRowsComplete :
    (Running (withConv 0 { phase := 1, entry := 3 }) islHeath ∧ (withConv 0 { phase := 1, entry := 3 }).heathSt ≠ 0
      ∧ ((withConv 0 { phase := 1, entry := 3 }).conv 0).phase = 1 ∧ ((withConv 0 { phase := 2, entry := 3 }).conv 0).phase = 2
      ∧ Running (withConv 0 { phase := 2, entry := 3 }) islHeath)
    ∧ (let s := with1 (listed 1) .scanPeriod 0 0 100;
      Running s islHeath ∧ s.heathSt = 1 ∧ s.rdN .scanPeriod ≠ 0 ∧ (s.conv 0).inPass = false ∧ s.nextEntry 0 0 = some 3
      ∧ (s.conv 0).phase = 0 ∧ (s.conv 0).want = none ∧ ((withConv 0 { inPass := true }).conv 0).inPass = true)
    ∧ (7 ≤ { listed 1 with heath := { bad := 7 } }.heath.bad ∧ { listed 1 with heath := { bad := 7 } }.heath.lost = false)
    ∧ (((withConv 0 { results := [result3] }).conv 0).results = [result3] ∧ (withConv 0 {}).scan 3 6 = 0 ∧ 15 < (withConv 0 {}).scan 3 7
      ∧ (withConv 0 {}).scanExc 3 = 0 ∧ (withConv 0 {}).rdN .heathRoute = 0xFF ∧ (withConv 0 {}).fenced islStore = false
      ∧ ((Op.island islStore { st := .fenced, cause := 1 }).apply (withConv 0 {})).fenced islStore = true
      ∧ (with1 (withConv 0 {}) .heathRoute 0 0 2).rdN .heathRoute ≠ 0xFF) := by decide +kernel

theorem witness_TimerWritesComplete :
    Takes (timerAt 0) .p0 { name := .tmrRun, inst := 9 } 1
    ∧ (Takes (timerAt 2) .p0 { name := .tmrRun, inst := 9 } 0 ∧ ((timerAt 2).timer 9).resetAt = none ∧ ((timerAt 2).timer 9).capAt = none)
    ∧ Takes (timerAt 2) .p0 { name := .cmpBHi, inst := 9 } 0x7FFF ∧ Takes (timerAt 2) .p0 { name := .cmpALo, inst := 9 } 0xFFFFFFFF
    ∧ Takes (timerAt 2) .p0 { name := .periodHi, inst := 9 } 1
    ∧ ((timerAt 0).rdN .tmrState 9 = 0 ∧ (timerAt 2).rdN .tmrState 9 ≠ 0 ∧ ((timerAt 2).ticks 9).isSome = true) :=
  ⟨tk (by decide +kernel), ⟨tk (by decide +kernel), by decide +kernel⟩, tk (by decide +kernel), tk (by decide +kernel), tk (by decide +kernel),
    by decide +kernel⟩

theorem witness_TimerSettingsNeedAStoppedChannel :
    (timerAt 2).rdN .tmrState 9 ≠ 0 ∧ Takes ((Op.put .tmrState 9 0 0).apply (timerAt 2)) .p0 { name := .prescN, inst := 9 } 0x100 :=
  ⟨by decide +kernel, tk (by decide +kernel)⟩

theorem witness_TimerRowsComplete :
    (Running (rolling 0) islTimer ∧ (rolling 0).counting 9 = true ∧ (rolling 0).ticks 9 = some 10 ∧ (rolling 0).livePeriod 9 ≤ ((rolling 0).timer 9).count + 10)
    ∧ (let s := with1 (with1 (rolling 0) .slaveMode 9 0 1) .slaveWatch 9 0 1;
      s.rdN .slaveMode 9 = 1 ∧ s.rdN .slaveWatch 9 ≠ 0 ∧ s.rdN .slaveWatch 9 ≤ (s.timer 9).turns + 1)
    ∧ ((rolling 0).timer 9).wrP = none ∧ ((rolling 0).timer 9).wrA = none ∧ ((rolling 0).timer 9).wrB = none
    ∧ ((with1 (timerAt 2) .cmpALo 9 0 0).reaches 9 ((with1 (timerAt 2) .cmpALo 9 0 0).cmpA 9) ((timerAt 2).timer 9).barA = true
      ∧ (with1 (timerAt 2) .cmpBLo 9 0 0).reaches 9 ((with1 (timerAt 2) .cmpBLo 9 0 0).cmpB 9) ((timerAt 2).timer 9).barB = true)
    ∧ (let s := with1 (with1 (timerAt 1) .slaveSrc 9 0 1) .slaveMode 9 0 2;
      s.rdN .slaveSrc 9 ≠ 0 ∧ s.rdN .tmrState 9 = 1 ∧ s.rdN .slaveEdgeSel 9 = 0 ∧ s.filtered 9 (s.rdN .slaveSrc 9) (100 : BitVec 16).toNat = true)
    ∧ (let s := with1 (with1 ((Op.timer 9 { lastEdge := some 4 }).apply (rolling 0)) .capSrc 9 0 1) .capPresc 9 0 1;
      Running s islTimer ∧ s.rdN .tmrState 9 ≠ 0 ∧ s.rdN .capSrc 9 ≠ 0 ∧ s.filtered 9 (s.rdN .capSrc 9) (2 : BitVec 16).toNat = true
      ∧ s.rdN .capEdge 9 ≠ 1 ∧ s.rdN .capPresc 9 = 1 ∧ ¬ s.time.toNat - 2 < 4 + 8 ∧ s.time.toNat - 90 < 4 + 8) := by decide +kernel

theorem witness_BankWritesComplete :
    Takes (bankAt 2) .p0 { name := .owner, inst := 3 } ((0x11 : BitVec 8).setWidth 32) ∧ (bankAt 2).rdN .owner 3 ≠ (0x11 : BitVec 8).toNat
    ∧ Takes (bankAt 2) .p0 { name := .owner, inst := 3 } ((0xFF : BitVec 8).setWidth 32) ∧ (bankAt 2).rdN .owner 3 = (0xFF : BitVec 8).toNat
    ∧ Takes (bankAt 2) .p0 { name := .bankPowerReq, inst := 3 } (u32 1) ∧ Takes (bankAt 4) .p0 { name := .bankPowerReq, inst := 3 } (u32 0)
    ∧ Takes (with1 (bankAt 0) .bankPowerReq 3 0 0) .p0 { name := .bankPowerReq, inst := 3 } (u32 2)
    ∧ ((bankAt 4).bankSt 3 = 4 ∧ (bankAt 2).bankSt 3 = 2 ∧ (bankAt 2).rdN .bankPowerReq 3 = 2
      ∧ (with1 (bankAt 0) .bankPowerReq 3 0 0).rdN .bankPowerReq 3 = 0) :=
  ⟨tk (by decide +kernel), by decide +kernel, tk (by decide +kernel), by decide +kernel, tk (by decide +kernel), tk (by decide +kernel),
   tk (by decide +kernel), by decide +kernel⟩

theorem witness_BankTransitionsComplete :
    (Running (bankAt 3) islStore ∧ (bankAt 3).bankSt 3 = 3 ∧ ((Op.bank 3 { mark := true, goal := 2 }).apply (bankAt 3)).bankSt 3 = 3)
    ∧ ((bankAt 1).bankSt 3 = 1 ∧ (with1 (bankAt 1) .owner 3 0 0x27).rdN .owner 3 ≠ 0xFF)
    ∧ ((bankAt 0).bankSt 3 = 0 ∧ (bankAt 0).rdN .bankPowerReq 3 = 2 ∧ (bankAt 4).bankSt 3 = 4)
    ∧ ({ bankAt 2 with rowTest := { ahead := [(3, 255)] } }.testable 3 255 = true
      ∧ (with1 { bankAt 2 with rowTest := { ahead := [(3, 255)] } } .bgtEn 0 0 1).rdB .bgtEn = true)
    ∧ (rowsOf 3 = 256 ∧ ∀ x ∈ { bankAt 2 with rowTest := { testing := some (3, 255) } }.retired 3, x.1 ≠ 0) := by decide +kernel

theorem witness_BankAccessesComplete :
    (bankAt 2).live = true ∧ (0x6FFFFC : BitVec 26).toNat / 0x200000 = 3 ∧ (with1 (bankAt 2) .owner 3 0 0x27).owns 3 (masterCode (.stream 7)) = true
    ∧ (bankAt 2).owns 3 (masterCode (.line 0)) = false ∧ (bankAt 2).fenced islStore = false
    ∧ (withIsland islStore { st := .fenced, cause := 1 }).fenced islStore = true
    ∧ (with1 (bankAt 2) .linkStatus 0 0 0x1000).linkUp = true ∧ (bankAt 2).fenced islHost = false := by decide +kernel

theorem witness_TheKeyIsLoadedOnce :
    (domVerdict (granted3 (with1 live0 .lifeCycle 0 0 1)) { path := .p3, ent := { name := .keyLoad }, size := 32, data := List.replicate 32 7 }).st = .ok
    ∧ (granted3 live0).granted .p3 = true ∧ (granted3 (with1 (with1 live0 .lifeCycle 0 0 2) .keyState 0 0 1)).rdN .keyState ≠ 0
    ∧ (granted3 (withIsland islSafe { st := .fenced, cause := 1 })).fenced islSafe = true
    ∧ Takes (granted3 live0) .p3 { name := .wipe } 0x77697065 :=
  ⟨by decide +kernel, by decide +kernel, by decide +kernel, by decide +kernel, tk (by decide +kernel)⟩

theorem witness_SafeRowsComplete :
    Takes (granted3 live0) .p3 { name := .wipe } 0x77697065 ∧ Takes (granted3 (with1 live0 .lifeCycle 0 0 1)) .p3 { name := .lcAdvance } ((2 : BitVec 8).setWidth 32)
    ∧ Takes (granted3 (with1 live0 .tamperState 0 0 6)) .p3 { name := .tamperClr } ((2 : BitVec 8).setWidth 32)
    ∧ live0.rdN .tamperState ||| (1 &&& live0.rdN .tamperEn) ≠ live0.rdN .tamperState ∧ live0.rdN .tamperState = 0
    ∧ { live0 with secure := { causes := [3] } }.secure.causes ≠ [] ∧ ((queued0 []).lineUnit 0).page.isSome = true
    ∧ { live0 with secure := { blow := some 2 } }.secure.blow = some 2 ∧ live0.phase ≠ .unpowered :=
  ⟨tk (by decide +kernel), tk (by decide +kernel), tk (by decide +kernel), by decide +kernel, by decide +kernel, by decide +kernel,
   by decide +kernel, by decide +kernel, by decide +kernel⟩

theorem witness_StreamWritesComplete :
    (Takes (streamAt 0 {}) .p0 { name := .streamEn, inst := 2 } 1 ∧ (streamAt 0 {}).streamSt 2 = 0)
    ∧ (Takes (streamAt 1 { flight := [[1], [2]], begun := 9 }) .p0 { name := .streamEn, inst := 2 } 0
      ∧ (streamAt 1 { flight := [[1], [2]], begun := 9 }).streamSt 2 = 1
      ∧ ((streamAt 1 { flight := [[1], [2]], begun := 9 }).stream 2).begun ≠ (streamAt 1 {}).hostCycle)
    ∧ (Takes (streamAt 2 { flight := [[1]] }) .p0 { name := .streamEn, inst := 2 } 0 ∧ (streamAt 2 { flight := [[1]] }).streamSt 2 ≠ 1)
    ∧ Takes (with1 (streamAt 1 {}) .wrPtr 2 0 2) .p0 { name := .rdPtr, inst := 2 } 1
    ∧ Takes (streamAt 0 {}) .p0 { name := .bufLog2, inst := 2 } 16 ∧ Takes (streamAt 0 {}) .p0 { name := .bufBase, inst := 2, item := 1 } 5 :=
  ⟨⟨tk (by decide +kernel), by decide +kernel⟩, ⟨tk (by decide +kernel), by decide +kernel⟩, ⟨tk (by decide +kernel), by decide +kernel⟩,
    tk (by decide +kernel), tk (by decide +kernel), tk (by decide +kernel)⟩

/-- The same stream in SCAN. -/
def scanning (s : State) : State := withMode s { mode := .scan }

theorem witness_StreamRowsComplete :
    (let s := scanning (streamAt 1 { coming := [rec64] });
      s.live = true ∧ (s.stream 2).coming = [rec64] ∧ 64 ≤ rec64.length ∧ s.streamBusy 2 rec64 = false ∧ s.fenced islHost = false
      ∧ s.streamSt 2 = 1 ∧ s.modes.mode.delivers (recordKind rec64) = true ∧ rec64.length ≤ 2 ^ s.rdN .bufLog2 2 ∧ (s.stream 2).store = []
      ∧ rec64.length ≤ s.bufRoom 2)
    ∧ (scanning (streamAt 1 { coming := [rec64], flight := [rec64] })).streamBusy 2 rec64 = true
    ∧ (hostFenced (streamAt 1 { coming := [rec64] })).streamBusy 2 rec64 = false
    ∧ (let s := streamAt 1 { coming := [rec64] };
      s.streamBusy 2 rec64 = false ∧ s.modes.mode.delivers (recordKind rec64) = false)
    ∧ (let s := with1 (scanning (full { coming := [rec64] })) .stageBank 2 0 3;
      s.streamBusy 2 rec64 = false ∧ ¬ rec64.length ≤ s.bufRoom 2 ∧ rec64.length ≤ s.storeRoom 2
      ∧ ¬ rec64.length ≤ (scanning (full { coming := [rec64] })).storeRoom 2)
    ∧ 2 ^ (with1 (streamAt 1 {}) .bufLog2 2 0 5).rdN .bufLog2 2 < rec64.length
    ∧ (let s := streamAt 1 { store := [rec64] };
      Running s islHost ∧ s.streamSt 2 = 1 ∧ (s.stream 2).store = [rec64] ∧ rec64.length ≤ s.bufRoom 2 ∧ (s.stream 2).flight = []
      ∧ ¬ rec64.length ≤ (full { store := [rec64] }).bufRoom 2)
    ∧ (Running (pcieUp (streamAt 1 { flight := [rec64] })) islHost ∧ (pcieUp (streamAt 1 { flight := [rec64] })).canInitiate = true
      ∧ ((pcieUp (streamAt 1 { flight := [rec64] })).stream 2).flight = [rec64])
    ∧ ((with1 (streamAt 1 { since := 3 }) .irqTime 2 0 9).rdN .irqTime 2 ≠ 0 ∧ ((streamAt 1 { since := 3 }).stream 2).since ≠ 0)
    ∧ (((Op.vector 4 { holdoff := true, again := true }).apply (pcieUp live0)).vector 4).again = true := by decide +kernel

theorem witness_RingAndLinkRowsComplete :
    Takes live0 .p0 { name := .cmdEn } 1 ∧ Takes (ringUp {}) .p0 { name := .cmdEn } 0 ∧ Takes (ringUp { fetching := true }) .p0 { name := .cmdEn } 0
    ∧ Takes (ringUp {}) .p0 { name := .cmdTail } ((2 : BitVec 16).setWidth 32)
    ∧ Takes (with1 (ringUp {}) .cplHead 0 0 2) .p0 { name := .cplTail } ((1 : BitVec 16).setWidth 32)
    ∧ ((ringUp {}).canInitiate = true ∧ (ringUp {}).rdN .ringState = 1 ∧ (ringUp {}).rdN .cmdHead ≠ (ringUp {}).rdN .cmdTail
      ∧ (ringUp {}).ring.fetching = false ∧ (ringUp {}).ring.stopping = false ∧ ((ringUp {}).cmd 0).running = false
      ∧ ((ringUp {}).rdN .cplHead + 65536 - (ringUp {}).rdN .cplTail) % 65536 < 2 ^ (ringUp {}).rdN .cmdLog2 ∧ Running (ringUp {}) islHost
      ∧ (ringUp { fetching := true }).ring.fetching = true ∧ (parseRecord rec64).opcode = 0 ∧ NoHeld (ringUp { fetching := true }))
    ∧ ((ringUp {}).rdN .linkStatus ≠ 0 ∧ (ringUp {}).live = true ∧ (4 : Fin 9).val ∈ [1, 2, 4, 8] ∧ (3 : Fin 9).val ∉ [1, 2, 4, 8]) :=
  ⟨tk (by decide +kernel), tk (by decide +kernel), tk (by decide +kernel), tk (by decide +kernel), tk (by decide +kernel), by decide +kernel,
    by decide +kernel⟩

theorem witness_RecordsComplete :
    (∀ p : Path, p ≠ .p6 → p ≠ .p0 → ReadyFor live0 p) ∧ ReadyFor (ringUp { fetching := true }) .p0
    ∧ (live0.rdN .lastHostSeq 0 3 + 1) % 65536 = 0 ∧ (rec 0 0 0 0 []).hostSeq.toNat = 0
    ∧ (lookupRun .p3 (rec 1 0x2000 1 8 []).index.toNat (rec 1 0x2000 1 8 []).sub.toNat (rec 1 0x2000 1 8 []).count
      = .ok [{ name := .modeReq }, { name := .modeNow }] ∧ (rec 1 0x2000 1 8 []).lengthStatus = .ok)
    ∧ (let r := { rec 1 0x2400 1 8 [] with flags := 1 };
      r.conditional = true ∧ r.bankRef = false ∧ r.lengthStatus = .ok ∧ lookupRun .p3 r.index.toNat r.sub.toNat r.count = .ok [{ name := .headEn }, { name := .pixels }]
      ∧ (∀ e ∈ [({ name := .headEn } : Ent), { name := .pixels }], e.unit = some 1) ∧ live0.epochOf 1 = r.expEpoch.toNat
      ∧ (with1 live0 .epoch 0 0 5).epochOf 1 ≠ r.expEpoch.toNat)
    ∧ ((rec 5 0 0 4 []).conditional = false ∧ (rec 5 0 0 4 []).bankRef = false) := by
  refine ⟨fun p h6 h0 => ?_, ?_, by decide +kernel, by decide +kernel, by decide +kernel, by decide +kernel, by decide +kernel⟩
  · cases p <;> first | exact absurd rfl h6 | exact absurd rfl h0 | (unfold ReadyFor; decide +kernel)
  · unfold ReadyFor; decide +kernel

theorem witness_RecordWritesComplete :
    ReadyFor ownBank .p3 ∧ (rec 2 0x2000 5 4 [7]).hostSeq.toNat = (ownBank.rdN .lastHostSeq 0 3 + 1) % 65536
    ∧ lookupRun .p3 0x2000 5 (rec 2 0x2000 5 4 [7]).count = .ok [{ name := .calMaxAge }]
    ∧ (verdict ownBank { path := .p3, hostSeq := some 0, ents := [({ name := .calMaxAge }, 7)] }).st = .ok
    ∧ lookup (rec 3 0x5900 1 4 [1, 2, 3, 4]).index.toNat 1 = .ok { name := .scanList } ∧ ownBank.table .scanList 0 = some (scanListAt, 0x800)
    ∧ (domVerdict ownBank { path := .p3, hostSeq := some 0, ent := { name := .scanList }, size := 4, data := [1, 2, 3, 4] }).st = .ok
    ∧ (refStatus ownBank .p3 bankRead = .ok ∧ bankRead.lengthStatus = .ok ∧ bankRead.bank = 3 ∧ bankRead.bankRef = true
      ∧ bankRead.conditional = false ∧ ownBank.fenced islStore = false ∧ ownBank.owns 3 3 = true ∧ isCalTable .scanList = false
      ∧ refStatus (with1 ownBank .bankState 3 0 4) .p3 bankRead = .ok ∧ (with1 ownBank .bankState 3 0 4).owns 3 3 = false) := by
  refine ⟨?_, by decide +kernel, by decide +kernel, by decide +kernel, by decide +kernel, by decide +kernel, by decide +kernel, by decide +kernel⟩
  unfold ReadyFor; decide +kernel

theorem witness_ParallelPortRowsComplete :
    (live0.live = true ∧ lookup 0x1FFF 0 = .error .noObject ∧ lookup 0x2000 5 = .ok { name := .calMaxAge }
      ∧ (withIsland islHost { st := .fenced, cause := 1 }).fenced islHost = true)
    ∧ (((withPort 1 { waiting := some (.write 0x2000 5 9) }).port 1).waiting = some (.write 0x2000 5 9)
      ∧ (withPort 1 { waiting := some (.write 0x2000 5 9) }).fenced islHost = false ∧ ((withPort 1 { hold := some (0x2000, 5, 9) }).port 1).hold = some (0x2000, 5, 9))
    ∧ (Running live0 islHost ∧ (live0.port 1).waiting = none ∧ narrow { name := .calMaxAge } = false
      ∧ narrow { name := .modeReq } = true ∧ ((withPort 1 { stage := some (0x2000, 5, 7) }).port 1).stage = some (0x2000, 5, 7))
    ∧ ((withPort 1 { asm := List.replicate 62 0 }).port 1).asm.length + 2 = 64
    ∧ ({ withPort 1 { pos := 62 } with unreads := [(1, [rec64])] }.unread 1 = [rec64])
    ∧ Takes live0 .p1 { name := .parFifoReset } ((1 : BitVec 8).setWidth 32) ∧ Takes live0 .p2 { name := .qspiFifoReset } ((1 : BitVec 8).setWidth 32)
    ∧ (let s := withPort 1 { queue := [.write 0x2000 5 9] };
      (s.port 1).queue = [.write 0x2000 5 9] ∧ (s.cmd 1).running = false ∧ NoHeld s ∧ Running s islHost ∧ idleWrite s { name := .calMaxAge } 9 = false
      ∧ (verdict s { path := .p1, ents := [({ name := .calMaxAge }, 9)] }).st = .ok ∧ notForPath .p1 { name := .calMaxAge } = false
      ∧ 16 ≤ ({ withPort 1 { queue := [.record rec64] } with unreads := [(1, List.replicate 16 rec64)] }.unread 1).length) :=
  ⟨by decide +kernel, by decide +kernel, by decide +kernel, by decide +kernel, by decide +kernel, tk (by decide +kernel), tk (by decide +kernel),
    by decide +kernel⟩

theorem witness_SerialPortAndWindowRowsComplete :
    (live0.live = true ∧ (0x800014 : BitVec 32).toNat / 1024 = 0x2000 ∧ lookup 0x2000 5 = .ok { name := .calMaxAge } ∧ lookup 0x2000 200 = .error .noSubindex)
    ∧ 64 ≤ ((withPort 2 { queue := List.replicate 64 (.write 0x2000 5 9) }).port 2).queue.length ∧ Running live0 islHost
    ∧ (0x9F : Byte) ∉ [0x03, 0xEB, 0x02, 0x32, 0x05, 0x99] ∧ Takes live0 .p2 { name := .qspiFifoReset } 1 :=
  ⟨by decide +kernel, by decide +kernel, by decide +kernel, by decide +kernel, tk (by decide +kernel)⟩

theorem witness_NmtAndLssRowsComplete :
    (node5.live = true ∧ node5.canOn 0 = true ∧ node5.canOn 1 = true ∧ node5.addressed 0 5 = true ∧ node5.addressed 0 6 = false
      ∧ node5.rdN .nodeIdNow 0 ≠ 255 ∧ node5.rdB .nmtAccept 0 = true ∧ NoHeld node5 ∧ node5.fenced islHost = false
      ∧ (hostFenced node5).fenced islHost = true ∧ (hostFenced node5).canOn 0 = true)
    ∧ (outranks { path := .p5, mode := .scan, origin := .plain } { path := .p3, mode := .scan, origin := .nmt 0 } = true
      ∧ outranks { path := .p0, mode := .scan, origin := .plain } { path := .p3, mode := .scan, origin := .nmt 0 } = false)
    ∧ Takes live0 .p5 { name := .nodeId, inst := 1 } ((7 : BitVec 8).setWidth 32) ∧ Takes node5 .p3 { name := .nodeId } ((7 : BitVec 8).setWidth 32)
    ∧ (live0.rdN .nodeIdNow 1 = 255 ∧ (configuring live0).rdN .nodeIdNow 0 = 255 ∧ ((configuring live0).ctrl 0).lssConfig = true
      ∧ (live0.ctrl 0).lssConfig = false ∧ netValue live0 .nodeId 0 ((9 : Byte).setWidth 32) = .ok ∧ netValue live0 .nodeId 0 ((200 : Byte).setWidth 32) ≠ .ok
      ∧ netValue live0 .bitrate 0 ((8 : Byte).setWidth 32) = .ok ∧ (withCtrl live0 0 { switching := true }).canOn 0 = true) :=
  ⟨by decide +kernel, by decide, tk (by decide +kernel), tk (by decide +kernel), by decide +kernel⟩

theorem witness_DownloadsComplete :
    (node5.live = true ∧ NoHeld node5 ∧ node5.canServe 0 = true ∧ node5.canServe 1 = true ∧ node5.rdN .nodeIdNow 1 = 5)
    ∧ (lookup 0x1FFF 0 = .error .noObject ∧ lookup 0x2000 5 = .ok { name := .calMaxAge } ∧ notForPath .p3 { name := .calMaxAge } = false)
    ∧ ((verdict node5 { path := .p3, origin := .sdo 0, ents := [({ name := .scanLines }, 7)] }).st ∉ [.ok, .keyWrong, .scanInvalid]
      ∧ (verdict node5 { path := .p3, origin := .sdo 0, ents := [({ name := .vMax }, valueOf { name := .vMax } [7, 0, 0, 0])] }).st = .ok
      ∧ idleWrite node5 { name := .vMax } 7 = false)
    ∧ (lookup 0x5900 1 = .ok { name := .scanList } ∧ domMax .scanList < 0x900 ∧ 0x700 ≤ domMax .scanList
      ∧ isDomain { name := .scanList } = true ∧ node5.table .scanList 0 = some (scanListAt, 0x800)
      ∧ (domVerdict node5 { path := .p3, ent := { name := .scanList }, size := 0x900, data := [] }).st = .tooLong
      ∧ (domVerdict node5 { path := .p3, ent := { name := .scanList }, size := 4, data := [1, 2, 3, 4] }).st = .ok)
    ∧ ((sdoIn (.down 0x2000 5 none [7, 0] true)).ctrl 0).xfer = some (.down 0x2000 5 none [7, 0] true)
    ∧ ((sdoIn (.blockDown 0x2000 5 none true [] 3 0 false)).ctrl 0).xfer = some (.blockDown 0x2000 5 none true [] 3 0 false)
    ∧ (crc16 [7, 0, 0, 0] ≠ 0 ∧ ((sdoIn (.blockDown 0x2000 5 none true ([] ++ [7, 0, 0, 0, 0, 0, 0]) 3 0 true)).ctrl 0).xfer ≠ none) := by decide +kernel

theorem witness_UploadsComplete :
    (node5.live = true ∧ NoHeld node5 ∧ node5.canServe 0 = true ∧ node5.canServe 1 = true ∧ node5.rdN .nodeIdNow 1 = 5)
    ∧ (lookup 0x1FFF 0 = .error .noObject ∧ lookup 0x2000 5 = .ok { name := .calMaxAge } ∧ notForPath .p3 { name := .calMaxAge } = false
      ∧ isDomain { name := .calMaxAge } = false)
    ∧ ((hostFenced node5).fenced islHost = true ∧ (hostFenced node5).canServe 0 = true ∧ lookup 0x2620 1 = .ok { name := .axisMode, inst := 1 }
      ∧ (hostFenced node5).absent { name := .axisMode, inst := 1 } = false ∧ (hostFenced node5).absent { name := .calMaxAge } = true)
    ∧ node5.uploadOf .p3 0x1008 0 = .ok ({ name := .deviceName }, [0x45, 0x70, 0x74, 0x6F, 0x73, 0x20, 0x58, 0x39], 0)
    ∧ (((sdoIn (.up 0x1008 0 rec64 true 0)).ctrl 0).xfer = some (.up 0x1008 0 rec64 true 0)
      ∧ ((sdoIn (.blockUp 0x1008 0 rec64 true 4 0 1 0)).ctrl 0).xfer = some (.blockUp 0x1008 0 rec64 true 4 0 1 0))
    ∧ (rec64.length = 64 ∧ (uploads.unread 3 = [rec64] ∧ uploads.unread 4 = [rec64] ∧ uploads.fwdIn 3 = [rec64] ∧ uploads.fwdIn 4 = [rec64]))
    ∧ (((withCtrl node5 0 { replies := [⟨0, 0x2000, 5, 0⟩] }).ctrl 0).replies = [⟨0, 0x2000, 5, 0⟩]
      ∧ ((withCtrl node5 1 { replies := [⟨2, 0x2000, 5, 0⟩] }).ctrl 1).replies = [⟨2, 0x2000, 5, 0⟩]) := by decide +kernel

theorem witness_PdoAndEmcyRowsComplete :
    (node5.live = true ∧ NoHeld node5 ∧ node5.canOper 0 = true ∧ pdoInvalid node5 true 0 = false ∧ node5.rdN .rpdoMapCount 0 ≠ 0
      ∧ node5.mapped true 0 = [{ name := .modeReq }] ∧ node5.tpdoLive 0 = true ∧ node5.canUp 0 = true)
    ∧ (rpdoVMax.mapped true 1 = [{ name := .vMax }] ∧ 240 < rpdoVMax.rdN .rpdoType 1 ∧ rpdoVMax.canOper 0 = true ∧ pdoInvalid rpdoVMax true 1 = false
      ∧ (verdict rpdoVMax { path := .p3, origin := .rpdo 1, ents := [({ name := .vMax }, valueOf { name := .vMax } [7, 0, 0, 0])] }).st = .ok
      ∧ (verdict rpdoVMax { path := .p3, origin := .rpdo 1, ents := [({ name := .vMax }, 0)] }).st ∉ [.ok, .keyWrong, .scanInvalid])
    ∧ (254 ≤ (with1 node5 .tpdoEventTimer 0 0 9).rdN .tpdoType 0 ∧ ((withPdo node5 0 { due := true }).pdo 0).due = true
      ∧ (withPdo node5 13 { held := some [1] }).pdo 13 = { held := some [1] })
    ∧ (lostNode.canOn 0 = true ∧ (0, 9) ∈ lostNode.net.lost ∧ (consumes 0).rdN .consumerHb 0 2 % 65536 ≠ 0 ∧ (consumes 1).rdN .hbAction 0 ≠ 0)
    ∧ (node5.fenced islNet = false ∧ node5.rdN .busState 0 ≠ 2 ∧ (with1 node5 .busState 0 0 2).rdN .busState 0 = 2
      ∧ ((withCtrl node5 0 { resume := true }).ctrl 0).resume = true) := by decide +kernel

/-- LINK may not insert: the FIFO of its direction is half full. -/
def crowded (s : State) : State := withLink s { fill := [65536, 65536] }

theorem witness_RingMembershipRowsComplete :
    Takes rootX9 .p0 { name := .enumReq } 1 ∧ Takes member2 .p0 { name := .memberOut } 1
    ∧ (live0.live = true ∧ live0.fenced islLink = false ∧ live0.isRoot = false ∧ rootX9.isRoot = true ∧ live0.isCollector = false
      ∧ (withIsland islLink { st := .fenced, cause := 1 }).fenced islLink = true
      ∧ (numbering rootX9).link.enumerating = true ∧ (numbering rootX9).link.tentative = some 0 ∧ (numbering live0).link.tentative = some 0)
    ∧ (live0.rdN .portState 0 ≠ 2 ∧ rootX9.rdN .portState 0 = 2 ∧ rootX9.rdN .portState 1 = 2 ∧ (with1 rootX9 .linkRingState 0 0 1).rdN .linkRingState = 1)
    ∧ (member2.memberState = 1 ∧ (with1 member2 .tbStatus 0 0 5).aligned = true ∧ member2.self = 2)
    ∧ ((with1 member2 .memberState 0 0 2).memberState = 2 ∧ member2.rdB .memberOut = false ∧ (with1 member2 .memberState 0 0 3).memberState = 3
      ∧ member2.aligned = false ∧ 1 < (with1 member2 .isRoot 0 0 1).rdN .ringSize ∧ (with1 member2 .isRoot 0 0 1).memberActive 1 = true)
    ∧ (member2.mayInsert = true ∧ member2.link.waiting = [] ∧ (crowded member2).mayInsert = false ∧ (crowded member2).fenced islLink = false)
    ∧ (with1 (with1 member2 .collector 0 0 2) .collectStream 0 0 0).isCollector = true :=
  ⟨tk (by decide +kernel), tk (by decide +kernel), by decide +kernel, by decide +kernel, by decide +kernel, by decide +kernel, by decide +kernel,
    by decide +kernel⟩

theorem witness_BurstRowsComplete :
    (∃ b, burstOf (burst 0 3 5 (fwdBody 0 0x2000 5)) = some b ∧ b.seq = 0 ∧ b.src = 5 ∧ b.void = false)
    ∧ (live0.live = true ∧ live0.fenced islLink = false ∧ burstOf [] = none ∧ NoHeld live0)
    ∧ ((withLink live0 { expect := [(1, 7)], naked := [1] }).link.naked = [1] ∧ (0 + 65536 - 7) % 65536 ≥ 32768)
    ∧ ((withLink live0 { halves := [(20, some { bytes := rec64, lost := false })] }).link.halves = [(20, some { bytes := rec64, lost := false })])
    ∧ ((withLink live0 { fwdPend := [(5, 0, .p3, 9)] }).link.fwdPend.find? (fun x => x.1 = 5) = some (5, 0, .p3, 9))
    ∧ (Store.get 0 sentOnce.link.nextSeq 5 = (0 + 1) % 65536 ∧ sentOnce.mayInsert = true ∧ sentOnce.link.waiting = [] ∧ (crowded live0).mayInsert = false
      ∧ 0 ≠ Store.get 0 sentOnce.link.nextSeq 5
      ∧ (sentOnce.link.logE ++ sentOnce.link.logW).find? (fun x => x.dst = 5 ∧ x.seq = 0) = some { dst := 5, seq := 0, size := 64, bytes := rec64 })
    ∧ ((member2.rdN .linkRingState ≠ 1 ∧ member2.fifoNow 0 + 96 ≤ 131072 ∧ member2.self ≠ 5)
      ∧ (with1 (with1 member2 .linkRingState 0 0 1) .portState 0 0 0).rdN .linkRingState = 1
      ∧ (with1 (with1 member2 .linkRingState 0 0 1) .portState 0 0 0).rdN .portState 0 ≠ 2)
    ∧ ((domVerdict member2 { path := .p0, ent := { name := .fwdOut }, size := 68, data := [1, 1, 0, 0] ++ rec64 }).st = .ok
      ∧ (domVerdict member2 { path := .p0, ent := { name := .fwdOut }, size := 68, data := [9, 1, 0, 0] ++ rec64 }).st ≠ .ok
      ∧ (verdict live0 { path := .p5, hostSeq := some 0, ents := [({ name := .calMaxAge }, 7)] }).st = .ok) :=
  ⟨⟨_, burstOf_withTrailer _ (by decide +kernel), by decide +kernel, by decide +kernel, by decide +kernel⟩, by decide +kernel⟩

theorem witness_PowerAndResetRowsComplete :
    Takes (railsAt 0 0 none) .p0 { name := .seqPowerReq } ((2 : BitVec 8).setWidth 32) ∧ Takes (railsAt 3 12 none) .p0 { name := .seqPowerReq } ((0 : BitVec 8).setWidth 32)
    ∧ Takes (with1 (railsAt 6 0 none) .dirtyMask 0 0 5) .p0 { name := .dirtyClr } 1 ∧ Takes live0 .p0 { name := .deviceReset } 0x72737421
    ∧ (live0.phase ≠ .unpowered ∧ live0.live = true ∧ live0.fenced islHost = false
      ∧ (railsAt 1 0 (some { rail := 0, up := true })).seqr.step = some { rail := 0, up := true } ∧ ((railsAt 1 0 none).rail 3).good = false
      ∧ (railsAt 1 0 none).goodAbove 3 < (601 : BitVec 16).toNat ∧ (99 : BitVec 16).toNat < (railsAt 1 0 none).offBelow 3)
    ∧ (let s := (Op.rail 0 { en := true, good := true }).apply (railsAt 3 12 none);
      0 ∈ s.managed ∧ s.rail 0 = { en := true, good := true } ∧ (600 : BitVec 16).toNat ≤ s.goodAbove 0 ∧ s.rdN .seqState = 3)
    ∧ ((collapsing).seqr.drops = [2, 1] ∧ (collapsing).rdN .seqState = 5)
    ∧ (let s := (Op.rail 0 { en := true, good := true }).apply (with1 live0 .bootRails 0 0 2);
      0 < s.bootN ∧ (s.rail 0).en = true ∧ (s.rail 0).good = true ∧ (600 : BitVec 16).toNat ≤ s.goodAbove 0)
    ∧ ((held { bootDown := true }).phase = .held ∧ (held {}).seqr.bstep = none ∧ State.phase { live0 with phase := .unpowered } = .unpowered
      ∧ ((List.range (with1 (held {}) .bootRails 0 0 2).bootN).any fun r => !((with1 (held {}) .bootRails 0 0 2).rail r).good) = true
      ∧ ((List.range (held {}).bootN).all fun r => ((held {}).rail r).en && ((held {}).rail r).good) = true) :=
  ⟨tk (by decide +kernel), tk (by decide +kernel), tk (by decide +kernel), tk (by decide +kernel), by decide +kernel, by decide +kernel,
    by decide +kernel, by decide +kernel, by decide +kernel⟩

/-! ### Ill-formed commands -/

/-- P6 is the X9 itself. -/
theorem test_wf_path : (Instr.moveAbs .p6 2).wf = false := by decide
theorem test_wf_path_ok : (Instr.moveAbs .p1 2).wf = true := by decide
/-- The record of a row has the opcode of the row and at most 48 bytes of data. -/
theorem test_wf_record_opcode : (Instr.nop .p3 (rec 1 0 0 0 [])).wf = false := by decide
theorem test_wf_record_long : (Instr.write .p3 (rec 2 0x2000 5 49 (List.replicate 49 0))).wf = false := by decide
theorem test_wf_record_path : (Instr.read .p6 (rec 1 0x2000 5 0 [])).wf = false := by decide
theorem test_wf_bad_opcode : (Instr.commandBadOpcode .p3 (rec 5 0 0 0 [])).wf = false := by decide
theorem test_wf_skews : (Instr.laneStartOfLine 0 (List.replicate 4 0) [0, 0, 0, 0, 0, 0, 0, 0, 0]).wf = false := by decide
theorem test_wf_words : (Instr.laneStartOfLine 0 (List.replicate 3 0) []).wf = false ∧ (Instr.laneEndOfLine 0 []).wf = false
    ∧ (Instr.laneIdleSequence 0 0 [0]).wf = false ∧ (Instr.laneUnlistedCode 0 0 (List.replicate 5 0)).wf = false := by decide
theorem test_wf_sense_axes : (Instr.planningCycle [(0, 0), (0, 0), (0, 0), (0, 0), (0, 0), (0, 0), (0, 0)]).wf = false := by decide
theorem test_wf_sense_code : (Instr.planningCycle [(0, 4096)]).wf = false := by decide
theorem test_wf_bank_empty : (Instr.bankAccessRead (.path .p0) 0 0 [] []).wf = false := by decide
theorem test_wf_bank_long : (Instr.bankAccessRead (.path .p0) 0 4097 [] []).wf = false := by decide
theorem test_wf_bank_write : (Instr.bankAccessWrite (.path .p0) 0 [] [] []).wf = false := by decide
theorem test_wf_fetch : (Instr.commandFetchComplete (List.replicate 63 0)).wf = false := by decide
theorem test_wf_qspi_read : (Instr.qspiRead 0 0).wf = false := by decide
theorem test_wf_qspi_quad : (Instr.qspiReadQuad 0 0).wf = false := by decide
theorem test_wf_qspi_write : (Instr.qspiWrite 0 [] false).wf = false := by decide
theorem test_wf_qspi_write_quad : (Instr.qspiWriteQuad 0 [] false).wf = false := by decide
theorem test_wf_qspi_status : (Instr.qspiReadStatus 0).wf = false := by decide
theorem test_wf_segment : (Instr.sdoDownloadSegment false [0, 0, 0, 0, 0, 0, 0, 0] false).wf = false := by decide
theorem test_wf_block_down : (Instr.sdoBlockDownload [0, 0, 0, 0, 0, 0, 0]).wf = false := by decide
theorem test_wf_block_up : (Instr.sdoBlockUpload [0, 0, 0, 0, 0, 0, 0]).wf = false := by decide
theorem test_wf_rpdo_a : (Instr.rpdoReceive 0 (List.replicate 9 0)).wf = false := by decide
theorem test_wf_rpdo_b : (Instr.rpdoReceive 4 (List.replicate 65 0)).wf = false := by decide
theorem test_wf_error_counter : (Instr.canErrorDetected 0 257 0 false).wf = false := by decide
theorem test_wf_burst : (Instr.lineBurstReceive 0 (List.replicate 7 0)).wf = false := by decide
theorem test_wf_window : (Instr.bar0WindowRead 0 0 0 0).wf = false := by decide
theorem test_wf_key_long : (Instr.keyLoad .p0 (List.replicate 0x200001 0)).wf = false := by
  have h : ¬ (List.replicate 0x200001 (0 : Byte)).length ≤ 0x200000 := by rw [List.length_replicate]; decide
  change (outside .p0 && decide ((List.replicate 0x200001 (0 : Byte)).length ≤ 0x200000)) = false
  rw [decide_eq_false h, Bool.and_false]

/-! ### Small checks of single steps against the spec -/

/-- `after` as the step runs it from the queue. -/
def stepped (s : State) : State :=
  match step s with
  | .next t => t
  | _ => s

/-- Word addresses of *The X9 in one pass* (R76), worked example of *The object dictionary*. -/
theorem test_address_basic : lookup 0x2620 1 = .ok { name := .axisMode, inst := 1 } := by decide +kernel
theorem test_address_expert : lookup 0x3620 1 = .ok { name := .retarget, inst := 1 } := by decide +kernel

/-- AX1 (unit 06), taken by P0 (worked example of *The object dictionary*). -/
def axis1Of (p : U32) : State := with1 live0 .claim 0 5 p
theorem test_claim_take : (after (.claimTake .p0 5 0) live0).rd .claim 0 5 = 0
    ∧ (after (.claimTake .p0 5 0) live0).rd .epoch 0 5 = 1 := by decide +kernel
/-- Step 3: P3's write is refused with CLAIMED. -/
theorem test_claimed_write : (after (.dictionaryWrite .p3 0x2620 1 2 0xF) (axis1Of 0)).rd .lastStatus 0 3 = 0x06262001 := by decide +kernel
/-- Step 6: P3 breaks the claim. -/
theorem test_claim_broken : (after (.claimBroken .p3 5) (granted3 (axis1Of 0))).rd .claim 0 5 = 0xFF
    ∧ (after (.claimBroken .p3 5) (granted3 (axis1Of 0))).rd .epoch 0 5 = 1 := by decide +kernel
/-- Step 7: a conditional write with an old epoch completes with EPOCH_STALE, and the entry keeps its value. -/
theorem test_stale_epoch : (after (.write .p3 { rec 2 0x2620 1 4 [2] with flags := 1, expEpoch := 7 }) live0).rd .axisMode 1 = 0
    ∧ (after (.write .p3 { rec 2 0x2620 1 4 [2] with flags := 1, expEpoch := 0 }) live0).rd .axisMode 1 = 2 := by decide +kernel

/-- Parallel-port session: the halves of CAL_MAX_AGE (*Parallel port and QSPI port*), 600,000 ms. -/
theorem test_lower_half : ((after (.parWriteLowerHalf 0x200005 0x27C0) live0).port 1).stage = some (0x2000, 5, 0x27C0) := by decide +kernel
theorem test_upper_half : ((after (.parWriteUpperHalf 0x200005 9) (withPort 1 { stage := some (0x2000, 5, 0x27C0) })).port 1).queue
    = [.write 0x2000 5 0x927C0] := by decide +kernel
/-- The upper half first: LENGTH, in LAST_STATUS of P1 and in PAR_ERR. -/
theorem test_upper_half_first : (after (.parWriteUpperHalf 0x200005 9) live0).rd .lastStatus 0 1 = 0x0B200005
    ∧ (after (.parWriteUpperHalf 0x200005 9) live0).rd .parErr = 1 := by decide +kernel
theorem test_posted_write : (after (.postedQueueDispatch 0) (withPort 1 { queue := [.write 0x2000 5 0x927C0] })).rd .calMaxAge = 600000 := by
  decide +kernel

/-- Segments 400 · 1, 5 · 19,843 and 300 · 1 last 99,915 step clocks (*Ductus, Nib and Ruling*). -/
theorem test_line_duration : (after (.lineDurUpdate 0) (with1 (with1 (with1 (with1 (with1 (with1 (with1 live0 .segCount 0 0 3) .segLen 0 0 400)
    .segLen 0 1 5) .segLen 0 2 300) .segRep 0 0 1) .segRep 0 1 19843) .segRep 0 2 1)).rd .lineDur 0 = 99915 := by decide +kernel

/-- The range decisions of *Video front end*: up from range 2 on a clipped pixel; down from range 7 on a second sample of 0.2 V;
none in range 4, where 0.2 V is not below 0.1835 V. -/
theorem test_range_decision : rangeDecision 0x70 2 1024 65535 1337000 none 36424 = some 3
    ∧ rangeDecision 0x70 7 1024 7578 838861 (some 838861) 5896 = some 6
    ∧ rangeDecision 0x70 4 1024 20567 838861 (some 838861) 17581 = none := by decide +kernel

/-- The skips of *Flourish and the strings*: the fourth request is 291 steps of 78.125 ps; the first period is skipped. -/
def faint (residue : Int) : State := withString (with1 (with1 (with1 (with1 (stringAt 2) .lsPwmPeriod 1 0 3200) .dim 1 0 1024) .photonMode 0 0 1)
    .photonStrings 0 0 2) 1 { level := 1024, period := 3200, dim := 1024, scale := 2385, residue := residue }
def faintNow (residue : Int) : State := { faint residue with pace := { scale := 2385 } }
theorem test_dim_skip : ((after (.dimmingPeriodStart 1 0 []) (faintNow 0)).lstr 1).onSteps = 0
    ∧ (after (.dimmingPeriodStart 1 0 []) (faintNow 0)).rd .lsSkipCount 1 = 1 := by decide +kernel
theorem test_dim_residue : ((after (.dimmingPeriodStart 1 0 []) (faintNow 937820160000)).lstr 1).onSteps = 291
    ∧ (after (.dimmingPeriodStart 1 0 []) (faintNow 937820160000)).rd .lsSkipCount 1 = 0 := by decide +kernel

/-- A contested handover of BANK4 (*Banks, memory and keys*): P0 is taken first, P3 gets BUSY. -/
def bank4 : State := with1 live0 .owner 4 0 0
theorem test_bank_handover : (after (.bankOwnerWrite .p0 4 0x10) bank4).rd .owner 4 = 0x10
    ∧ (after (.bankOwnerWrite .p0 4 0x10) bank4).rd .bankState 4 = 3 := by decide +kernel
theorem test_bank_contested : (after (.bankOwnerWrite .p3 4 3) (after (.bankOwnerWrite .p0 4 0x10) bank4)).rd .lastStatus 0 3 = 0x0F2B1401 := by
  decide +kernel

/-- FREE_RECORDS of the worked example of *Host port and streams*: 372,400 units freed give 200 records. -/
def stream0 : State := with1 (with1 (with1 (with1 (with1 live0 .bufLog2 0 0 26) .streamState 0 0 1) .wrPtr 0 0 1048306) .headEn 0 0 1)
  .pixels 0 0 19843
theorem test_free_records : (after (.rdPtrWrite .p0 0 372400) stream0).rd .freeRecords 0 = 200 := by decide +kernel

/-- COVER_OPEN of head 0 on CAN-A: 03 74 81 03 25 00 00 00, and PARK (*Events*). -/
theorem test_cover_emcy : (after (.coverDebounceExpired 0) (with1 (with1 covered .nodeIdNow 0 0 5) .nmtState 0 0 5)).out.contains
    (.can 0 0x85 [0x03, 0x74, 0x81, 0x03, 0x25, 0, 0, 0]) = true := by decide +kernel

/-- A VSYNC edge 8.333 333 25 ms after the last one: CAP_PERIOD reads 33,333,333 (*Timers*). -/
def vsync : State := { (Op.timer 31 { lastRise := some 1000 }).apply (with1 (with1 (with1 live0 .tmrState 31 0 2) .capSrc 31 0 0x11) .capEdge 31 0 2)
  with time := BitVec.ofNat 64 33334413 }
theorem test_capture : (after (.captureEdge 31 true 80) vsync).rd .capPeriod 31 = 33333333
    ∧ (after (.captureEdge 31 true 80) vsync).rd .capSeq 31 = 1 := by decide +kernel

/-- Managed rails 4 to 7 (*Rails, power sequencing and reset*): POWER_REQ = 2 starts the up step of rail 4. -/
theorem test_rails_up : (after (.powerReqWrite .p0 2) (with1 live0 .railMask 0 0 0xF0)).rd .seqState = 1
    ∧ (after (.powerReqWrite .p0 2) (with1 live0 .railMask 0 0 0xF0)).rd .seqStep = 4 := by decide +kernel

/-- The quadrature step 00 to A high counts up (R362). -/
theorem test_encoder_up : ((after (.encoderTransition 2 true false) (with1 (axisAt 1) .encEn 2 0 1)).rd .encPos 2) = 1 := by decide +kernel

/-- Worked figures: G of *Line processing and calibration*; REAL32 of 41.5; the check values of CRC-32 and of SHA-256 of "abc". -/
theorem test_gain : roundDiv (60000 * 16384) 45722 = 21500 := by decide
theorem test_real32 : ratReal (mkRat 83 2) = 0x42260000#32 ∧ realRat 0x42260000#32 = mkRat 83 2 := by decide +kernel
theorem test_crc32 : crc32 [0x31, 0x32, 0x33, 0x34, 0x35, 0x36, 0x37, 0x38, 0x39] = 0xCBF43926#32 := by decide +kernel
theorem test_sha256 : (sha256 [0x61, 0x62, 0x63]).take 4 = [0xBA, 0x78, 0x16, 0xBF] := by decide +kernel

/-- 1,161.200 ohms on curve 2 is 41.50 degrees (*Heath*): the inversion lies between 41.495 and 41.505. -/
theorem test_pt1000 : mkRat 41495 1000 < mkRat (invert (curveR 2) (mkRat 11612 10) 24 (-819200) 3481600) 4096
    ∧ mkRat (invert (curveR 2) (mkRat 11612 10) 24 (-819200) 3481600) 4096 < mkRat 41505 1000 := by decide +kernel

/-- A step takes the front of the queue; on an empty queue a cycle of 400 MHz passes. -/
theorem test_step_front : (stepped { live0 with pending := [.claimTake .p0 5 0, .parErrRead .p1] }).pending = [.parErrRead .p1]
    ∧ (stepped { live0 with pending := [.claimTake .p0 5 0] }).rd .epoch 0 5 = 1 := by decide +kernel
theorem test_step_idle : (stepped live0).time = live0.time + 10 := by decide +kernel

end Sys2Proof.Tests
end

section
/-! SUPPORT. Programs that run in states of one kind: what every update of a program asked only in states that meet a condition satisfies,
and what follows where each such update keeps the condition. -/
namespace Sys2Proof.Machine

namespace Prog

/-- Every primitive update that the program can make, asked only in states that meet `I`, satisfies `P`. -/
def AllUnder (I : State → Prop) (P : Op → Prop) : Prog → Prop
  | .nop => True
  | .op o => P o
  | .seq p q => AllUnder I P p ∧ AllUnder I P q
  | .ask k => ∀ s, I s → AllUnder I P (k s)

variable {I : State → Prop} {P : Op → Prop}

@[simp] theorem allUnder_nop : AllUnder I P .nop = True := rfl
@[simp] theorem allUnder_op (o : Op) : AllUnder I P (.op o) = P o := rfl
@[simp] theorem allUnder_seq (p q : Prog) : AllUnder I P (.seq p q) = (AllUnder I P p ∧ AllUnder I P q) := rfl
@[simp] theorem allUnder_ask (k : State → Prog) : AllUnder I P (.ask k) = ∀ s, I s → AllUnder I P (k s) := rfl
@[simp] theorem allUnder_all (l : List Prog) : AllUnder I P (all l) ↔ ∀ p ∈ l, AllUnder I P p := by
  induction l with
  | nil => simp
  | cons p l ih => simp [ih]
@[simp] theorem allUnder_each {α : Type} (l : List α) (f : α → Prog) : AllUnder I P (each l f) ↔ ∀ a ∈ l, AllUnder I P (f a) := by
  simp [each]
@[simp] theorem allUnder_when (b : Bool) (p : Prog) : AllUnder I P (when b p) ↔ (b = true → AllUnder I P p) := by
  cases b <;> simp
@[simp] theorem allUnder_ite (c : Prop) [Decidable c] (p q : Prog) :
    AllUnder I P (if c then p else q) ↔ (c → AllUnder I P p) ∧ (¬ c → AllUnder I P q) := by
  split <;> simp [*]

/-- Where every update keeps `I` and moves along a reflexive and transitive relation, the program does both. -/
theorem run_relUnder {R : State → State → Prop} (refl : ∀ s, R s s) (trans : ∀ {a b c}, R a b → R b c → R a c)
    (step : ∀ (o : Op) (s : State), P o → I s → R s (o.apply s) ∧ I (o.apply s)) (p : Prog) (h : AllUnder I P p) (s : State) (hs : I s) :
    R s (p.run s) ∧ I (p.run s) := by
  induction p generalizing s with
  | nop => exact ⟨refl s, hs⟩
  | op o => exact step o s h hs
  | seq p q hp hq =>
    obtain ⟨r, hs⟩ := hp h.1 s hs
    obtain ⟨r', hs⟩ := hq h.2 _ hs
    exact ⟨trans r r', hs⟩
  | ask k ih => exact ih s (h s hs) s hs

/-- Where every update keeps `I`, the program keeps it. -/
theorem run_keepsUnder (step : ∀ (o : Op) (s : State), P o → I s → I (o.apply s)) (p : Prog) (h : AllUnder I P p) (s : State) (hs : I s) :
    I (p.run s) :=
  (run_relUnder (R := fun _ _ => True) (fun _ => trivial) (fun _ _ => trivial) (fun o s ho hs => ⟨trivial, step o s ho hs⟩) p h s hs).2

@[simp] theorem allUnder_wr (n : Name) (j : Nat) (v : U32) : AllUnder I P (wr n j v) = P (.put n j 0 v) := rfl
@[simp] theorem allUnder_wri (n : Name) (j i : Nat) (v : U32) : AllUnder I P (wri n j i v) = P (.put n j i v) := rfl
@[simp] theorem allUnder_wrN (n : Name) (j v : Nat) : AllUnder I P (wrN n j v) = P (.put n j 0 (u32 v)) := rfl
@[simp] theorem allUnder_output (o : Output) : AllUnder I P (output o) = P (.output o) := rfl

end Prog

end Sys2Proof.Machine
end

section
/-! SUPPORT. What an accepted write changes, and when nothing follows a program. -/
namespace Sys2Proof.Machine

open Prog

theorem masked_full {n : Name} (h : entMask n = 0xFFFFFFFF) (v : U32) : masked n v = v := by
  rw [masked, h, show u32 0xFFFFFFFF = BitVec.allOnes 32 from rfl, BitVec.and_allOnes]

/-- The entries that an accepted write changes beside its own: the epoch of its unit, and the calibration states. -/
def commitKeys (e : Ent) : List Nat := (e.unit.map epochKey).toList ++ calKeys

theorem bump_within {W : List Nat} {L : List Part} {u : Nat} (h : epochKey u ∈ W) : (bump u).All (Op.within W L) := fun _ => h

theorem journalWrite_within (W : List Nat) {L : List Part} (hL : ∀ x ∈ reporting, x ∈ L) (c : Ctx) (e : Ent) (u k : Nat) (v : U32) :
    (journalWrite c e u k v).All (Op.within W L) := by
  simp only [journalWrite, all_ask, all_all, all_op, List.forall_mem_cons, Op.within, Op.touches]
  exact fun s => ⟨⟨by simp, hL⟩, by simpa using hL .fresh (by simp [reporting]), by simp⟩

theorem invalidateIf_within {W : List Nat} {L : List Part} (hW : ∀ k ∈ calKeys, k ∈ W) (hL : Part.calTime ∈ L) (i : Nat) :
    (invalidateIf i).All (Op.within W L) := by
  simp only [invalidateIf, invalidateCal, wr, all_ask, all_when, all_seq, all_each, all_op, Op.within, Op.touches]
  exact fun s _ => ⟨by simpa using hL, fun h hh => hW _ (List.mem_map_of_mem hh)⟩

/-- An accepted write gives its entry the value; what else it changes is the epoch of its unit, the calibration, and the reports. -/
theorem commit_frame (c : Ctx) (n : Name) (j i : Nat) (v : U32) (s : State) :
    Frame (commitKeys { name := n, inst := j, item := i }) (.calTime :: reporting) ((Op.put n j i (masked n v)).apply s)
      ((commit c n j i v).run s) := by
  refine Prog.run_frame (p := .seq _ (.seq _ (.seq _ .nop))) ⟨?_, journalWrite_within _ (fun x hx => .tail _ hx) _ _ _ _ _,
    invalidateIf_within (fun k hk => List.mem_append_right _ hk) (.head _) _, trivial⟩ _
  split
  · next u hu => exact bump_within (by simp [hu])
  · trivial

/-- Where no record is held after a program, nothing follows it. -/
theorem settled_run_noHeld {p : Prog} {s : State} (h : NoHeld (p.run s)) : (settled p).run s = p.run s := by
  obtain ⟨h3, h4, h5⟩ := h
  simp only [settled, run_seq, run_ask, h3, h4, h5]
  rfl

end Sys2Proof.Machine
end

section
/-! SUPPORT. What the islands' parts in a change of mode, the reports and the completions leave alone: MODE, its requests, and the command records
that wait. -/
namespace Sys2Proof.Machine

open Prog

/-- What a halt line and a completion that waits for HOST do to the record of the modes leaves `J` true. -/
def HaltClosed (J : Modes → Prop) : Prop := ∀ m l t d, J m → J { m with haltLines := l, haltAt := t, due := d }

/-- The mode and its requests meet `J`, and no command record waits behind another one. -/
def State.ModesMeet (J : Modes → Prop) (s : State) : Prop := J s.modes ∧ NoHeld s

/-- What an island's part in a change of mode may do: the record of the modes goes on meeting `J`, no command record comes to wait, and of the entries
at [2000] only CAL_USED is written. -/
def Op.besideModes (J : Modes → Prop) : Op → Prop
  | .modes r => J r
  | .cmd k r => k ∈ [3, 4, 5] → r.held = []
  | .clearState _ => False
  | .put n _ _ _ => n = .calUsed ∨ 0x2001 ≤ (rowOf n).base
  | _ => True

/-- Every update of the program is one of an island's part in a change of mode. -/
abbrev BesideModes (J : Modes → Prop) (p : Prog) : Prop := p.AllUnder (State.ModesMeet J) (Op.besideModes J)

theorem Op.besideModes_keeps {J : Modes → Prop} (o : Op) (s : State) (ho : o.besideModes J) (hs : s.ModesMeet J) :
    (o.apply s).ModesMeet J := by
  obtain ⟨hJ, h3, h4, h5⟩ := hs
  have hm : (o.apply s).modes = s.modes ∨ J (o.apply s).modes := by
    cases o with
    | modes r => exact .inr ho
    | clearState f => exact ho.elim
    | _ => exact .inl (State.modes_frame (by simp))
  have hc (k : Nat) (hk : k ∈ [3, 4, 5]) (h : (s.cmd k).held = []) : ((o.apply s).cmd k).held = [] := by
    cases o with
    | cmd j r =>
      rw [State.cmd_apply]
      split
      · next e => exact ho (e ▸ hk)
      · exact h
    | clearState f => exact ho.elim
    | _ => rw [State.cmd_frame (by simp)]; exact h
  exact ⟨hm.elim (fun e => e ▸ hJ) id, hc 3 (by simp) h3, hc 4 (by simp) h4, hc 5 (by simp) h5⟩

theorem BesideModes.run {J : Modes → Prop} {p : Prog} (h : BesideModes J p) {s : State} (hs : s.ModesMeet J) : (p.run s).ModesMeet J :=
  Prog.run_keepsUnder Op.besideModes_keeps p h s hs

/-- The subs of an index do not run into MODE_REQ or PARK_CAUSE, the entries at [2000] that a change of mode itself writes. -/
theorem Op.besideModes_leaves {J : Modes → Prop} {o : Op} (h : o.besideModes J) {n : Name} (hn : n = .modeReq ∨ n = .parkCause) :
    o.leavesEntry (keyOf n 0 0) := by
  have hk : keyOf n 0 0 < 0x200100 ∧ (keyOf n 0 0 % 256 = 1 ∨ keyOf n 0 0 % 256 = 3) := by
    rcases hn with rfl | rfl <;> decide
  cases o with
  | clearState f => exact h.elim
  | report e => intro _ hc; rw [hc] at hk; exact absurd hk (by decide)
  | numberWaiting t => intro hc; rw [hc] at hk; exact absurd hk (by decide)
  | put m j i v =>
    intro hc
    rw [← hc] at hk
    rcases h with rfl | h
    · simp [keyOf, indexOf, subOf, rowOf] at hk
      omega
    · have : m ≠ .highestSub := by rintro rfl; exact absurd h (by decide)
      have : indexOf m j = (rowOf m).base + (rowOf m).stride * j := by unfold indexOf; split <;> simp_all
      simp only [keyOf, this] at hk
      omega
  | _ => trivial

theorem BesideModes.run_rd {J : Modes → Prop} {p : Prog} (h : BesideModes J p) {s : State} (hs : s.ModesMeet J) {n : Name}
    (hn : n = .modeReq ∨ n = .parkCause) : (p.run s).rd n = s.rd n :=
  (Prog.run_relUnder (R := fun a b => b.rd n = a.rd n) (fun _ => rfl) (fun f g => g.trans f)
    (fun o s ho hs => ⟨State.rd_leaves (Op.besideModes_leaves ho hn), o.besideModes_keeps s ho hs⟩) p h s hs).1


/-! ### Updates and their shorthands -/

section
variable {J : Modes → Prop}

theorem besideModes_put {n : Name} (h : 0x2001 ≤ (rowOf n).base) (j i : Nat) (v : U32) : (Op.put n j i v).besideModes J := .inr h

@[simp] theorem besideModes_putCalUsed (j i : Nat) (v : U32) : (Op.put .calUsed j i v).besideModes J := .inl rfl
@[simp] theorem besideModes_free : Op.free.besideModes J = True := rfl
@[simp] theorem besideModes_output (o : Output) : (Op.output o).besideModes J = True := rfl
@[simp] theorem besideModes_report (e : JEntry) : (Op.report e).besideModes J = True := rfl
@[simp] theorem besideModes_signal (v : Nat) : (Op.signal v).besideModes J = True := rfl
@[simp] theorem besideModes_nextSeq : Op.nextSeq.besideModes J = True := rfl
@[simp] theorem besideModes_calTime (r : Option Nat) : (Op.calTime r).besideModes J = True := rfl
@[simp] theorem besideModes_link (r : Link) : (Op.link r).besideModes J = True := rfl

@[simp] theorem modHead_besideModes (k : Nat) (f : Head → Head) : BesideModes J (modHead k f) := fun _ _ => trivial
@[simp] theorem modChan_besideModes (k : Nat) (f : Chan → Chan) : BesideModes J (modChan k f) := fun _ _ => trivial
@[simp] theorem modWatch_besideModes (f : Watch → Watch) : BesideModes J (modWatch f) := fun _ _ => trivial
@[simp] theorem modLineUnit_besideModes (k : Nat) (f : LineUnit → LineUnit) : BesideModes J (modLineUnit k f) := fun _ _ => trivial
@[simp] theorem modAxis_besideModes (k : Nat) (f : Axis → Axis) : BesideModes J (modAxis k f) := fun _ _ => trivial
@[simp] theorem modLstr_besideModes (k : Nat) (f : LStr → LStr) : BesideModes J (modLstr k f) := fun _ _ => trivial
@[simp] theorem modStream_besideModes (k : Nat) (f : Stream → Stream) : BesideModes J (modStream k f) := fun _ _ => trivial
@[simp] theorem modUnread_besideModes (k : Nat) (f : List (List Byte) → List (List Byte)) : BesideModes J (modUnread k f) := fun _ _ => trivial
@[simp] theorem modPort_besideModes (k : Nat) (f : Port → Port) : BesideModes J (modPort k f) := fun _ _ => trivial
@[simp] theorem modPdo_besideModes (k : Nat) (f : Pdo → Pdo) : BesideModes J (modPdo k f) := fun _ _ => trivial
@[simp] theorem modCtrl_besideModes (k : Nat) (f : Ctrl → Ctrl) : BesideModes J (modCtrl k f) := fun _ _ => trivial
@[simp] theorem modLink_besideModes (f : Link → Link) : BesideModes J (modLink f) := fun _ _ => trivial
@[simp] theorem modRing_besideModes (f : Ring → Ring) : BesideModes J (modRing f) := fun _ _ => trivial

theorem modCmd_besideModes {k : Nat} {f : CmdPath → CmdPath} (hf : ∀ c, (f c).held = c.held) : BesideModes J (modCmd k f) := by
  intro s hs hk
  obtain ⟨-, h3, h4, h5⟩ := hs
  rw [hf]
  simp only [List.mem_cons, List.not_mem_nil, or_false] at hk
  rcases hk with rfl | rfl | rfl <;> assumption

@[simp] theorem bump_besideModes (u : Nat) : BesideModes J (bump u) := fun _ _ => besideModes_put (by decide) _ _ _

theorem countUp_besideModes {n : Name} (h : 0x2001 ≤ (rowOf n).base) (j : Nat) : BesideModes J (countUp n j) :=
  fun _ _ => besideModes_put h _ _ _

theorem invalidateIf_besideModes (i : Nat) : BesideModes J (invalidateIf i) := by
  simp (disch := decide) [invalidateIf, invalidateCal, besideModes_put]

theorem journalWrite_besideModes (c : Ctx) (e : Ent) (u k : Nat) (v : U32) : BesideModes J (journalWrite c e u k v) := by
  simp (disch := decide) [journalWrite]

theorem commit_besideModes {n : Name} (h : 0x2001 ≤ (rowOf n).base) (c : Ctx) (j i : Nat) (v : U32) :
    BesideModes J (commit c n j i v) := by
  refine ⟨besideModes_put h _ _ _, ?_, journalWrite_besideModes _ _ _ _ _, invalidateIf_besideModes _, trivial⟩
  split
  · exact bump_besideModes _
  · trivial

/-! ### The heads -/

@[simp] theorem headTo_besideModes (h st : Nat) : BesideModes J (headTo h st) := by
  simp (disch := decide) [headTo, besideModes_put]

@[simp] theorem abandonCal_besideModes (h : Nat) : BesideModes J (abandonCal h) := by
  simp (disch := decide) [abandonCal, besideModes_put]

@[simp] theorem modQueued_besideModes (h n : Nat) (f : LineCap → LineCap) : BesideModes J (modQueued h n f) := fun _ _ => trivial

@[simp] theorem settleLast_besideModes (h : Nat) : BesideModes J (settleLast h) := by
  simp only [settleLast, allUnder_ask]
  intro s _
  split <;> simp

@[simp] theorem closePage_besideModes (h : Nat) : BesideModes J (closePage h) := by
  simp (disch := decide) [closePage]

@[simp] theorem disarm_besideModes (h st : Nat) : BesideModes J (disarm h st) := by
  simp [disarm, drivePhases]

@[simp] theorem enqueueLine_besideModes (h : Nat) (c : LineCap) : BesideModes J (enqueueLine h c) := by
  simp [enqueueLine]

@[simp] theorem truncateLine_besideModes (h : Nat) : BesideModes J (truncateLine h) := by
  simp only [truncateLine, allUnder_ask]
  intro s _
  split <;> simp

@[simp] theorem leaveScan_besideModes (h : Nat) : BesideModes J (leaveScan h) := by
  simp only [leaveScan, allUnder_ask]
  intro s _
  split <;> simp

@[simp] theorem staleArm_besideModes (h : Nat) : BesideModes J (staleArm h) := by simp [staleArm]

@[simp] theorem leaveDone_besideModes (h : Nat) : BesideModes J (leaveDone h) := by simp [leaveDone]

@[simp] theorem parkHead_besideModes (h : Nat) : BesideModes J (parkHead h) := by simp [parkHead]

@[simp] theorem calCrcs_besideModes : BesideModes J calCrcs := by
  intro s _
  simp (disch := decide) only [allUnder_each, allUnder_when, allUnder_wr, besideModes_put, implies_true]

/-! ### The axes and the strings -/

@[simp] theorem axisTo_besideModes (a st : Nat) : BesideModes J (axisTo a st) := by
  simp (disch := decide) [axisTo, besideModes_put]

@[simp] theorem axisStatusTo_besideModes (a x y : Nat) : BesideModes J (axisStatusTo a x y) := by
  simp (disch := decide) [axisStatusTo, besideModes_put]

@[simp] theorem axisPins_besideModes (a : Nat) : BesideModes J (axisPins a) := by simp [axisPins]

@[simp] theorem restPlan_besideModes (a : Nat) : BesideModes J (restPlan a) := by
  simp (disch := decide) [restPlan, besideModes_put]

@[simp] theorem holdOutputs_besideModes (a : Nat) : BesideModes J (holdOutputs a) := by simp [holdOutputs]

@[simp] theorem stringTo_besideModes (k st : Nat) : BesideModes J (stringTo k st) := by
  simp (disch := decide) [stringTo, besideModes_put]

@[simp] theorem stringEnZero_besideModes (k : Nat) : BesideModes J (stringEnZero k) := by
  simp (disch := decide) [stringEnZero, p6Write, commit_besideModes]

@[simp] theorem stringOffNow_besideModes (k : Nat) : BesideModes J (stringOffNow k) := by simp [stringOffNow, gateOff]

@[simp] theorem stringFade_besideModes (k : Nat) : BesideModes J (stringFade k) := by simp [stringFade, fadeTo]

@[simp] theorem stringsOff_besideModes (now : Bool) : BesideModes J (stringsOff now) := by simp [stringsOff, stringDisable]

/-! ### Completions and what carries them -/

@[simp] theorem heartbeat_besideModes (x : Nat) : BesideModes J (heartbeat x) := by
  simp (disch := decide) [heartbeat]

@[simp] theorem nmtFollow_besideModes (x : Nat) : BesideModes J (nmtFollow x) := by
  simp (disch := decide) [nmtFollow, besideModes_put]

@[simp] theorem refuse_besideModes (p : Path) (st : Status) (i j : Nat) : BesideModes J (refuse p st i j) := by
  refine ⟨besideModes_put (by decide) _ _ _, ?_⟩
  unfold portRefusal
  split <;> simp (disch := decide) [countUp_besideModes]

@[simp] theorem finishPath_besideModes (p : Path) : BesideModes J (finishPath p) := by
  simp [finishPath, portPop, modCmd_besideModes]

@[simp] theorem transmit_besideModes (port : Nat) (x : Sent) : BesideModes J (transmit port x) := by
  simp (disch := decide) [transmit]

@[simp] theorem resendOne_besideModes (k q : Nat) : BesideModes J (resendOne k q) := by
  simp only [resendOne, allUnder_ask]
  intro s _
  split <;> simp (disch := decide) [countUp_besideModes]

@[simp] theorem insertSome_besideModes (n : Nat) : BesideModes J (insertSome n) := by
  induction n with
  | zero => trivial
  | succ n ih =>
    simp only [insertSome, allUnder_ask]
    intro s _
    split
    · trivial
    · simp only [allUnder_when, allUnder_all, List.forall_mem_cons, modLink_besideModes, ih, List.not_mem_nil, false_imp_iff, implies_true,
        and_true, true_and]
      intro _
      split <;> simp [insertBurst]

@[simp] theorem sendBurst_besideModes (k d h l : Nat) (b : List Byte) : BesideModes J (sendBurst k d h l b) := by
  simp [sendBurst, insertWaiting]

@[simp] theorem deliver_besideModes (p : Path) (src : Nat) (b : List Byte) : BesideModes J (deliver p src b) := by
  simp only [deliver, allUnder_ask]
  intro s _
  split <;> simp (disch := decide) [besideModes_put]

@[simp] theorem ringSettle_besideModes : BesideModes J ringSettle := by
  simp (disch := decide) [ringSettle, ringIdle, besideModes_put]

@[simp] theorem complete_besideModes (p : Path) (src : Nat) (r : CmdRecord) (st : Status) (u e isl : Nat) (d : List Byte) (at' : Nat × Nat) :
    BesideModes J (complete p src r st u e isl d at') := by
  simp (disch := decide) [complete]
end

/-! ### What reports events -/

section
variable {J : Modes → Prop} (hJ : HaltClosed J)
include hJ

theorem emitBy_besideModes (p : Path) (ev : Event) (unit isl : Nat) (p1 p2 : U32) : BesideModes J (emitBy p ev unit isl p1 p2) :=
  fun _ _ => by
    simp (disch := decide) only [allUnder_all, List.forall_mem_cons, allUnder_when, allUnder_op, besideModes_report, besideModes_free,
      List.not_mem_nil, false_imp_iff, implies_true, and_true]
    exact fun _ s hs => hJ _ _ _ s.modes.due hs.1

theorem headOnce_besideModes (h : Nat) (ev : Event) (isl : Nat) (p1 p2 : U32) : BesideModes J (headOnce h ev isl p1 p2) := by
  simp [headOnce, emitBy_besideModes hJ]

theorem closeLanes_besideModes (h : Nat) : BesideModes J (closeLanes h) := by
  simp only [closeLanes, allUnder_ask]
  intro s _
  split <;> simp [shortEvent, headOnce_besideModes hJ]

theorem arm_besideModes (h : Nat) : BesideModes J (arm h) := by
  simp (disch := decide) [arm, closeLanes_besideModes hJ, headOnce_besideModes hJ, emitBy_besideModes hJ, besideModes_put]

theorem paceAbort_besideModes : BesideModes J paceAbort := by
  simp (disch := decide) [paceAbort, paceTo, emitBy_besideModes hJ, besideModes_put]

theorem homeFailed_besideModes (a : Nat) : BesideModes J (homeFailed a) := by
  simp [homeFailed, emitBy_besideModes hJ]

theorem stopAxes_besideModes : BesideModes J stopAxes := by
  simp [stopAxes, rampStop, homeFailed_besideModes hJ, paceAbort_besideModes hJ]

theorem immediateStop_besideModes (a : Nat) : BesideModes J (immediateStop a) := by
  simp (disch := decide) [immediateStop, setUncertain, homeFailed_besideModes hJ, emitBy_besideModes hJ, besideModes_put]

theorem parkAxes_besideModes : BesideModes J parkAxes := by
  simp [parkAxes, immediateStop_besideModes hJ, paceAbort_besideModes hJ]

theorem streamsPark_besideModes : BesideModes J streamsPark := by
  simp (disch := decide) [streamsPark, streamStop, streamStopped, discardCount, streamTo, sendFree, emitBy_besideModes hJ, besideModes_put]

theorem coversAtLeave_besideModes : BesideModes J coversAtLeave := by
  simp [coversAtLeave, coverReport, emitBy_besideModes hJ]

theorem completeMode_besideModes (q : ModeReq) (st : Status) : BesideModes J (completeMode q st) := by
  simp only [completeMode, allUnder_ask, allUnder_ite]
  refine fun s _ => ⟨fun _ s hs => hJ s.modes s.modes.haltLines s.modes.haltAt _ hs.1, fun _ => ?_⟩
  split
  all_goals simp [rpdoRefused, emitBy_besideModes hJ]

theorem leaveMode_besideModes (m n : Mode) : BesideModes J (leaveMode m n) := by
  simp [leaveMode, heads, inIsland, stopAxes_besideModes hJ, arm_besideModes hJ]

theorem parkIslands_besideModes (fade : Bool) : BesideModes J (parkIslands fade) := by
  simp [parkIslands, heads, inIsland, parkAxes_besideModes hJ, streamsPark_besideModes hJ]
end
end Sys2Proof.Machine
end

section
/-! SUPPORT. What taking up a mode request, the end of a transition and the entry into PARK do to MODE, its requests and PARK_CAUSE. -/
namespace Sys2Proof.Machine

open Prog

/-- MODE, TARGET and the request in flight have these values. -/
def Modes.At (x : Mode) (y : Option Mode) (z : Option ModeReq) (m : Modes) : Prop := m.mode = x ∧ m.target = y ∧ m.inFlight = z

theorem haltClosed_at (x : Mode) (y : Option Mode) (z : Option ModeReq) : HaltClosed (Modes.At x y z) := fun _ _ _ _ h => h

/-- MODE, its requests and TARGET have these values, and no request is pending. -/
def Modes.NonePending (x : Mode) (y : Option Mode) (z : Option ModeReq) (m : Modes) : Prop := m.At x y z ∧ m.pendingReq = none

theorem haltClosed_nonePending (x : Mode) (y : Option Mode) (z : Option ModeReq) : HaltClosed (Modes.NonePending x y z) := fun _ _ _ _ h => h

/-- The write of MODE_REQ gives it the value; it changes no mode and holds no record. -/
theorem commit_modeReq (c : Ctx) (v : U32) (s : State) :
    ((commit c .modeReq 0 0 v).run s).rd .modeReq = v ∧ ((commit c .modeReq 0 0 v).run s).modes = s.modes
      ∧ ∀ k, ((commit c .modeReq 0 0 v).run s).cmd k = s.cmd k := by
  obtain ⟨hd, hp⟩ := commit_frame c .modeReq 0 0 v s
  refine ⟨?_, hp .modes (by decide), fun k => congrArg (fun x => Store.get ({} : CmdPath) x k) (hp .cmds (by decide))⟩
  rw [hd _ _ _ (by decide), State.rd_put, masked_full rfl]

theorem acceptMode_modeReq (q : ModeReq) (s : State) :
    ((acceptMode q).run s).rd .modeReq = u32 q.mode.code ∧ ((acceptMode q).run s).modes = s.modes
      ∧ ∀ k, ((acceptMode q).run s).cmd k = s.cmd k := commit_modeReq _ _ s

/-- A request whose conditions hold is taken up: it goes in flight, and the islands' actions leave it so. -/
theorem takeUpMode_starts {s : State} {q : ModeReq} (hn : NoHeld s) (hq : s.modes.pendingReq = some q) (hi : s.modes.inFlight = none)
    (ht : s.modes.target = none) (hp : s.modes.parkReq = []) (hh : s.modes.haltLines = []) (hc : modeCheck s q.mode = .ok)
    (hm : q.mode ≠ s.modes.mode) :
    (takeUpMode.run s).ModesMeet (Modes.NonePending s.modes.mode (some q.mode) (some q))
      ∧ (takeUpMode.run s).rd .modeReq = u32 q.mode.code := by
  have hrun : takeUpMode.run s = (leaveMode s.modes.mode q.mode).run ((modModes fun m => { m with inFlight := some q, target := some q.mode }).run
      ((acceptMode q).run ((modModes fun m => { m with pendingReq := none }).run s))) := by
    simp [takeUpMode, hq, hi, ht, hp, hh, hc, hm]
  obtain ⟨hr, hmo, hcm⟩ := acceptMode_modeReq q ((modModes fun m => { m with pendingReq := none }).run s)
  have hmode := congrArg Modes.mode hmo
  have hpend := congrArg Modes.pendingReq hmo
  have hu : ((modModes fun m => { m with inFlight := some q, target := some q.mode }).run ((acceptMode q).run
      ((modModes fun m => { m with pendingReq := none }).run s))).ModesMeet (Modes.NonePending s.modes.mode (some q.mode) (some q)) :=
    ⟨⟨⟨hmode, rfl, rfl⟩, hpend⟩, (congrArg CmdPath.held (hcm 3)).trans hn.1, (congrArg CmdPath.held (hcm 4)).trans hn.2.1,
      (congrArg CmdPath.held (hcm 5)).trans hn.2.2⟩
  have hleave := leaveMode_besideModes (haltClosed_nonePending s.modes.mode (some q.mode) (some q)) s.modes.mode q.mode
  rw [hrun]
  exact ⟨hleave.run hu, (hleave.run_rd hu (.inl rfl)).trans hr⟩

@[simp] theorem State.fenced_modes (r : Modes) (s : State) (k : Nat) : ((Op.modes r).apply s).fenced k = s.fenced k := rfl

/-- A plain request is completed by its status in LAST_STATUS alone. -/
theorem completeMode_run_plain {s : State} {q : ModeReq} {st : Status} (hf : s.fenced islHost = false) (ho : q.origin = .plain)
    (hst : st ≠ .ok) : (completeMode q st).run s = (refuse q.path st 0x2000 1).run s := by
  simp [completeMode, hf, ho, hst]

theorem countUp_leaves {n : Name} {j k : Nat} (h : keyOf n j 0 ≠ k) : (countUp n j).All (Op.leavesEntry k) := fun _ => h

theorem portRefusal_leaves_lastStatus (p q : Path) : (portRefusal p).All (Op.leavesEntry (keyOf .lastStatus 0 q.num)) := by
  unfold portRefusal
  split
  · exact ⟨countUp_leaves (by cases q <;> decide), fun _ => trivial⟩
  · exact ⟨countUp_leaves (by cases q <;> decide), fun _ => trivial⟩
  · trivial

/-- A refusal is kept in LAST_STATUS of its path. -/
theorem refuse_rd_lastStatus (p : Path) (st : Status) (i j : Nat) (s : State) :
    ((refuse p st i j).run s).rd .lastStatus 0 p.num = u32 (st.code * 0x1000000 + i * 0x100 + j) := by
  rw [refuse, run_seq, Prog.run_rd (portRefusal_leaves_lastStatus p p), run_wri, State.rd_put]

/-- While a halt line is up, outside PARK, a plain request completes with MODE_SUPERSEDED and nothing is taken up. -/
theorem takeUpMode_supersedes {s : State} {q : ModeReq} (hf : s.fenced islHost = false) (hn : NoHeld s) (ho : q.origin = .plain)
    (hq : s.modes.pendingReq = some q) (hi : s.modes.inFlight = none) (ht : s.modes.target = none) (hp : s.modes.parkReq = [])
    (hh : s.modes.haltLines ≠ []) (hm : s.modes.mode ≠ .park) :
    (takeUpMode.run s).ModesMeet (Modes.NonePending s.modes.mode none none)
      ∧ (takeUpMode.run s).rd .lastStatus 0 q.path.num = u32 (Status.modeSuperseded.code * 0x1000000 + 0x2000 * 0x100 + 1) := by
  have hrun : takeUpMode.run s = (refuse q.path .modeSuperseded 0x2000 1).run ((modModes fun m => { m with pendingReq := none }).run s) := by
    simp [takeUpMode, hq, hi, ht, hp, hh, hm, parkWins, completeMode_run_plain, ho, hf]
  rw [hrun]
  exact ⟨(refuse_besideModes _ _ _ _).run ⟨⟨⟨rfl, ht, hi⟩, rfl⟩, hn⟩, refuse_rd_lastStatus _ _ _ _ _⟩

/-- Once every island has completed its part MODE takes the target; what else follows leaves MODE and the requests alone. -/
theorem transitionDone_meets {s : State} {m : Mode} (hn : NoHeld s) (ht : s.modes.target = some m) (hr : s.transitionReady m = true) :
    (transitionDone.run s).ModesMeet (Modes.At m none none) := by
  have hJ := haltClosed_at m none none
  simp only [transitionDone, run_ask, ht, hr, when_true, all_cons, run_seq (modModes _)]
  refine BesideModes.run ?_ ⟨⟨rfl, rfl, rfl⟩, hn⟩
  simp (disch := decide) [heads, inIsland, besideModes_put, arm_besideModes hJ, emitBy_besideModes hJ, coversAtLeave_besideModes hJ]
  split
  · exact completeMode_besideModes hJ _ _
  · trivial

/-- What follows the entry into PARK leaves MODE, TARGET and PARK_CAUSE alone. -/
theorem BesideModes.run_after_park {p : Prog} (h : BesideModes (Modes.At .park none none) p) {f : Modes → Modes}
    (hf : ∀ m, (f m).At .park none none) (c : Nat) {s : State} (hn : NoHeld s) :
    ((Prog.seq (modModes f) (.seq (wrN .parkCause 0 c) p)).run s).ModesMeet (Modes.At .park none none)
      ∧ ((Prog.seq (modModes f) (.seq (wrN .parkCause 0 c) p)).run s).rd .parkCause = u32 c := by
  have hs : ((wrN .parkCause 0 c).run ((modModes f).run s)).ModesMeet (Modes.At .park none none) := ⟨hf _, hn⟩
  exact ⟨h.run hs, (h.run_rd hs (.inr rfl)).trans (State.rd_put ..)⟩

/-- PARK is entered from any other mode: MODE is PARK, a transition is abandoned, and PARK_CAUSE has the cause. -/
theorem parkEntry_enters {s : State} (hn : NoHeld s) (hm : s.modes.mode ≠ .park) (hc : s.modes.haltLines ≠ [] ∨ s.modes.parkReq ≠ []) :
    (parkEntry.run s).ModesMeet (Modes.At .park none none)
      ∧ (parkEntry.run s).rd .parkCause = u32 (match s.modes.haltLines with | ev :: _ => ev.code | [] => Event.code .parkRequested) := by
  have hJ := haltClosed_at .park none none
  have hw : (decide (s.modes.haltLines ≠ []) || decide (s.modes.parkReq ≠ [])) = true := by simpa using hc
  simp only [parkEntry, run_ask, hw, when_true, hm, if_false]
  rw [all_cons, all_cons]
  refine BesideModes.run_after_park ?_ (fun _ => ⟨rfl, rfl, rfl⟩) _ hn
  simp [emitBy_besideModes hJ, coversAtLeave_besideModes hJ, parkIslands_besideModes hJ, completeMode_besideModes hJ]
  constructor
  · split
    · exact completeMode_besideModes hJ _ _
    · trivial
  · split
    · simp only [allUnder_when, allUnder_seq]
      exact fun _ => ⟨fun _ hs => hs.1, completeMode_besideModes hJ _ _⟩
    · trivial

end Sys2Proof.Machine

namespace Sys2Proof.Proofs

open Sys2Proof.Machine Prog

/-- A command of an island in service whose meaning leaves no record held answers with the state after the meaning. -/
theorem answers_settled {c : Instr} {s : State} {p : Prog} {P : State → Prop} (hx : exec c s = .next ((settled p).run s))
    (hn : NoHeld (p.run s)) (hP : P (p.run s)) : Answers c s P :=
  ⟨_, hx, (settled_run_noHeld hn).symm ▸ hP⟩

/-- Settles O16: the islands' actions, the reports and the completions leave MODE, TARGET and the requests as the mode sequencer sets them. -/
theorem modeTransitionsComplete : Obligations.ModeTransitionsComplete := by
  have hx (s : State) (isl : Nat) (p : Prog) (h : Running s isl) : (inIsland isl p).run s = p.run s := by
    simp [inIsland, h.1, h.2]
  refine ⟨?_, ?_, ?_, ?_⟩
  · intro s q hs hn hq hi ht hp hh hc hm
    obtain ⟨⟨⟨⟨h1, h2, h3⟩, h4⟩, hn'⟩, hr⟩ := takeUpMode_starts hn hq hi ht hp hh hc hm
    exact answers_settled (congrArg Host.Outcome.next (hx s _ _ hs)) hn' ⟨h2, h3, h4, h1, hr⟩
  · intro s p m w hs hn hi ht hq hp hh hm
    obtain ⟨⟨⟨⟨h1, h2, -⟩, h4⟩, hn'⟩, hr⟩ := takeUpMode_supersedes hs.2 hn rfl hq hi ht hp hh hm
    exact answers_settled (congrArg Host.Outcome.next (hx s _ _ hs)) hn' ⟨h2, h4, h1, hr⟩
  · intro s m hs hn ht hr
    obtain ⟨hm, hn'⟩ := transitionDone_meets hn ht hr
    exact answers_settled (congrArg Host.Outcome.next (hx s _ _ hs)) hn' hm
  · intro s hl hn hm hc
    obtain ⟨⟨⟨h1, h2, h3⟩, hn'⟩, hp⟩ := parkEntry_enters hn hm hc
    exact answers_settled (congrArg Host.Outcome.next (by simp [Prog.live, hl])) hn' ⟨h1, h2, h3, hp⟩

end Sys2Proof.Proofs
end

section
/-! SUPPORT. What a planning cycle of one axis changes: the entries and the record of that axis, and reports. -/
namespace Sys2Proof.Machine

open Prog

/-! ### Reports -/

/-- An event that is no HALT event changes the report system alone. -/
theorem emitBy_frame (p : Path) {ev : Event} (hs : ev.severity ≠ .halt) (hc : ev ≠ .calDone) (unit isl : Nat) (p1 p2 : U32) (s : State) :
    Frame [] reporting s ((emitBy p ev unit isl p1 p2).run s) := by
  refine Prog.run_frame (p := emitBy p ev unit isl p1 p2) (fun _ => ?_) s
  simp [hs, hc, Op.within, Op.touches, reporting]

/-! ### The updates of a planning cycle -/

/-- The entries of an axis that its planning cycle writes, and the epoch of its unit. -/
def planKeys (a : Nat) : List Nat :=
  epochKey (unitAxis a) :: [Name.iSenseA, .iSenseB, .pos, .speed, .axisState, .axisStatus, .duty, .axisSkipCount, .encPos].map (keyOf · a 0)

/-- An update of the planning cycle of axis `a`: an entry or the record of the axis, a report, or an output. -/
def Op.plans (a : Nat) : Op → Prop
  | .put n j i _ => keyOf n j i ∈ planKeys a
  | .axis k _ => k = a
  | .report e => e.event ≠ some .calDone
  | .free | .output _ => True
  | _ => False

/-- What the planning cycle of axis `a` may change between two states. -/
def PlanStep (a : Nat) (s t : State) : Prop := Frame (planKeys a) (.axes :: reporting) s t ∧ ∀ k, k ≠ a → t.axis k = s.axis k

theorem PlanStep.refl (a : Nat) (s : State) : PlanStep a s s := ⟨Frame.refl _ _ _, fun _ _ => rfl⟩

theorem PlanStep.trans {a : Nat} {s t u : State} (h : PlanStep a s t) (g : PlanStep a t u) : PlanStep a s u :=
  ⟨h.1.trans g.1, fun k hk => (g.2 k hk).trans (h.2 k hk)⟩

theorem Op.plans_step {a : Nat} {o : Op} (h : o.plans a) (s : State) : PlanStep a s (o.apply s) := by
  have hw : o.within (planKeys a) (.axes :: reporting) := by
    cases o <;> simp_all [Op.plans, Op.within, Op.touches, reporting]
  refine ⟨Op.within_frame s hw, fun k hk => ?_⟩
  cases o <;> simp only [Op.plans] at h
  case axis j r => rw [State.axis_apply, if_neg (h ▸ hk)]
  all_goals exact State.axis_frame (by simp)

theorem Prog.run_planStep {a : Nat} {p : Prog} (h : p.All (Op.plans a)) (s : State) : PlanStep a s (p.run s) :=
  Prog.run_rel (PlanStep.refl a) PlanStep.trans (fun _ s ho => Op.plans_step ho s) p h s

@[simp] theorem Op.plans_free (a : Nat) : Op.free.plans a = True := rfl
@[simp] theorem Op.plans_output (a : Nat) (o : Output) : (Op.output o).plans a = True := rfl
@[simp] theorem modAxis_plans (a : Nat) (f : Axis → Axis) : (modAxis a f).All (Op.plans a) := fun _ => rfl
@[simp] theorem wr_plans {n : Name} {a : Nat} (h : keyOf n a 0 ∈ planKeys a) (v : U32) : (wr n a v).All (Op.plans a) := h
@[simp] theorem wrN_plans {n : Name} {a : Nat} (h : keyOf n a 0 ∈ planKeys a) (v : Nat) : (wrN n a v).All (Op.plans a) := h
@[simp] theorem output_plans (a : Nat) (o : Output) : (output o).All (Op.plans a) := trivial
@[simp] theorem mem_planKeys_iSenseA (a : Nat) : keyOf .iSenseA a 0 ∈ planKeys a := by simp [planKeys]
@[simp] theorem mem_planKeys_iSenseB (a : Nat) : keyOf .iSenseB a 0 ∈ planKeys a := by simp [planKeys]
@[simp] theorem mem_planKeys_pos (a : Nat) : keyOf .pos a 0 ∈ planKeys a := by simp [planKeys]
@[simp] theorem mem_planKeys_speed (a : Nat) : keyOf .speed a 0 ∈ planKeys a := by simp [planKeys]
@[simp] theorem mem_planKeys_axisState (a : Nat) : keyOf .axisState a 0 ∈ planKeys a := by simp [planKeys]
@[simp] theorem mem_planKeys_axisStatus (a : Nat) : keyOf .axisStatus a 0 ∈ planKeys a := by simp [planKeys]
@[simp] theorem mem_planKeys_duty (a : Nat) : keyOf .duty a 0 ∈ planKeys a := by simp [planKeys]
@[simp] theorem mem_planKeys_axisSkipCount (a : Nat) : keyOf .axisSkipCount a 0 ∈ planKeys a := by simp [planKeys]
@[simp] theorem mem_planKeys_encPos (a : Nat) : keyOf .encPos a 0 ∈ planKeys a := by simp [planKeys]

@[simp] theorem bump_plans (a : Nat) : (bump (unitAxis a)).All (Op.plans a) :=
  fun _ => List.mem_cons_self (a := epochKey (unitAxis a))

theorem emit_plans {ev : Event} (hs : ev.severity ≠ .halt) (hc : ev ≠ .calDone) (a unit isl : Nat) (p1 p2 : U32) :
    (emit ev unit isl p1 p2).All (Op.plans a) := by
  intro s
  simp [hs, Op.plans, hc]

@[simp] theorem axisTo_plans (a st : Nat) : (axisTo a st).All (Op.plans a) := by simp [axisTo]
@[simp] theorem axisStatusTo_plans (a x y : Nat) : (axisStatusTo a x y).All (Op.plans a) := by simp [axisStatusTo]
@[simp] theorem axisPins_plans (a : Nat) : (axisPins a).All (Op.plans a) := by simp [axisPins]
@[simp] theorem restPlan_plans (a : Nat) : (restPlan a).All (Op.plans a) := by simp [restPlan]
@[simp] theorem holdOutputs_plans (a : Nat) : (holdOutputs a).All (Op.plans a) := by simp [holdOutputs]
@[simp] theorem homeFailed_plans (a : Nat) : (homeFailed a).All (Op.plans a) := by
  simp [homeFailed, emit_plans (ev := .homeFailed) (by decide) (by decide)]
@[simp] theorem homeDone_plans (a : Nat) (p : Int) : (homeDone a p).All (Op.plans a) := by
  simp [homeDone, emit_plans (ev := .homed) (by decide) (by decide)]
@[simp] theorem homeHardStop_plans (a : Nat) : (homeHardStop a).All (Op.plans a) := by simp [homeHardStop]
@[simp] theorem homeStart_plans (a : Nat) : (homeStart a).All (Op.plans a) := by simp [homeStart]
@[simp] theorem moveStart_plans (a : Nat) (g : Goal) : (moveStart a g).All (Op.plans a) := by simp [moveStart]
@[simp] theorem boostStep_plans (a : Nat) (c : Int) : (boostStep a c).All (Op.plans a) := by simp [boostStep]

@[simp] theorem Prog.all_ite (P : Op → Prop) (c : Prop) [Decidable c] (p q : Prog) :
    All P (if c then p else q) ↔ (c → All P p) ∧ (¬ c → All P q) := by
  split <;> simp [*]

@[simp] theorem planAxis_plans (a : Nat) : (planAxis a).All (Op.plans a) := by
  simp [planAxis]

@[simp] theorem dcCycle_plans (a : Nat) : (dcCycle a).All (Op.plans a) := by
  simp [dcCycle]

/-! ### The axes of a planning cycle -/

/-- No entry of an axis that a planning cycle writes decides which axis the paced feed drives. -/
theorem feed_notin_planKeys {a : Nat} (ha : a < 6) (h : Nat) :
    keyOf .paceHead 0 0 ∉ planKeys a ∧ keyOf .rulingAxis h 0 ∉ planKeys a ∧ keyOf .lineRoute h 0 ∉ planKeys a := by
  simp [planKeys, epochKey, unitAxis, keyOf, indexOf, subOf, rowOf]
  omega

theorem PlanStep.feedAxis {a : Nat} (ha : a < 6) {s t : State} (h : PlanStep a s t) : t.feedAxis = s.feedAxis := by
  have hh : t.paceHead = s.paceHead := congrArg BitVec.toNat (h.1.1 _ _ _ (feed_notin_planKeys ha 0).1)
  rw [State.feedAxis, hh]
  exact congrArg BitVec.toNat (h.1.1 _ _ _ (feed_notin_planKeys ha _).2.1)

/-- Pacing starts with a move of the feed axis alone. -/
theorem paceStart_run_other {a : Nat} {s : State} (h : s.feedAxis ≠ a) (t : Int) : (paceStart a t).run s = s := by
  simp [paceStart, Ne.symm h]

/-- Where no command waits, taking up changes nothing else. -/
theorem takeUp_run_none {a : Nat} {s : State} (h : (s.axis a).pend = none) :
    (takeUp a).run s = (Op.axis a { s.axis a with pend := none, halted := false }).apply s := by
  simp [takeUp, h]

theorem moveStart_paceStart_step {a : Nat} (ha : a < 6) {s : State} (h : s.feedAxis ≠ a) (g : Goal) (b : Bool) (t : Int) :
    PlanStep a s ((Prog.seq (moveStart a g) (when b (paceStart a t))).run s) := by
  have hm := Prog.run_planStep (moveStart_plans a g) s
  rw [run_seq, run_when, paceStart_run_other (by rwa [hm.feedAxis ha])]
  simpa using hm

/-- An axis that the paced feed does not drive takes up its command without touching the feed. -/
theorem takeUp_step {a : Nat} (ha : a < 6) {s : State} (h : s.feedAxis ≠ a) : PlanStep a s ((takeUp a).run s) := by
  have h0 : PlanStep a s ((modAxis a fun x => { x with pend := none, halted := false }).run s) := Prog.run_planStep (modAxis_plans _ _) s
  have hf : ((modAxis a fun x => { x with pend := none, halted := false }).run s).feedAxis ≠ a := by rwa [h0.feedAxis ha]
  rw [takeUp, run_ask, all_cons, run_seq, all_cons, run_seq]
  refine h0.trans ?_
  generalize (modAxis a fun x => { x with pend := none, halted := false }).run s = u at hf
  split
  · exact .refl _ _
  · split
    · exact .refl _ _
    · rw [run_when]
      split
      · simpa using moveStart_paceStart_step ha hf _ true _
      · exact .refl _ _
    · exact Prog.run_planStep (by simp) u
    · exact Prog.run_planStep (by simp) u
    · exact Prog.run_planStep (by simp) u
    · rw [run_when]
      split
      · exact moveStart_paceStart_step ha hf _ _ _
      · exact .refl _ _

/-- One axis in a planning cycle, with its sensed coil currents. -/
def axisStep (sense : List (Nat × Nat)) (a : Nat) : Prog := all
  [ wrN .iSenseA a (min 4095 (sense.getD a (0, 0)).1), wrN .iSenseB a (min 4095 (sense.getD a (0, 0)).2),
    takeUp a, planAxis a, dcCycle a, axisPins a ]

theorem execPlanningCycle_run (l : List (Nat × Nat)) (s : State) (h : Running s islMotion) :
    execPlanningCycle l s = .next (paceUpdate.run (paceFree.run ((each (List.range 6) (axisStep l)).run s))) := by
  simp only [execPlanningCycle, inIsland, done_eq, run_ask, h.1, h.2, Bool.not_false, Bool.and_self, when_true, run_seq]
  rfl

/-- The sensed currents of an axis, as a planning cycle begins. -/
def senseStep (sense : List (Nat × Nat)) (a : Nat) : Prog :=
  .seq (wrN .iSenseA a (min 4095 (sense.getD a (0, 0)).1)) (wrN .iSenseB a (min 4095 (sense.getD a (0, 0)).2))

/-- The planner, the DC loop and the pins of an axis, once its command is taken up. -/
def driveStep (a : Nat) : Prog := .seq (planAxis a) (.seq (dcCycle a) (axisPins a))

theorem axisStep_run (l : List (Nat × Nat)) (a : Nat) (s : State) :
    (axisStep l a).run s = (driveStep a).run ((takeUp a).run ((senseStep l a).run s)) := by
  simp only [axisStep, driveStep, senseStep, all_cons, all_nil, run_seq, run_nop]

theorem senseStep_step (l : List (Nat × Nat)) (a : Nat) (s : State) : PlanStep a s ((senseStep l a).run s) :=
  Prog.run_planStep (by simp [senseStep]) s

theorem driveStep_step (a : Nat) (s : State) : PlanStep a s ((driveStep a).run s) := Prog.run_planStep (by simp [driveStep]) s

/-- The planning cycle of an axis that the paced feed does not drive, or for which no command waits, stays with the axis. -/
theorem axisStep_step (l : List (Nat × Nat)) {a : Nat} (ha : a < 6) {s : State} (h : s.feedAxis ≠ a ∨ (s.axis a).pend = none) :
    PlanStep a s ((axisStep l a).run s) := by
  have hs := senseStep_step l a s
  rw [axisStep_run]
  refine (hs.trans ?_).trans (driveStep_step a _)
  rcases h with h | h
  · exact takeUp_step ha (by rwa [hs.feedAxis ha])
  · rw [takeUp_run_none (show (((senseStep l a).run s).axis a).pend = none from h)]
    exact Op.plans_step (o := .axis a _) rfl _

/-! ### The planning cycle of all axes -/

/-- The entries that the planning cycles of the other axes write. -/
def otherKeys (a : Nat) : List Nat := ((List.range 6).filter (· ≠ a)).flatMap planKeys

/-- The entries that a planning cycle writes before the paced feed acts. -/
def cycleKeys : List Nat := (List.range 6).flatMap planKeys

/-- What the planning cycles of the other axes may change between two states. -/
def OffAxis (a : Nat) (s t : State) : Prop := Frame (otherKeys a) (.axes :: reporting) s t ∧ t.axis a = s.axis a

theorem OffAxis.refl (a : Nat) (s : State) : OffAxis a s s := ⟨Frame.refl _ _ _, rfl⟩

theorem OffAxis.trans {a : Nat} {s t u : State} (h : OffAxis a s t) (g : OffAxis a t u) : OffAxis a s u := ⟨h.1.trans g.1, g.2.trans h.2⟩

theorem PlanStep.offAxis {a b : Nat} (hb : b < 6) (hab : b ≠ a) {s t : State} (h : PlanStep b s t) : OffAxis a s t :=
  ⟨h.1.mono (fun _ hk => List.mem_flatMap.2 ⟨b, by simp [hb, hab], hk⟩) (fun _ hx => hx), h.2 a (Ne.symm hab)⟩

theorem OffAxis.feedAxis {a : Nat} {s t : State} (h : OffAxis a s t) : t.feedAxis = s.feedAxis := by
  have hn (n : Name) (j : Nat) (hk : ∀ b < 6, keyOf n j 0 ∉ planKeys b) : t.rd n j = s.rd n j :=
    h.1.1 _ _ _ fun hm => by
      obtain ⟨b, hb, hm⟩ := List.mem_flatMap.1 hm
      exact hk b (by simpa using (List.mem_filter.1 hb).1) hm
  have hh : t.paceHead = s.paceHead := congrArg BitVec.toNat (hn .paceHead 0 fun b hb => (feed_notin_planKeys hb 0).1)
  rw [State.feedAxis, hh]
  exact congrArg BitVec.toNat (hn .rulingAxis _ fun b hb => (feed_notin_planKeys hb _).2.1)

theorem each_others_offAxis (l : List (Nat × Nat)) {a : Nat} (axes : List Nat) (h : ∀ b ∈ axes, b < 6 ∧ b ≠ a) {s : State}
    (hs : s.feedAxis = a) : OffAxis a s ((each axes (axisStep l)).run s) := by
  induction axes generalizing s with
  | nil => exact .refl _ _
  | cons b axes ih =>
    obtain ⟨hb, hab⟩ := h b (by simp)
    have h1 := (axisStep_step l hb (.inl (hs ▸ Ne.symm hab))).offAxis hb hab
    exact h1.trans (ih (fun c hc => h c (by simp [hc])) (h1.feedAxis.trans hs))

theorem Prog.run_each_append {α : Type} (l m : List α) (f : α → Prog) (s : State) :
    (each (l ++ m) f).run s = (each m f).run ((each l f).run s) := by
  induction l generalizing s with
  | nil => rfl
  | cons a l ih => simp [ih]

/-- The cycle of the feed axis stands between cycles of other axes. -/
theorem cycle_split (l : List (Nat × Nat)) {a : Nat} (ha : a < 6) {s : State} (hs : s.feedAxis = a) (hp : (s.axis a).pend = none) :
    ∃ u, OffAxis a s u ∧ OffAxis a ((axisStep l a).run u) ((each (List.range 6) (axisStep l)).run s) := by
  obtain ⟨x, y, hxy⟩ := List.append_of_mem (List.mem_range.2 ha)
  have hd : (x ++ a :: y).Nodup := hxy ▸ List.nodup_range
  have hlt (b : Nat) (hb : b ∈ x ++ a :: y) : b < 6 := List.mem_range.1 (hxy ▸ hb)
  obtain ⟨-, hd2, hd3⟩ := List.nodup_append.1 hd
  have hx := each_others_offAxis l x (fun b hb => ⟨hlt b (by simp [hb]), hd3 b hb a (by simp)⟩) hs
  refine ⟨_, hx, ?_⟩
  rw [hxy, Prog.run_each_append, each_cons, run_seq]
  have hown := axisStep_step l ha (s := (each x (axisStep l)).run s) (.inr (hx.2 ▸ hp))
  exact each_others_offAxis l y (fun b hb => ⟨hlt b (by simp [hb]), fun e => (List.nodup_cons.1 hd2).1 (by rwa [← e])⟩)
    ((hown.feedAxis ha).trans (hx.feedAxis.trans hs))

theorem cycle_frame (l : List (Nat × Nat)) {a : Nat} (ha : a < 6) {s : State} (hs : s.feedAxis = a) (hp : (s.axis a).pend = none) :
    Frame cycleKeys (.axes :: reporting) s ((each (List.range 6) (axisStep l)).run s) := by
  obtain ⟨u, h1, h2⟩ := cycle_split l ha hs hp
  have hk : ∀ k ∈ otherKeys a, k ∈ cycleKeys := fun k hk => by
    obtain ⟨b, hb, hm⟩ := List.mem_flatMap.1 hk
    exact List.mem_flatMap.2 ⟨b, (List.mem_filter.1 hb).1, hm⟩
  have hown := axisStep_step l ha (s := u) (.inr (h1.2 ▸ hp))
  exact ((h1.1.mono hk fun _ h => h).trans (hown.1.mono (fun k hk => List.mem_flatMap.2 ⟨a, List.mem_range.2 ha, hk⟩) fun _ h => h)).trans
    (h2.1.mono hk fun _ h => h)

/-! ### The feed axis in its own cycle -/

theorem State.rdN_eq {s : State} {n : Name} {j i : Nat} {v : U32} (h : s.rd n j i = v) : s.rdN n j i = v.toNat := congrArg BitVec.toNat h

/-- The axis is in this state, with this speed and acceleration, and these POS_UNCERTAIN and HOMED. -/
def State.AxisIs (s : State) (a : Nat) (st : U32) (v c : Int) (unc hom : Bool) : Prop :=
  s.rd .axisState a = st ∧ (s.axis a).vel = v ∧ (s.axis a).acc = c ∧ s.uncertain a = unc ∧ s.homed a = hom

/-- The update leaves the state, the speed and the acceleration of the axis, and POS_UNCERTAIN and HOMED. -/
def Op.keepsAxis (a : Nat) (v c : Int) (unc hom : Bool) : Op → Prop
  | .put n j i w => keyOf n j i ≠ keyOf .axisState a 0
      ∧ (keyOf n j i ≠ keyOf .axisStatus a 0 ∨ (n = .axisStatus ∧ j = a ∧ i = 0) ∧ w.getLsbD 0 = unc ∧ w.getLsbD 1 = hom)
  | .axis k r => k = a → r.vel = v ∧ r.acc = c
  | .free | .output _ => True
  | _ => False

theorem State.uncertain_eq (s : State) (a : Nat) : s.uncertain a = (s.rd .axisStatus a).getLsbD 0 := rfl

theorem State.homed_eq (s : State) (a : Nat) : s.homed a = (s.rd .axisStatus a).getLsbD 1 := rfl

theorem Op.keepsAxis_keeps {a : Nat} {st : U32} {v c : Int} {unc hom : Bool} (o : Op) (s : State) (ho : o.keepsAxis a v c unc hom)
    (hs : s.AxisIs a st v c unc hom) : (o.apply s).AxisIs a st v c unc hom := by
  obtain ⟨h1, h2, h3, h4, h5⟩ := hs
  cases o <;> simp only [Op.keepsAxis] at ho
  case put n j i w =>
    refine ⟨(State.rd_put_other w s ho.1).trans h1, h2, h3, ?_⟩
    rw [State.uncertain_eq, State.homed_eq] at *
    rcases ho.2 with hk | ⟨⟨rfl, rfl, rfl⟩, hb⟩
    · rw [State.rd_put_other w s hk]; exact ⟨h4, h5⟩
    · rw [State.rd_put]; exact hb
  case axis k r =>
    refine ⟨h1, ?_, ?_, h4, h5⟩
    all_goals rw [State.axis_apply]; split
    · next e => exact (ho e.symm).1
    · exact h2
    · next e => exact (ho e.symm).2
    · exact h3
  case free => exact ⟨h1, h2, h3, h4, h5⟩
  case output o => exact ⟨h1, h2, h3, h4, h5⟩

section
variable {a : Nat} {st : U32} {v c : Int} {unc hom : Bool}

/-- The program leaves the state, the speed and the acceleration of the axis, and POS_UNCERTAIN and HOMED. -/
abbrev KeepsAxis (a : Nat) (st : U32) (v c : Int) (unc hom : Bool) (p : Prog) : Prop :=
  p.AllUnder (State.AxisIs · a st v c unc hom) (Op.keepsAxis a v c unc hom)

theorem KeepsAxis.run {p : Prog} (h : KeepsAxis a st v c unc hom p) {s : State} (hs : s.AxisIs a st v c unc hom) :
    (p.run s).AxisIs a st v c unc hom := Prog.run_keepsUnder Op.keepsAxis_keeps p h s hs

theorem keepsAxis_put {n : Name} (h : n ∈ [Name.iSenseA, .iSenseB, .pos, .speed, .duty, .axisSkipCount]) (w : U32) :
    (Op.put n a 0 w).keepsAxis a v c unc hom := by
  simp only [List.mem_cons, List.not_mem_nil, or_false] at h
  rcases h with rfl | rfl | rfl | rfl | rfl | rfl <;> simp only [Op.keepsAxis, keyOf, indexOf, subOf, rowOf] <;> omega

@[simp] theorem keepsAxis_free : Op.free.keepsAxis a v c unc hom = True := rfl
@[simp] theorem keepsAxis_output (o : Output) : (Op.output o).keepsAxis a v c unc hom = True := rfl

theorem keepsAxis_modAxis {f : Axis → Axis} (h : ∀ x, (f x).vel = x.vel ∧ (f x).acc = x.acc) :
    KeepsAxis a st v c unc hom (modAxis a f) :=
  fun _ hs _ => ⟨(h _).1.trans hs.2.1, (h _).2.trans hs.2.2.1⟩

theorem testBit_of_four_dvd {x : Nat} (h : x % 4 = 0) : x.testBit 0 = false ∧ x.testBit 1 = false := by
  simp only [Nat.testBit_succ, Nat.testBit_zero, decide_eq_false_iff_not]
  omega

/-- AXIS_STATUS keeps its bits 0 and 1 where those set and cleared are others. -/
theorem keepsAxis_axisStatusTo {x y : Nat} (hx : x % 4 = 0) (hy : y % 4 = 0) : KeepsAxis a st v c unc hom (axisStatusTo a x y) := by
  rintro _ ⟨-, -, -, hu, hh⟩
  rw [State.uncertain_eq] at hu
  rw [State.homed_eq] at hh
  obtain ⟨x0, x1⟩ := testBit_of_four_dvd hx
  obtain ⟨y0, y1⟩ := testBit_of_four_dvd hy
  refine ⟨by simp only [keyOf, indexOf, subOf, rowOf]; omega, .inr ⟨⟨rfl, rfl, rfl⟩, ?_, ?_⟩⟩
  · simp only [BitVec.getLsbD_or, BitVec.getLsbD_and, BitVec.getLsbD_not, u32, BitVec.getLsbD_ofNat, hu, x0, y0]
    simp
  · simp only [BitVec.getLsbD_or, BitVec.getLsbD_and, BitVec.getLsbD_not, u32, BitVec.getLsbD_ofNat, hh, x1, y1]
    simp

theorem keepsAxis_boostStep (acc : Int) : KeepsAxis a st v c unc hom (boostStep a acc) := by
  simp [boostStep, keepsAxis_modAxis, keepsAxis_axisStatusTo]

theorem keepsAxis_dcCycle : KeepsAxis a st v c unc hom (dcCycle a) := by
  intro s _
  rw [allUnder_ite]
  refine ⟨fun _ => ⟨keepsAxis_axisStatusTo rfl rfl, ?_⟩, fun _ => ⟨trivial, keepsAxis_put (by decide) _, keepsAxis_modAxis fun _ => ⟨rfl, rfl⟩, ?_,
    keepsAxis_put (by decide) _, keepsAxis_axisStatusTo (by omega) (by omega), trivial⟩⟩
  · simp [keepsAxis_put]
  · simp

theorem keepsAxis_axisPins : KeepsAxis a st v c unc hom (axisPins a) := by
  intro s _
  refine keepsAxis_modAxis (fun x => ?_)
  split
  · exact ⟨rfl, rfl⟩
  · split
    · exact ⟨rfl, rfl⟩
    · split <;> exact ⟨rfl, rfl⟩

theorem keepsAxis_senseStep (l : List (Nat × Nat)) : KeepsAxis a st v c unc hom (senseStep l a) := by
  simp [senseStep, keepsAxis_put]

/-- At a standstill the planner leaves the axis where it is. -/
theorem keepsAxis_planAxis_standstill : KeepsAxis a 1 v c unc hom (planAxis a) := by
  intro s hs
  have hm : s.inMotion a = false := by simp [State.inMotion, State.rdN_eq hs.1]
  simp only [hm, Bool.not_false, if_true]
  exact keepsAxis_boostStep _
end

/-- In MOVING the planner gives the axis the planned speed and acceleration. -/
theorem planAxis_run_moving {a : Nat} {s : State} (h : s.rd .axisState a = 2) :
    ((planAxis a).run s).AxisIs a 2 (s.planned a).1 (s.planned a).2 (s.uncertain a) (s.homed a) := by
  have hst : s.rdN .axisState a = 2 := State.rdN_eq h
  have hm : s.inMotion a = true := by simp [State.inMotion, hst]
  rw [planAxis, run_ask]
  simp only [hm, Bool.not_true, Bool.false_eq_true, if_false, all_cons, run_seq (modAxis _ _)]
  refine KeepsAxis.run (p := .seq _ _) ?_ ⟨h, by simp, by simp, rfl, rfl⟩
  refine ⟨keepsAxis_put (by decide) _, keepsAxis_put (by decide) _, ?_, keepsAxis_boostStep _, ?_, trivial⟩
  · simp [keepsAxis_modAxis]
  · simp [hst, axHoming]

/-- The entries of an axis that its profile reads. -/
def profileNames : List Name := [.axisState, .accMax, .decMax, .jerk, .vMax, .pos, .homeDir, .homeV, .homeVSlow]

/-- The profile of an axis depends on these entries and on its record, but not on the command that waits. -/
theorem planned_congr {a : Nat} {s t : State} (hr : ∀ n ∈ profileNames, t.rd n a = s.rd n a)
    (hx : t.axis a = { s.axis a with pend := none, halted := false }) : t.planned a = s.planned a := by
  simp only [profileNames, List.forall_mem_cons, List.not_mem_nil, false_imp_iff, implies_true, and_true] at hr
  obtain ⟨h1, h2, h3, h4, h5, h6, h7, h8, h9⟩ := hr
  unfold State.planned State.driveOf State.decOf State.homeRun State.posFine State.posZ State.rdN State.rdZ
  rw [hx, h1, h2, h3, h4, h5, h6, h7, h8, h9]

theorem notin_otherKeys (a : Fin 6) : ∀ n ∈ .axisStatus :: profileNames, keyOf n a 0 ∉ otherKeys a := by
  revert a; decide +kernel

theorem profile_ne_sense (a : Fin 6) : ∀ n ∈ profileNames, keyOf .iSenseA a 0 ≠ keyOf n a 0 ∧ keyOf .iSenseB a 0 ≠ keyOf n a 0 := by
  revert a; decide +kernel

@[simp] theorem State.rd_axis (k : Nat) (r : Axis) (s : State) (n : Name) (j i : Nat) : ((Op.axis k r).apply s).rd n j i = s.rd n j i := rfl

theorem senseStep_rd (l : List (Nat × Nat)) (a : Fin 6) (s : State) {n : Name} (hn : n ∈ profileNames) :
    ((senseStep l a).run s).rd n a = s.rd n a := by
  obtain ⟨hA, hB⟩ := profile_ne_sense a n hn
  rw [senseStep, run_seq, run_wrN, run_wrN, State.rd_put_other _ _ hB, State.rd_put_other _ _ hA]

theorem OffAxis.axisIs {a : Fin 6} {s t : State} (h : OffAxis a s t) {st : U32} {v c : Int} {unc hom : Bool} (hs : s.AxisIs a st v c unc hom) :
    t.AxisIs a st v c unc hom := by
  obtain ⟨h1, h2, h3, h4, h5⟩ := hs
  have hst := h.1.1 _ _ _ (notin_otherKeys a .axisState (by decide))
  have hss := h.1.1 _ _ _ (notin_otherKeys a .axisStatus (by decide))
  exact ⟨hst.trans h1, h.2 ▸ h2, h.2 ▸ h3, by rw [State.uncertain_eq, hss]; exact h4, by rw [State.homed_eq, hss]; exact h5⟩

/-- With no command waiting, the profile is planned from the state in which the cycle began. -/
theorem planned_at_own {a : Fin 6} (l : List (Nat × Nat)) {s u : State} (h : OffAxis a s u) (hp : (s.axis a).pend = none) :
    ((takeUp a).run ((senseStep l a).run u)).planned a = s.planned a := by
  have hx : ((senseStep l a).run u).axis a = s.axis a := h.2
  refine planned_congr (fun n hn => ?_) ?_
  · rw [takeUp_run_none (hx ▸ hp), State.rd_axis, senseStep_rd l a u hn]
    exact h.1.1 _ _ _ (notin_otherKeys a n (.tail _ hn))
  · rw [takeUp_run_none (hx ▸ hp), State.axis_apply, if_pos rfl, hx]

/-- What the feed axis is like when its own planner begins: as at the start of the cycle. -/
theorem axisIs_at_own {a : Fin 6} (l : List (Nat × Nat)) {s u : State} (h : OffAxis a s u) (hp : (s.axis a).pend = none)
    {st : U32} {v c : Int} {unc hom : Bool} (hs : s.AxisIs a st v c unc hom) :
    ((takeUp a).run ((senseStep l a).run u)).AxisIs a st v c unc hom := by
  have hu := (keepsAxis_senseStep l).run (h.axisIs hs)
  rw [takeUp_run_none (show (((senseStep l a).run u).axis a).pend = none from h.2 ▸ hp)]
  exact Op.keepsAxis_keeps _ _ (fun _ => ⟨hu.2.1, hu.2.2.1⟩) hu

/-- At a standstill, with no command waiting, a planning cycle leaves the feed axis at its standstill. -/
theorem cycle_standstill (l : List (Nat × Nat)) {a : Fin 6} {s : State} (hs : s.feedAxis = a) (hp : (s.axis a).pend = none)
    (h : s.rd .axisState a = 1) :
    ((each (List.range 6) (axisStep l)).run s).AxisIs a 1 (s.axis a).vel (s.axis a).acc (s.uncertain a) (s.homed a) := by
  obtain ⟨u, h1, h2⟩ := cycle_split l a.isLt hs hp
  refine h2.axisIs ?_
  rw [axisStep_run]
  exact KeepsAxis.run (p := .seq _ (.seq _ _)) ⟨keepsAxis_planAxis_standstill, keepsAxis_dcCycle, keepsAxis_axisPins⟩
    (axisIs_at_own l h1 hp ⟨h, rfl, rfl, rfl, rfl⟩)

/-- In MOVING, with no command waiting, a planning cycle gives the feed axis the planned speed and acceleration. -/
theorem cycle_moving (l : List (Nat × Nat)) {a : Fin 6} {s : State} (hs : s.feedAxis = a) (hp : (s.axis a).pend = none)
    (h : s.rd .axisState a = 2) :
    ((each (List.range 6) (axisStep l)).run s).AxisIs a 2 (s.planned a).1 (s.planned a).2 (s.uncertain a) (s.homed a) := by
  obtain ⟨u, h1, h2⟩ := cycle_split l a.isLt hs hp
  refine h2.axisIs ?_
  obtain ⟨hst, -, -, hu, hh⟩ := axisIs_at_own l h1 hp ⟨h, rfl, rfl, rfl, rfl⟩
  have hm := planAxis_run_moving hst
  rw [planned_at_own l h1 hp, hu, hh] at hm
  rw [axisStep_run]
  exact KeepsAxis.run (p := .seq _ _) ⟨keepsAxis_dcCycle, keepsAxis_axisPins⟩ hm

end Sys2Proof.Machine
end

section
/-! SUPPORT. What the paced feed writes: its states, the pause, the speeds and targets of its axis. -/
namespace Sys2Proof.Machine

open Prog

/-! ### The newest report -/

theorem State.sendEmcy_journal (s : State) (x code ev : Nat) (p1 q : U32) (t : U64) :
    (s.sendEmcy x code ev p1 q t).rep.journal = s.rep.journal := by
  obtain ⟨_, _, h⟩ := s.sendEmcy_frame x code ev p1 q t; rw [h]

theorem State.signal_journal (s : State) (v : Nat) : (s.signal v).rep.journal = s.rep.journal := by
  obtain ⟨_, _, h⟩ := s.signal_frame v; rw [h]

theorem State.eventEmcy_journal (s : State) (ev : Event) (e : JEntry) : (s.eventEmcy ev e).rep.journal = s.rep.journal := by
  unfold State.eventEmcy
  split
  · rfl
  · dsimp only
    repeat' split
    all_goals simp [State.sendEmcy_journal, Reports.error]

theorem Reports.track_journal (r : Reports) (e : JEntry) : (r.track e).journal = r.journal := by
  unfold Reports.track
  split
  · rfl
  · rfl
  · split <;> rfl

/-- The sequence point puts a report before the others of the journal. -/
theorem State.number_journal (s : State) (e : JEntry) :
    (s.number e).rep.journal = ({ e with seq := s.rep.seq + 1 } :: s.rep.journal).take 1024 := by
  have hp : ((s.rep.push e).track e).journal = ({ e with seq := s.rep.seq + 1 } :: s.rep.journal).take 1024 := Reports.track_journal _ _
  unfold State.number
  dsimp only
  split
  · split <;> exact hp
  · repeat' split
    all_goals simp [State.signal_journal, State.sendEmcy_journal, State.eventEmcy_journal, hp]

/-- An event of an island is the newest report while HOST is in service. -/
theorem emitBy_newest (p : Path) (ev : Event) (unit isl : Nat) (p1 p2 : U32) {s : State} (hf : s.fenced islHost = false) :
    ((emitBy p ev unit isl p1 p2).run s).newest = some (ev, unit, p1) := by
  have hn (u : State) (hu : u.fenced islHost = false) (e : JEntry) :
      ((Op.report e).apply u).newest = e.event.map fun ev => (ev, e.unit, e.value) := by
    have hr : (Op.report e).apply u = (u.counted e).number e := by simp [Op.apply, State.report, hu]
    rw [State.newest, hr, State.number_journal, List.take_succ_cons]
  simp only [emitBy, run_ask, all_cons, all_nil, run_seq, run_nop, run_op, run_when]
  split
  · exact hn ((modModes _).run s) hf _
  · exact hn s hf _

/-! ### What the feed and its checks depend on -/

/-- Entries of a frame that leave the choice of the feed axis. -/
theorem Frame.feedAxis {W : List Nat} {L : List Part} {s t : State} (h : Frame W L s t)
    (hW : ∀ k ∈ W, k ≠ keyOf .paceHead 0 0 ∧ k % 8192 ≠ 513) : t.feedAxis = s.feedAxis := by
  have hp : t.paceHead = s.paceHead := congrArg BitVec.toNat (h.1 _ _ _ fun hm => (hW _ hm).1 rfl)
  rw [State.feedAxis, hp]
  refine congrArg BitVec.toNat (h.1 _ _ _ fun hm => (hW _ hm).2 ?_)
  simp only [keyOf, indexOf, subOf, rowOf]
  omega

/-- F depends on these entries, the free space that has arrived, the time and the fences. -/
theorem freeMinOf_congr {W : List Nat} {L : List Part} {s t : State} (h : Frame W L s t)
    (hW : ∀ k ∈ W, k ∉ [keyOf .paceHead 0 0, keyOf .collector 0 0, keyOf .member 0 0, keyOf .paceStreams 0 0] ∧ k % 4096 ≠ 1025)
    (hL : Part.pace ∉ L ∧ Part.time ∉ L ∧ Part.islands ∉ L) : t.freeMinOf = s.freeMinOf := by
  have hr (n : Name) (hn : n ∈ [Name.paceHead, .collector, .member, .paceStreams]) : t.rd n = s.rd n :=
    h.1 _ _ _ fun hm => (hW _ hm).1 (List.mem_map_of_mem (f := (keyOf · 0 0)) hn)
  have hl (j : Nat) : t.rd .lineRoute j = s.rd .lineRoute j := h.1 _ _ _ fun hm => (hW _ hm).2 (by
    simp only [keyOf, indexOf, subOf, rowOf]; omega)
  obtain ⟨hp, ht, hi⟩ := hL
  have hp : t.pace = s.pace := h.2 _ hp
  have ht : t.time = s.time := h.2 _ ht
  have hi : t.islands = s.islands := h.2 _ hi
  unfold State.freeMinOf State.freeSeen State.paceHead State.fenced State.island State.rdN
  rw [hr .paceHead (by simp), hr .collector (by simp), hr .member (by simp), hr .paceStreams (by simp), hl, hp, ht, hi]

theorem firstBad_eq_ok {l : List Status} : firstBad l = .ok ↔ ∀ st ∈ l, st = .ok := by
  induction l with
  | nil => simp [firstBad]
  | cons st l ih =>
    by_cases h : st = .ok
    · simp [h, firstBad, ih]
    · simp [h, firstBad]

theorem vMaxGate_congr {s t : State} {a : Nat} (hm : t.rd .axisMode a = s.rd .axisMode a) (hw : t.rd .stepWidth a = s.rd .stepWidth a) (v : Nat) :
    t.vMaxGate a v = s.vMaxGate a v := by
  unfold State.vMaxGate State.rdN
  rw [hm, hw]

theorem le_of_vMaxGate {s : State} {a v : Nat} (h : s.vMaxGate a v = .ok) : v ≤ 5000000 := by
  have h1 := firstBad_eq_ok.1 h (inRange 1 5000000 v) (by simp)
  unfold inRange at h1
  by_contra hv
  rw [if_neg (by omega), if_pos (by omega)] at h1
  exact absurd h1 (by decide)

/-- The entries of an axis on which the checks of a target depend, beside its state and its status. -/
def targetNames : List Name := [.calLo, .calHi, .limitEn, .softLo, .softHi]

theorem status_of_rd {s t : State} {a : Nat} (h : t.rd .axisStatus a = s.rd .axisStatus a) :
    t.uncertain a = s.uncertain a ∧ t.homed a = s.homed a := by
  rw [State.uncertain_eq, State.homed_eq, h]
  exact ⟨rfl, rfl⟩

/-- A target that passes its checks passes them in any other state of the axis that takes a target. -/
theorem retargetGate_ok_of {s t : State} {a : Nat} {x : Int} (hm : t.modes = s.modes) (hr : ∀ n ∈ targetNames, t.rd n a = s.rd n a)
    (hu : t.uncertain a = s.uncertain a) (hh : t.homed a = s.homed a) (hst : t.rdN .axisState a ∉ [0, 4, 5])
    (h : s.retargetGate a x = .ok) : t.retargetGate a x = .ok := by
  simp only [targetNames, List.forall_mem_cons, List.not_mem_nil, false_imp_iff, implies_true, and_true] at hr
  obtain ⟨h1, h2, h3, h4, h5⟩ := hr
  have habs : t.absGate a x = s.absGate a x := by unfold State.absGate State.rdZ; rw [hm, h1, h2]
  have hlim : t.limitGate a x = s.limitGate a x := by
    unfold State.limitGate State.rdB State.rdZ; rw [hh, h3, h4, h5]
  unfold State.retargetGate at h ⊢
  rw [firstBad_eq_ok] at h ⊢
  simp only [List.forall_mem_cons, List.not_mem_nil, false_imp_iff, implies_true, and_true] at h ⊢
  obtain ⟨ha, -, hn, hl⟩ := h
  refine ⟨habs.trans ha, ?_, hu ▸ hn, hlim.trans hl⟩
  split <;> simp_all

/-! ### The speeds and targets that the paced feed writes -/

theorem put_frame {W : List Nat} {L : List Part} {n : Name} {j i : Nat} (h : keyOf n j i ∈ W) (v : U32) (s : State) :
    Frame W L s ((Op.put n j i v).apply s) := Op.within_frame (o := .put n j i v) s h

/-- An accepted write changes its entry, the epoch of its unit, the calibration and the reports. -/
theorem commit_frame_own (c : Ctx) (n : Name) (j i : Nat) (v : U32) (s : State) :
    Frame (keyOf n j i :: commitKeys { name := n, inst := j, item := i }) (.calTime :: reporting) s ((commit c n j i v).run s) :=
  (put_frame (List.mem_cons_self) _ s).trans ((commit_frame c n j i v s).mono (fun _ h => .tail _ h) fun _ h => h)

/-- What a checked write by the paced feed of these entries of an axis may change. -/
def feedKeys (a : Nat) (l : List Name) : List Nat :=
  l.map (keyOf · a 0) ++ keyOf .lastStatus 0 6 :: epochKey (unitAxis a) :: calKeys

/-- The parts of the state that it may change. -/
def feedParts : List Part := .axes :: .calTime :: reporting

theorem feedKeys_mono {a : Nat} {l m : List Name} (h : ∀ n ∈ l, n ∈ m) : ∀ k ∈ feedKeys a l, k ∈ feedKeys a m := by
  intro k hk
  rcases List.mem_append.1 hk with hk | hk
  · obtain ⟨n, hn, rfl⟩ := List.mem_map.1 hk
    exact List.mem_append_left _ (List.mem_map_of_mem (f := (keyOf · a 0)) (h n hn))
  · exact List.mem_append_right _ hk

theorem commitKeys_feed (a : Fin 6) : ∀ n ∈ [Name.vMax, .retarget], keyOf n a 0 ∉ commitKeys { name := n, inst := a }
    ∧ ∀ k ∈ keyOf n a 0 :: commitKeys { name := n, inst := a }, k ∈ feedKeys a [n] := by
  revert a; decide +kernel

/-- The entries that the paced feed writes on its axis. -/
def feedNames : List Name := [.vMax, .retarget, .axisTarget]

theorem feedKeys_leave (a : Fin 6) : ∀ k ∈ feedKeys a feedNames, k ≠ keyOf .paceHead 0 0 ∧ k % 8192 ≠ 513 := by
  revert a; decide +kernel

theorem refuse_feed {a : Nat} (l : List Name) (st : Status) (i j : Nat) (s : State) :
    Frame (feedKeys a l) feedParts s ((refuse .p6 st i j).run s) :=
  put_frame (by simp [feedKeys, Path.num]) _ s

theorem commit_feed {a : Fin 6} {n : Name} (hn : n ∈ [Name.vMax, .retarget]) (c : Ctx) (v : U32) (s : State) :
    Frame (feedKeys a [n]) feedParts s ((commit c n a 0 v).run s) :=
  (commit_frame_own c n a 0 v s).mono (commitKeys_feed a n hn).2 fun _ h => .tail _ h

theorem commit_rd_feed {a : Fin 6} {n : Name} (hn : n ∈ [Name.vMax, .retarget]) (hm : entMask n = 0xFFFFFFFF) (c : Ctx) (v : U32) (s : State) :
    ((commit c n a 0 v).run s).rd n a = v := by
  rw [(commit_frame c n a 0 v s).1 _ _ _ (commitKeys_feed a n hn).1, State.rd_put, masked_full hm]

/-- The paced feed writes a speed through P6: it is taken, or refused into LAST_STATUS. -/
theorem paceSpeed_frame {a : Fin 6} {s : State} (h : s.feedAxis = a) (v : Nat) :
    Frame (feedKeys a [.vMax]) feedParts s ((paceSpeed v).run s) := by
  simp only [paceSpeed, run_ask, p6Checked, h]
  split
  · exact commit_feed (by decide) _ _ _
  · exact refuse_feed _ _ _ _ _

theorem paceSpeed_rd {a : Fin 6} {s : State} (h : s.feedAxis = a) {v : Nat} (hv : s.vMaxGate a v = .ok) :
    ((paceSpeed v).run s).rd .vMax a = u32 v := by
  simp only [paceSpeed, run_ask, p6Checked, h, hv, if_true, p6Write]
  exact commit_rd_feed (by decide) rfl _ _ _

/-- The paced feed writes a target through P6: it is taken, or refused into LAST_STATUS. -/
theorem paceTarget_frame {a : Fin 6} {s : State} (h : s.feedAxis = a) (x : Int) :
    Frame (feedKeys a [.retarget, .axisTarget]) feedParts s ((paceTarget x).run s) := by
  simp only [paceTarget, run_ask, p6Checked, h]
  split
  · simp only [all_cons, all_nil, run_seq, run_nop, run_wr, run_modAxis]
    have hc := (commit_feed (a := a) (n := .retarget) (by decide) .internal (i32 x) s).mono
      (feedKeys_mono (m := [.retarget, .axisTarget]) (by simp)) fun _ h => h
    exact (hc.trans (put_frame (by simp [feedKeys]) _ _)).trans
      (Op.within_frame (o := .axis a _) _ (by simp [Op.within, Op.touches, feedParts]))
  · exact refuse_feed _ _ _ _ _

theorem paceTarget_rd {a : Fin 6} {s : State} (h : s.feedAxis = a) {x : Int} (hx : s.retargetGate a x = .ok) :
    ((paceTarget x).run s).rd .axisTarget a = i32 x ∧ (((paceTarget x).run s).axis a).pend = some (.retarget x) := by
  simp only [paceTarget, run_ask, p6Checked, h, hx, if_true, all_cons, all_nil, run_seq, run_nop, run_wr, run_modAxis]
  exact ⟨State.rd_put .., by simp⟩

theorem targetNames_leave (a : Fin 6) : ∀ n ∈ .axisState :: .axisStatus :: targetNames, keyOf n a 0 ∉ feedKeys a [.vMax] := by
  revert a; decide +kernel

theorem vMax_leave (a : Fin 6) : keyOf .vMax a 0 ∉ feedKeys a [.retarget, .axisTarget] := by
  revert a; decide +kernel

/-- The paced feed sets a speed and a target of its axis. -/
def paceMove (v : Nat) (x : Int) : Prog := .seq (paceSpeed v) (paceTarget x)

theorem paceMove_frame {a : Fin 6} {s : State} (h : s.feedAxis = a) (v : Nat) (x : Int) :
    Frame (feedKeys a feedNames) feedParts s ((paceMove v x).run s) := by
  have h1 := (paceSpeed_frame h v).mono (feedKeys_mono (m := feedNames) (by decide)) fun _ h => h
  have h2 := paceTarget_frame ((h1.feedAxis (feedKeys_leave a)).trans h) x
  exact h1.trans (h2.mono (feedKeys_mono (by decide)) fun _ h => h)

/-- A speed and a target that pass their checks are both taken. -/
theorem paceMove_taken {a : Fin 6} {s : State} (h : s.feedAxis = a) {v : Nat} {x : Int} (hv : s.vMaxGate a v = .ok)
    (hx : s.retargetGate a x = .ok) (hst : s.rdN .axisState a = 1) :
    ((paceMove v x).run s).rd .vMax a = u32 v ∧ ((paceMove v x).run s).rd .axisTarget a = i32 x
      ∧ (((paceMove v x).run s).axis a).pend = some (.retarget x) := by
  have hF := paceSpeed_frame h v
  have hfeed := ((hF.mono (feedKeys_mono (m := feedNames) (by decide)) fun _ h => h).feedAxis (feedKeys_leave a)).trans h
  have hrd (n : Name) (hn : n ∈ .axisState :: .axisStatus :: targetNames) := hF.1 _ _ _ (targetNames_leave a n hn)
  obtain ⟨hu, hh⟩ := status_of_rd (hrd .axisStatus (by decide))
  have hx' : ((paceSpeed v).run s).retargetGate a x = .ok := by
    refine retargetGate_ok_of (hF.2 .modes (by decide)) (fun n hn => hrd n (.tail _ (.tail _ hn))) hu hh ?_ hx
    rw [State.rdN, hrd .axisState (.head _), ← State.rdN, hst]
    decide
  exact ⟨((paceTarget_frame hfeed x).1 _ _ _ (vMax_leave a)).trans (paceSpeed_rd h hv), paceTarget_rd hfeed hx'⟩

/-! ### The pause -/

theorem axisTo_rd {a st : Nat} (ha : a < 6) (hst : st < 4294967296) (s : State) : ((axisTo a st).run s).rdN .axisState a = st := by
  simp only [axisTo, run_ask, run_when]
  split
  · simp only [run_seq, run_wrN, bump, run_ask, run_wri]
    rw [State.rdN, State.rd_put_other, State.rd_put]
    · simp; omega
    · simp only [keyOf, indexOf, subOf, rowOf, unitAxis]; omega
  · next h => simpa using h

theorem rampStop_plans (a : Nat) : (rampStop a).All (Op.plans a) := by simp [rampStop]

theorem rampStop_rd {a : Nat} (ha : a < 6) {s : State} (h : s.rdN .axisState a = 2) : ((rampStop a).run s).rdN .axisState a = 3 := by
  simp only [rampStop, run_ask, all_cons, all_nil, run_seq, run_nop, h, axMoving, decide_true, Bool.true_or, when_true]
  exact axisTo_rd ha (by decide) _

/-- The entries that a pause writes. -/
def pauseKeys (a : Nat) : List Nat := keyOf .paceState 0 0 :: keyOf .pauseCount 0 0 :: planKeys a

theorem fenced_of_frame {W : List Nat} {L : List Part} {s t : State} (h : Frame W L s t) (hL : Part.islands ∉ L) (k : Nat) :
    t.fenced k = s.fenced k := by
  unfold State.fenced State.island
  rw [show t.islands = s.islands from h.2 .islands hL]

/-- The pause: the axis stops, the pause is counted, the feed goes to DECEL, and it is reported. -/
theorem pacePause_run {a : Nat} {s : State} (h : s.feedAxis = a) :
    pacePause.run s = (emit .pacePause (unitHead s.paceHead) islMotion (s.rd .freeMin) (s.rd .pos a)).run ((Op.put .paceState 0 0 2).apply
      ((Op.put .pauseCount 0 0 (u32 (min (((rampStop a).run s).rdN .pauseCount + 1) 4294967295))).apply ((rampStop a).run s))) := by
  simp only [pacePause, run_ask, all_cons, all_nil, run_seq, run_nop, h]
  rfl

theorem rampStop_frame {a : Nat} (s : State) : Frame (pauseKeys a) (.axes :: reporting) s ((rampStop a).run s) :=
  (Prog.run_planStep (rampStop_plans a) s).1.mono (fun _ h => .tail _ (.tail _ h)) fun _ h => h

theorem pacePause_frame {a : Nat} {s : State} (h : s.feedAxis = a) : Frame (pauseKeys a) (.axes :: reporting) s (pacePause.run s) := by
  have hc := put_frame (W := pauseKeys a) (L := .axes :: reporting) (n := .pauseCount) (j := 0) (i := 0) (by simp [pauseKeys])
  have hp := put_frame (W := pauseKeys a) (L := .axes :: reporting) (n := .paceState) (j := 0) (i := 0) (by simp [pauseKeys])
  rw [pacePause_run h]
  exact (((rampStop_frame s).trans (hc _ _)).trans (hp _ _)).trans
    ((emitBy_frame .p6 (by decide) (by decide) _ _ _ _ _).mono (by simp) fun _ h => .tail _ h)

theorem pause_keys_apart (a : Fin 6) : keyOf .pauseCount 0 0 ∉ planKeys a ∧ keyOf .pauseCount 0 0 ≠ keyOf .axisState a 0
    ∧ keyOf .paceState 0 0 ≠ keyOf .axisState a 0 ∧ keyOf .paceState 0 0 ≠ keyOf .pauseCount 0 0 := by
  revert a; decide +kernel

/-- From MOVING the pause leaves the feed in DECEL with its axis stopping, counted and reported. -/
theorem pacePause_paused {a : Fin 6} {s : State} (h : s.feedAxis = a) (hst : s.rdN .axisState a = 2) (hf : s.fenced islHost = false) :
    (pacePause.run s).rdN .paceState = 2 ∧ (pacePause.run s).rdN .pauseCount = min (s.rdN .pauseCount + 1) 4294967295
      ∧ (pacePause.run s).rdN .axisState a = 3
      ∧ (pacePause.run s).newest = some (Event.pacePause, unitHead s.paceHead, s.rd .freeMin) := by
  have hstep := Prog.run_planStep (rampStop_plans a) s
  obtain ⟨h1, h2, h3, h4⟩ := pause_keys_apart a
  have hc : ((rampStop a).run s).rdN .pauseCount = s.rdN .pauseCount := congrArg BitVec.toNat (hstep.1.1 _ _ _ h1)
  have hE (u : State) := emitBy_frame .p6 (ev := .pacePause) (by decide) (by decide) (unitHead s.paceHead) islMotion (s.rd .freeMin) (s.rd .pos a) u
  rw [pacePause_run h, hc]
  refine ⟨?_, ?_, ?_, emitBy_newest _ _ _ _ _ _ ?_⟩
  · rw [State.rdN, (hE _).1 _ _ _ (by simp), State.rd_put]; rfl
  · rw [State.rdN, (hE _).1 _ _ _ (by simp), State.rd_put_other _ _ h4, State.rd_put]; simp
  · rw [State.rdN, (hE _).1 _ _ _ (by simp), State.rd_put_other _ _ h3, State.rd_put_other _ _ h2]
    exact rampStop_rd a.isLt hst
  · exact (fenced_of_frame hstep.1 (by decide) _).trans hf

/-! ### The acting of the pacing state -/

/-- The entries that the pacing state may write as it acts. -/
def paceKeys (a : Nat) : List Nat := pauseKeys a ++ feedKeys a feedNames

/-- The parts of the state that it may change. -/
def paceParts : List Part := .pace :: feedParts

/-- The feed takes a pacing state and its full level, and sends its axis to a target. -/
def paceGo (n v : Nat) (x : Int) : Prog := all [ paceTo n, modPace (fun p => { p with level := 16 }), paceSpeed v, paceTarget x ]

theorem paceGo_run (n v : Nat) (x : Int) (s : State) :
    (paceGo n v x).run s = (paceMove v x).run ((Op.pace { s.pace with level := 16 }).apply ((Op.put .paceState 0 0 (u32 n)).apply s)) := rfl

/-- As the feed takes a pacing state and its full level nothing else changes. -/
theorem paceGo_begins (n : Nat) (s : State) :
    Frame [keyOf .paceState 0 0] [.pace] s ((Op.pace { s.pace with level := 16 }).apply ((Op.put .paceState 0 0 (u32 n)).apply s)) :=
  (put_frame (.head _) _ s).trans (Op.within_frame (o := .pace _) _ (by simp [Op.within, Op.touches]))

theorem paceGo_frame {a : Fin 6} {s : State} (h : s.feedAxis = a) (n v : Nat) (x : Int) :
    Frame (keyOf .paceState 0 0 :: feedKeys a feedNames) paceParts s ((paceGo n v x).run s) := by
  have h1 := paceGo_begins n s
  have h2 := (h1.feedAxis (by decide)).trans h
  rw [paceGo_run]
  exact (h1.mono (by simp) (by simp [paceParts])).trans ((paceMove_frame h2 v x).mono (fun _ h => .tail _ h) fun _ h => .tail _ h)

theorem paceUpdate_frame {a : Fin 6} {s : State} (h : s.feedAxis = a) : Frame (paceKeys a) paceParts s (paceUpdate.run s) := by
  have hpause : Frame (paceKeys a) paceParts s (pacePause.run s) :=
    (pacePause_frame h).mono (fun _ h => List.mem_append_left _ h) (by decide)
  have hgo (n v : Nat) (x : Int) : Frame (paceKeys a) paceParts s ((paceGo n v x).run s) :=
    (paceGo_frame h n v x).mono (by simp +contextual [paceKeys, pauseKeys]) fun _ h => h
  simp only [paceUpdate, run_ask]
  split
  · split
    · exact .refl _ _ _
    · split
      · exact hpause
      · rw [run_when]
        split
        · have hp : Frame (paceKeys a) paceParts s ((Op.pace { s.pace with level := s.levelOf (s.rdN .freeMin) }).apply s) :=
            Op.within_frame (o := .pace _) s (by simp [Op.within, Op.touches, paceParts])
          rw [run_seq, run_modPace]
          have hs := paceSpeed_frame (a := a) (s := (Op.pace { s.pace with level := s.levelOf (s.rdN .freeMin) }).apply s) h
            (s.pace.vEff * max (s.levelOf (s.rdN .freeMin)) 1 / 16)
          exact hp.trans (hs.mono (fun _ hk => List.mem_append_right _ (feedKeys_mono (m := feedNames) (by decide) _ hk))
            fun _ hx => .tail _ hx)
        · exact .refl _ _ _
  · rw [run_when]
    split
    · exact hgo _ _ _
    · exact .refl _ _ _
  · rw [run_when]
    split
    · exact hgo _ _ _
    · exact .refl _ _ _
  · rw [run_when]
    split
    · exact hpause
    · exact .refl _ _ _
  · exact .refl _ _ _

/-- On its way, at or below LOW_WM, the feed pauses. -/
theorem paceUpdate_run_pause {s : State} (hst : s.paceState = 1 ∨ s.paceState = 5) (hr : s.atRest s.feedAxis = false)
    (hf : s.rdN .freeMin ≤ s.rdN .lowWm) : paceUpdate.run s = pacePause.run s := by
  rcases hst with hst | hst <;> simp [paceUpdate, hst, hr, hf]

/-- In WAIT the feed approaches END_TARGET from HIGH_WM on, and stays below it. -/
theorem paceUpdate_run_wait {s : State} (hst : s.paceState = 4) :
    paceUpdate.run s = if s.rdN .highWm ≤ s.rdN .freeMin then (paceGo 5 s.pace.vEff (s.rdZ .endTarget)).run s else s := by
  simp only [paceUpdate, run_ask, hst, run_when, decide_eq_true_eq]
  rfl

theorem paceUpdate_run_backoff {s : State} (hst : s.paceState = 3) : paceUpdate.run s = s := by
  simp [paceUpdate, hst]

theorem goKeys_apart (a : Fin 6) : keyOf .paceState 0 0 ∉ feedKeys a feedNames := by
  revert a; decide +kernel

theorem gateNames_apart (a : Fin 6) :
    ∀ n ∈ .axisMode :: .stepWidth :: .axisState :: .axisStatus :: targetNames, keyOf n a 0 ∉ [keyOf .paceState 0 0] := by
  revert a; decide +kernel

theorem paceGo_state {a : Fin 6} {s : State} (h : s.feedAxis = a) (n v : Nat) (x : Int) :
    ((paceGo n v x).run s).rd .paceState = u32 n := by
  have h2 := ((paceGo_begins n s).feedAxis (by decide)).trans h
  rw [paceGo_run]
  exact ((paceMove_frame h2 v x).1 _ _ _ (goKeys_apart a)).trans (State.rd_put ..)

theorem paceGo_taken {a : Fin 6} {s : State} (h : s.feedAxis = a) {v : Nat} {x : Int} (n : Nat) (hv : s.vMaxGate a v = .ok)
    (hx : s.retargetGate a x = .ok) (hst : s.rdN .axisState a = 1) :
    ((paceGo n v x).run s).rd .vMax a = u32 v ∧ ((paceGo n v x).run s).rd .axisTarget a = i32 x
      ∧ (((paceGo n v x).run s).axis a).pend = some (.retarget x) := by
  have hb := paceGo_begins n s
  have hrd (m : Name) (hm : m ∈ .axisMode :: .stepWidth :: .axisState :: .axisStatus :: targetNames) := hb.1 _ _ _ (gateNames_apart a m hm)
  have hst' := (congrArg BitVec.toNat (hrd .axisState (by decide))).trans hst
  rw [paceGo_run]
  refine paceMove_taken ((hb.feedAxis (by decide)).trans h) ?_ ?_ hst'
  · rw [vMaxGate_congr (hrd .axisMode (by decide)) (hrd .stepWidth (by decide))]
    exact hv
  · obtain ⟨hu, hh⟩ := status_of_rd (hrd .axisStatus (by decide))
    refine retargetGate_ok_of (hb.2 .modes (by decide)) (fun m hm => hrd m (.tail _ (.tail _ (.tail _ (.tail _ hm))))) hu hh ?_ hx
    rw [State.rdN, hst']
    decide

end Sys2Proof.Machine
end

section
/-! SUPPORT. The rows of the paced feed: free space, the planning cycle, and the feed axis coming to rest. -/
namespace Sys2Proof.Machine

open Prog

/-! ### The planning cycle -/

/-- The state in which the pacing state acts: the axes have had their cycle and FREE_MIN shows F. -/
def cycleState (l : List (Nat × Nat)) (s : State) : State :=
  (Op.put .freeMin 0 0 (u32 s.freeMinOf)).apply ((each (List.range 6) (axisStep l)).run s)

theorem cycleKeys_apart : ∀ k ∈ cycleKeys, k ∉ [keyOf .paceHead 0 0, keyOf .collector 0 0, keyOf .member 0 0, keyOf .paceStreams 0 0]
    ∧ k % 4096 ≠ 1025 := by decide +kernel

theorem freeMin_apart (a : Fin 6) : keyOf .freeMin 0 0 ∉ paceKeys a
    ∧ ∀ n ∈ .axisMode :: .stepWidth :: targetNames, keyOf n a 0 ∉ keyOf .freeMin 0 0 :: cycleKeys := by
  revert a; decide +kernel

theorem cycleState_axisIs {l : List (Nat × Nat)} {a : Fin 6} {s : State} {st : U32} {v c : Int} {unc hom : Bool}
    (h : ((each (List.range 6) (axisStep l)).run s).AxisIs a st v c unc hom) : (cycleState l s).AxisIs a st v c unc hom := by
  have hk : keyOf .freeMin 0 0 ≠ keyOf .axisState a 0 ∧ keyOf .freeMin 0 0 ≠ keyOf .axisStatus a 0 := by
    clear h; revert a; decide +kernel
  exact Op.keepsAxis_keeps (.put .freeMin 0 0 _) _ ⟨hk.1, .inl hk.2⟩ h

section
variable (l : List (Nat × Nat)) {a : Fin 6} {s : State} (hs : s.feedAxis = a) (hp : (s.axis a).pend = none)
include hs hp

theorem planningCycle_run (h : Running s islMotion) : exec (.planningCycle l) s = .next (paceUpdate.run (cycleState l s)) := by
  have hF := freeMinOf_congr (cycle_frame l a.isLt hs hp) cycleKeys_apart (by decide)
  refine (execPlanningCycle_run l s h).trans ?_
  rw [cycleState, ← hF]
  rfl

theorem cycleState_frame : Frame (keyOf .freeMin 0 0 :: cycleKeys) (.axes :: reporting) s (cycleState l s) :=
  ((cycle_frame l a.isLt hs hp).mono (fun _ h => .tail _ h) fun _ h => h).trans (put_frame (.head _) _ _)

theorem cycleState_feedAxis : (cycleState l s).feedAxis = a :=
  ((cycleState_frame l hs hp).feedAxis (by decide +kernel)).trans hs

/-- FREE_MIN shows F after the cycle, whatever the pacing state does. -/
theorem planningCycle_freeMin : (paceUpdate.run (cycleState l s)).rd .freeMin = u32 s.freeMinOf :=
  ((paceUpdate_frame (cycleState_feedAxis l hs hp)).1 _ _ _ (freeMin_apart a).1).trans (State.rd_put ..)

theorem cycleState_rd {n : Name} {j : Nat} (h : keyOf n j 0 ∉ keyOf .freeMin 0 0 :: cycleKeys) : (cycleState l s).rd n j = s.rd n j :=
  (cycleState_frame l hs hp).1 _ _ _ h

/-- On its way at or below LOW_WM the feed pauses, its axis stops, and the pause is reported with FREE_MIN. -/
theorem planningCycle_pauses (hf : s.fenced islHost = false) (hst : s.rdN .paceState = 1 ∨ s.rdN .paceState = 5)
    (hax : s.rdN .axisState a = 2) (hpl : s.planned a ≠ (0, 0)) (hlow : s.freeMinOf ≤ s.rdN .lowWm) :
    (paceUpdate.run (cycleState l s)).rdN .paceState = 2
      ∧ (paceUpdate.run (cycleState l s)).rdN .pauseCount = min (s.rdN .pauseCount + 1) 4294967295
      ∧ (paceUpdate.run (cycleState l s)).rdN .axisState a = 3
      ∧ (paceUpdate.run (cycleState l s)).newest = some (Event.pacePause, unitHead s.paceHead, u32 s.freeMinOf) := by
  have hax' : s.rd .axisState a = 2 := BitVec.eq_of_toNat_eq hax
  have hfeed := cycleState_feedAxis l hs hp
  have hfree : (cycleState l s).rd .freeMin = u32 s.freeMinOf := State.rd_put ..
  obtain ⟨hA, hv, hc, -⟩ := cycleState_axisIs (cycle_moving l hs hp hax')
  have hrest : (cycleState l s).atRest a = false := by
    rw [State.atRest, hv, hc]
    simpa [Prod.ext_iff] using hpl
  have hpace := cycleState_rd l hs hp (n := .paceState) (j := 0) (by decide +kernel)
  have hlw := cycleState_rd l hs hp (n := .lowWm) (j := 0) (by decide +kernel)
  have hhead : (cycleState l s).paceHead = s.paceHead := congrArg BitVec.toNat (cycleState_rd l hs hp (by decide +kernel))
  have hcnt : (cycleState l s).rdN .pauseCount = s.rdN .pauseCount := congrArg BitVec.toNat (cycleState_rd l hs hp (by decide +kernel))
  have hle : (cycleState l s).rdN .freeMin ≤ (cycleState l s).rdN .lowWm := by
    rw [State.rdN, State.rdN, hfree, hlw]
    exact (Nat.mod_le _ _).trans hlow
  have hstate : (cycleState l s).paceState = 1 ∨ (cycleState l s).paceState = 5 := by
    rw [State.paceState, State.rdN, hpace]; exact hst
  rw [paceUpdate_run_pause hstate (hfeed ▸ hrest) hle]
  have h := pacePause_paused hfeed (State.rdN_eq hA) ((fenced_of_frame (cycleState_frame l hs hp) (by decide) _).trans hf)
  rwa [hfree, hhead, hcnt] at h

/-- From HIGH_WM on the waiting feed starts its approach to END_TARGET where the checks of V_MAX and RETARGET let it. -/
theorem planningCycle_approaches (hst : s.rdN .paceState = 4) (hax : s.rdN .axisState a = 1) (hhigh : s.rdN .highWm ≤ s.freeMinOf)
    (hlt : s.freeMinOf < 4294967296) (hv : s.vMaxGate a s.pace.vEff = .ok) (hx : s.retargetGate a (s.rdZ .endTarget) = .ok) :
    (paceUpdate.run (cycleState l s)).rdN .paceState = 5 ∧ (paceUpdate.run (cycleState l s)).rd .axisTarget a = s.rd .endTarget
      ∧ (paceUpdate.run (cycleState l s)).rdN .vMax a = s.pace.vEff
      ∧ ((paceUpdate.run (cycleState l s)).axis a).pend = some (.retarget (s.rdZ .endTarget)) := by
  have hax' : s.rd .axisState a = 1 := BitVec.eq_of_toNat_eq hax
  have hfeed := cycleState_feedAxis l hs hp
  have hF := cycleState_frame l hs hp
  have hfree : (cycleState l s).rd .freeMin = u32 s.freeMinOf := State.rd_put ..
  obtain ⟨hA, -, -, hu, hh⟩ := cycleState_axisIs (cycle_standstill l hs hp hax')
  have hpace := cycleState_rd l hs hp (n := .paceState) (j := 0) (by decide +kernel)
  have hhw := cycleState_rd l hs hp (n := .highWm) (j := 0) (by decide +kernel)
  have hend := cycleState_rd l hs hp (n := .endTarget) (j := 0) (by decide +kernel)
  have hgate (n : Name) (hn : n ∈ .axisMode :: .stepWidth :: targetNames) : (cycleState l s).rd n a = s.rd n a :=
    cycleState_rd l hs hp ((freeMin_apart a).2 n hn)
  have hv' : (cycleState l s).vMaxGate a s.pace.vEff = .ok := by
    rw [vMaxGate_congr (hgate .axisMode (by decide)) (hgate .stepWidth (by decide))]; exact hv
  have hx' : (cycleState l s).retargetGate a (s.rdZ .endTarget) = .ok :=
    retargetGate_ok_of (hF.2 .modes (by decide)) (fun n hn => hgate n (.tail _ (.tail _ hn))) hu hh (by rw [State.rdN_eq hA]; decide) hx
  have hle : (cycleState l s).rdN .highWm ≤ (cycleState l s).rdN .freeMin := by
    rw [State.rdN, State.rdN, hfree, hhw, BitVec.toNat_ofNat, Nat.mod_eq_of_lt hlt]; exact hhigh
  have heff : (cycleState l s).pace = s.pace := hF.2 .pace (by decide)
  rw [paceUpdate_run_wait (by rw [State.paceState, State.rdN, hpace]; exact hst), if_pos hle, heff,
    show (cycleState l s).rdZ .endTarget = s.rdZ .endTarget from congrArg BitVec.toInt hend]
  obtain ⟨h1, h2, h3⟩ := paceGo_taken hfeed 5 hv' hx' (State.rdN_eq hA)
  refine ⟨State.rdN_eq (paceGo_state hfeed _ _ _), h2.trans (by simp), ?_, h3⟩
  rw [State.rdN_eq h1]
  have := le_of_vMaxGate hv
  simp; omega

/-- In BACKOFF the planning cycle leaves the pacing state. -/
theorem planningCycle_backoff (hst : s.rdN .paceState = 3) : (paceUpdate.run (cycleState l s)).rdN .paceState = 3 := by
  have hpace := cycleState_rd l hs hp (n := .paceState) (j := 0) (by decide +kernel)
  have hst' : (cycleState l s).paceState = 3 := (congrArg BitVec.toNat hpace).trans hst
  rw [paceUpdate_run_backoff hst']
  exact hst'
end

/-! ### The feed axis at rest -/

/-- The entries of an axis that its coming to rest writes. -/
def restKeys (a : Nat) : List Nat := [keyOf .speed a 0, keyOf .axisState a 0, epochKey (unitAxis a)]

/-- An axis comes to rest at the end of a move or a stop: its planner rests and it is in STANDSTILL. -/
def comeToRest (a : Nat) : Prog := .seq (restPlan a) (.seq (axisTo a axStandstill) (axisPins a))

theorem restEnd_run {a : Nat} {s : State} (h : s.rdN .axisState a ≠ 4) : (restEnd a).run s = (paceAtRest a).run ((comeToRest a).run s) := by
  simp [restEnd, h, axHoming, comeToRest]

theorem comeToRest_frame (a : Nat) (s : State) : Frame (restKeys a) (.axes :: reporting) s ((comeToRest a).run s) := by
  refine Prog.run_frame ?_ s
  simp [comeToRest, restPlan, axisTo, axisPins, modAxis, wr, wrN, bump_within, Op.within, Op.touches, restKeys]

theorem comeToRest_axisState {a : Nat} (ha : a < 6) (s : State) : ((comeToRest a).run s).rdN .axisState a = 1 := by
  simp only [comeToRest, run_seq, axisPins, run_ask, run_modAxis]
  rw [State.rdN, State.rd_axis]
  exact axisTo_rd ha (by decide) _

/-- The direction of the feed and its backing distance depend on these entries and on V_EFF. -/
theorem backoff_congr {W : List Nat} {L : List Part} {s t : State} {a : Nat} (h : Frame W L s t) (hs : s.feedAxis = a) (ht : t.feedAxis = a)
    (hW : ∀ k ∈ W, k ∉ [keyOf .paceHead 0 0, keyOf .backlash 0 0, keyOf .paceSettle 0 0, keyOf .accMax a 0, keyOf .jerk a 0]
      ∧ (k < keyOf .rulingDir 0 0 ∨ k % 8192 ≠ 517))
    (hL : t.pace.vEff = s.pace.vEff) : t.backoffOf = s.backoffOf ∧ t.paceDir = s.paceDir := by
  have hr (n : Name) (j : Nat) (hn : keyOf n j 0 ∈ [keyOf .paceHead 0 0, keyOf .backlash 0 0, keyOf .paceSettle 0 0, keyOf .accMax a 0,
      keyOf .jerk a 0]) : t.rd n j = s.rd n j := h.1 _ _ _ fun hm => (hW _ hm).1 hn
  have hd (j : Nat) : t.rd .rulingDir j = s.rd .rulingDir j := h.1 _ _ _ fun hm => by
    have hk := (hW _ hm).2
    simp only [keyOf, indexOf, subOf, rowOf] at hk
    omega
  constructor
  · simp only [State.backoffOf, State.jerkOf, State.rdN, hs, ht, hL, hr .backlash 0 (by simp), hr .paceSettle 0 (by simp),
      hr .accMax a (by simp), hr .jerk a (by simp)]
  · unfold State.paceDir State.paceHead State.rdN
    rw [hr .paceHead 0 (by simp), hd]

theorem execStopComplete_run {a : Fin 6} {s : State} (h : Running s islMotion) (hr : s.atRest a = true) (hst : s.rdN .axisState a = 3) :
    exec (.stopComplete a) s = .next ((paceAtRest a).run ((comeToRest a).run s)) := by
  rw [← restEnd_run (by rw [hst]; decide)]
  show execStopComplete a s = _
  simp [execStopComplete, inIsland, h.1, h.2, hr, hst, axStopping]

theorem execTargetReached_run {a : Fin 6} {s : State} (h : Running s islMotion) (hr : s.atRest a = true) (hst : s.rdN .axisState a = 2)
    (hf : (s.axis a).frac = 0) {x : Int} (hg : (s.axis a).goal = .target x) (hp : s.rd .pos a = i32 x) :
    exec (.targetReached a) s = .next ((paceAtRest a).run ((comeToRest a).run s)) := by
  rw [← restEnd_run (by rw [hst]; decide)]
  show execTargetReached a s = _
  simp [execTargetReached, inIsland, h.1, h.2, hr, hst, hf, hg, hp, axMoving]

theorem isPaced_iff {s : State} {a : Nat} : s.isPaced a = true ↔ s.paceState ≠ 0 ∧ a = s.feedAxis := by
  simp [State.isPaced]

/-- The end of the stop in DECEL: the place and the backing distance are kept, and the feed backs off. -/
theorem paceAtRest_run_decel {a : Nat} {s : State} (h : s.feedAxis = a) (hst : s.paceState = 2) :
    (paceAtRest a).run s = (paceMove (s.rdN .backoffV) (s.posZ a - s.paceDir * s.backoffOf)).run ((Op.put .paceState 0 0 3).apply
      ((Op.put .backoffDist 0 0 (u32 s.backoffOf)).apply ((Op.pace { s.pace with pStop := s.posZ a }).apply s))) := by
  have hp : s.isPaced a = true := isPaced_iff.2 ⟨by rw [hst]; decide, h.symm⟩
  simp only [paceAtRest, run_ask, hp, when_true, hst, all_cons, all_nil, run_seq, run_nop]
  rfl

/-- The end of the backing: the feed waits, or approaches at once where there is room. -/
theorem paceAtRest_run_backoff {a : Nat} {s : State} (h : s.feedAxis = a) (hst : s.paceState = 3) :
    (paceAtRest a).run s = paceUpdate.run ((Op.put .paceState 0 0 4).apply s) := by
  have hp : s.isPaced a = true := isPaced_iff.2 ⟨by rw [hst]; decide, h.symm⟩
  simp only [paceAtRest, run_ask, hp, when_true, hst, run_seq]
  rfl

/-- As the feed backs off, only its state, its backing distance and P_STOP change before its axis is sent. -/
theorem decel_frame (s : State) (d : U32) (r : Pace) :
    Frame [keyOf .paceState 0 0, keyOf .backoffDist 0 0] [.pace] s
      ((Op.put .paceState 0 0 3).apply ((Op.put .backoffDist 0 0 d).apply ((Op.pace r).apply s))) :=
  ((Op.within_frame (o := .pace r) s (by simp [Op.within, Op.touches])).trans (put_frame (by simp) _ _)).trans (put_frame (by simp) _ _)

/-- The entries that a coming to rest leaves and that the paced feed then reads. -/
theorem restKeys_apart (a : Fin 6) : (∀ k ∈ restKeys a, (k ≠ keyOf .paceHead 0 0 ∧ k % 8192 ≠ 513)
      ∧ (k ∉ [keyOf .paceHead 0 0, keyOf .backlash 0 0, keyOf .paceSettle 0 0, keyOf .accMax a 0, keyOf .jerk a 0]
        ∧ (k < keyOf .rulingDir 0 0 ∨ k % 8192 ≠ 517)))
    ∧ (∀ n ∈ [Name.paceState, .backoffV, .highWm, .freeMin], keyOf n 0 0 ∉ restKeys a)
    ∧ (∀ n ∈ .pos :: .axisMode :: .stepWidth :: .axisStatus :: targetNames, keyOf n a 0 ∉ restKeys a) := by
  revert a; decide +kernel

/-- The entries that a backing-off feed writes are none that its checks or its axis read. -/
theorem decelKeys_apart (a : Fin 6) :
    (∀ n ∈ .axisState :: .axisMode :: .stepWidth :: .axisStatus :: targetNames, keyOf n a 0 ∉ [keyOf .paceState 0 0, keyOf .backoffDist 0 0])
    ∧ (∀ n ∈ [Name.paceState, .backoffDist], keyOf n 0 0 ∉ feedKeys a feedNames) ∧ keyOf .axisState a 0 ∉ feedKeys a feedNames := by
  revert a; decide +kernel

theorem waitKeys_apart (a : Fin 6) : ∀ n ∈ [Name.pos, .axisState], keyOf n a 0 ∉ keyOf .paceState 0 0 :: feedKeys a feedNames := by
  revert a; decide +kernel

section
variable {a : Fin 6} {s : State}

/-- At rest in DECEL the feed keeps the place reached and its backing distance, and sends its axis back by it. -/
theorem paceAtRest_backsOff (hf : s.feedAxis = a) (hst : s.paceState = 2) (hax : s.rdN .axisState a = 1)
    (hv : s.vMaxGate a (s.rdN .backoffV) = .ok) (hx : s.retargetGate a (s.posZ a - s.paceDir * s.backoffOf) = .ok) :
    ((paceAtRest a).run s).rdN .axisState a = 1 ∧ ((paceAtRest a).run s).rdN .paceState = 3
      ∧ ((paceAtRest a).run s).pace.pStop = s.posZ a ∧ ((paceAtRest a).run s).rd .backoffDist = u32 s.backoffOf
      ∧ ((paceAtRest a).run s).rd .vMax a = s.rd .backoffV
      ∧ ((paceAtRest a).run s).rd .axisTarget a = i32 (s.posZ a - s.paceDir * s.backoffOf) := by
  obtain ⟨hgate, hname, hstate⟩ := decelKeys_apart a
  have hD := decel_frame s (u32 s.backoffOf) { s.pace with pStop := s.posZ a }
  have hdist : ((Op.put .paceState 0 0 3).apply ((Op.put .backoffDist 0 0 (u32 s.backoffOf)).apply
      ((Op.pace { s.pace with pStop := s.posZ a }).apply s))).rd .backoffDist = u32 s.backoffOf :=
    (State.rd_put_other _ _ (by decide)).trans (State.rd_put ..)
  rw [paceAtRest_run_decel hf hst]
  generalize hb : (Op.put .paceState 0 0 3).apply _ = b at hD hdist ⊢
  have hpace : b.rd .paceState = 3 := hb ▸ State.rd_put ..
  have hstop : b.pace.pStop = s.posZ a := hb ▸ rfl
  have hrd (n : Name) (hn : n ∈ .axisState :: .axisMode :: .stepWidth :: .axisStatus :: targetNames) : b.rd n a = s.rd n a :=
    hD.1 _ _ _ (hgate n hn)
  have hfeed : b.feedAxis = a := (hD.feedAxis (by decide +kernel)).trans hf
  have hax' : b.rdN .axisState a = 1 := (congrArg BitVec.toNat (hrd .axisState (.head _))).trans hax
  obtain ⟨hu, hh⟩ := status_of_rd (hrd .axisStatus (by decide))
  have hv' : b.vMaxGate a (s.rdN .backoffV) = .ok := by
    rw [vMaxGate_congr (hrd .axisMode (by decide)) (hrd .stepWidth (by decide))]; exact hv
  have hx' := retargetGate_ok_of (hD.2 .modes (by decide)) (fun n hn => hrd n (.tail _ (.tail _ (.tail _ (.tail _ hn))))) hu hh
    (by rw [hax']; decide) hx
  have hM := paceMove_frame hfeed (s.rdN .backoffV) (s.posZ a - s.paceDir * s.backoffOf)
  obtain ⟨hvm, hxt, -⟩ := paceMove_taken hfeed hv' hx' hax'
  refine ⟨?_, ?_, ?_, (hM.1 _ _ _ (hname .backoffDist (by decide))).trans hdist, hvm.trans (by simp [State.rdN]), hxt⟩
  · exact (congrArg BitVec.toNat (hM.1 _ _ _ hstate)).trans hax'
  · exact State.rdN_eq ((hM.1 _ _ _ (hname .paceState (by decide))).trans hpace)
  · exact (congrArg Pace.pStop (hM.2 .pace (by decide))).trans hstop

/-- At rest in BACKOFF the feed waits, or approaches at once where there is room; its axis stays at rest where it is. -/
theorem paceAtRest_waits (hf : s.feedAxis = a) (hst : s.paceState = 3) :
    ((paceAtRest a).run s).rd .pos a = s.rd .pos a ∧ ((paceAtRest a).run s).rdN .axisState a = s.rdN .axisState a
      ∧ ((paceAtRest a).run s).rdN .paceState = (if s.rdN .highWm ≤ s.rdN .freeMin then 5 else 4) := by
  have hP := put_frame (W := [keyOf .paceState 0 0]) (L := []) (n := .paceState) (j := 0) (i := 0) (.head _) 4 s
  have hW := hP.mono (W' := keyOf .paceState 0 0 :: feedKeys a feedNames) (L' := paceParts) (by simp) (by simp)
  have hrd (n : Name) (hn : n ∈ [Name.highWm, .freeMin]) :
      ((Op.put .paceState 0 0 4).apply s).rdN n = s.rdN n := congrArg BitVec.toNat (State.rd_put_other _ _ (by
        fin_cases hn <;> decide))
  have hpace : ((Op.put .paceState 0 0 4).apply s).rd .paceState = 4 := State.rd_put ..
  rw [paceAtRest_run_backoff hf hst, paceUpdate_run_wait (State.rdN_eq hpace), hrd .highWm (by simp), hrd .freeMin (by simp)]
  split
  · have hfeed : ((Op.put .paceState 0 0 4).apply s).feedAxis = a := (hP.feedAxis (by decide)).trans hf
    have hG := hW.trans (paceGo_frame hfeed 5 ((Op.put .paceState 0 0 4).apply s).pace.vEff (((Op.put .paceState 0 0 4).apply s).rdZ .endTarget))
    exact ⟨hG.1 _ _ _ (waitKeys_apart a .pos (by decide)), congrArg BitVec.toNat (hG.1 _ _ _ (waitKeys_apart a .axisState (by decide))),
      State.rdN_eq (paceGo_state hfeed _ _ _)⟩
  · exact ⟨hW.1 _ _ _ (waitKeys_apart a .pos (by decide)), congrArg BitVec.toNat (hW.1 _ _ _ (waitKeys_apart a .axisState (by decide))),
      State.rdN_eq hpace⟩

/-- The stop of the feed axis in DECEL ends with the backoff from the position reached. -/
theorem stopComplete_backsOff (hm : Running s islMotion) (hp : s.isPaced a = true) (hr : s.atRest a = true) (hax : s.rdN .axisState a = 3)
    (hst : s.rdN .paceState = 2) (hv : s.vMaxGate a (s.rdN .backoffV) = .ok)
    (hx : s.retargetGate a (s.posZ a - s.paceDir * s.backoffOf) = .ok) :
    Answers (.stopComplete a) s fun t => t.rdN .axisState a = 1 ∧ t.rdN .paceState = 3
      ∧ t.pace.pStop = s.posZ a ∧ t.rd .backoffDist = u32 s.backoffOf ∧ t.rd .vMax a = s.rd .backoffV
      ∧ t.rd .axisTarget a = i32 (s.posZ a - s.paceDir * s.backoffOf) := by
  obtain ⟨hkeys, hname, hown⟩ := restKeys_apart a
  have hf : s.feedAxis = a := (isPaced_iff.1 hp).2.symm
  have hC := comeToRest_frame a s
  have hfeed := (hC.feedAxis fun k hk => (hkeys k hk).1).trans hf
  obtain ⟨hback, hdir⟩ := backoff_congr hC hf hfeed (fun k hk => (hkeys k hk).2) (congrArg Pace.vEff (hC.2 .pace (by decide)))
  have hrd (n : Name) (hn : n ∈ .pos :: .axisMode :: .stepWidth :: .axisStatus :: targetNames) := hC.1 _ _ _ (hown n hn)
  have hpos : ((comeToRest a).run s).posZ a = s.posZ a := congrArg BitVec.toInt (hrd .pos (.head _))
  have hbv := hC.1 _ _ _ (hname .backoffV (by decide))
  have hax' := comeToRest_axisState a.isLt s
  obtain ⟨hu, hh⟩ := status_of_rd (hrd .axisStatus (by decide))
  have hv' : ((comeToRest a).run s).vMaxGate a (((comeToRest a).run s).rdN .backoffV) = .ok := by
    rw [vMaxGate_congr (hrd .axisMode (by decide)) (hrd .stepWidth (by decide)), State.rdN, hbv]; exact hv
  have hx' := retargetGate_ok_of (hC.2 .modes (by decide)) (fun n hn => hrd n (.tail _ (.tail _ (.tail _ (.tail _ hn))))) hu hh
    (by rw [hax']; decide) hx
  rw [← hback, ← hdir, ← hpos] at hx' ⊢
  rw [← hbv]
  exact ⟨_, execStopComplete_run hm hr hax,
    paceAtRest_backsOff hfeed ((congrArg BitVec.toNat (hC.1 _ _ _ (hname .paceState (by decide)))).trans hst) hax' hv' hx'⟩

/-- The end of the backing leaves WAIT, or APPROACH where there is room. -/
theorem targetReached_waits (hm : Running s islMotion) (hp : s.isPaced a = true) (hr : s.atRest a = true) (hax : s.rdN .axisState a = 2)
    (hst : s.rdN .paceState = 3) (hfr : (s.axis a).frac = 0) {x : Int} (hg : (s.axis a).goal = .target x) (hx : s.rd .pos a = i32 x) :
    Answers (.targetReached a) s fun t =>
      t.rd .pos a = i32 x ∧ t.rdN .axisState a = 1 ∧ t.rdN .paceState = (if s.rdN .highWm ≤ s.rdN .freeMin then 5 else 4) := by
  obtain ⟨hkeys, hname, hown⟩ := restKeys_apart a
  have hC := comeToRest_frame a s
  have hfeed := (hC.feedAxis fun k hk => (hkeys k hk).1).trans (isPaced_iff.1 hp).2.symm
  have hrd (n : Name) (hn : n ∈ [Name.paceState, .backoffV, .highWm, .freeMin]) : ((comeToRest a).run s).rdN n = s.rdN n :=
    congrArg BitVec.toNat (hC.1 _ _ _ (hname n hn))
  obtain ⟨h1, h2, h3⟩ := paceAtRest_waits hfeed ((hrd .paceState (by decide)).trans hst)
  rw [hrd .highWm (by decide), hrd .freeMin (by decide)] at h3
  exact ⟨_, execTargetReached_run hm hr hax hfr hg hx, h1.trans ((hC.1 _ _ _ (hown .pos (by decide))).trans hx),
    h2.trans (comeToRest_axisState a.isLt s), h3⟩
end

/-! ### Free space and line durations -/

theorem freeArrives_run (k v : Nat) (s : State) : ∃ w, (freeArrives k v).run s =
    (Op.pace { s.pace with free := Store.put 0 s.pace.free k v, was := w }).apply s := ⟨_, rfl⟩

theorem freeArrives_frame (k v : Nat) (s : State) : Frame [] [.pace] s ((freeArrives k v).run s) := by
  obtain ⟨w, h⟩ := freeArrives_run k v s
  rw [h]
  exact Op.within_frame (o := .pace _) s (by simp [Op.within, Op.touches])

theorem freeArrives_free (k v j : Nat) (s : State) :
    Store.get 0 ((freeArrives k v).run s).pace.free j = if j = k then v else Store.get 0 s.pace.free j := by
  obtain ⟨w, h⟩ := freeArrives_run k v s
  rw [h]
  exact Store.get_put ..

/-- FREE_SPACE_ARRIVAL takes the free space of the stream, and that of the collector where LINK is in service. -/
theorem freeSpaceArrival_takes (k : Fin 8) {s : State} (h : Running s islMotion) (hf : s.fenced islHost = false) :
    Answers (.freeSpaceArrival k) s fun t => Store.get 0 t.pace.free k = s.rdN .freeRecords k
      ∧ (s.fenced islLink = false → Store.get 0 t.pace.free 8 = s.link.collFree) ∧ Frame [] [.pace] s t := by
  have hx : exec (.freeSpaceArrival k) s = .next ((when (!s.fenced islLink) (freeArrives 8 s.link.collFree)).run
      ((freeArrives k (s.rdN .freeRecords k)).run s)) := by
    show execFreeSpaceArrival k s = _
    simp [execFreeSpaceArrival, inIsland, h.1, h.2, hf]
  have h1 := freeArrives_frame k (s.rdN .freeRecords k) s
  have hk : Store.get 0 ((freeArrives k (s.rdN .freeRecords k)).run s).pace.free k = s.rdN .freeRecords k := by
    rw [freeArrives_free, if_pos rfl]
  refine ⟨_, hx, ?_⟩
  rw [run_when]
  split
  · refine ⟨?_, fun _ => by rw [freeArrives_free, if_pos rfl], h1.trans (freeArrives_frame ..)⟩
    rw [freeArrives_free, if_neg (by omega)]
    exact hk
  · next hl => exact ⟨hk, fun h => absurd (by simp [h]) hl, h1⟩

/-- The feed takes a new photon scale, and keeps the one with which its cycle began. -/
def lineScales (x : Nat) : Prog := .ask fun s => modPace fun p => { p with
  scale := x
  scaleWas := match p.scaleWas with
    | some (c, old) => if c = s.lightNow then some (c, old) else some (s.lightNow, p.scale)
    | none => some (s.lightNow, p.scale) }

/-- LINE_DURATION_ARRIVAL of PACE_HEAD sets the scale of the constant-photon feed from the predicted duration. -/
theorem lineDurationArrival_scales (h : Fin 4) {s : State} (hl : Running s islLight) (hm : s.rdN .photonMode = 1)
    (hp : s.rdN .paceHead = h) (hf : s.fenced h = false) :
    Answers (.lineDurationArrival h) s fun t => t.pace.scale = s.photonScaleOf (s.head h).predict ∧ Frame [] [.pace] s t := by
  have hx : exec (.lineDurationArrival h) s = .next ((lineScales (s.photonScaleOf (s.head h).predict)).run s) := by
    show execLineDurationArrival h s = _
    simp only [execLineDurationArrival, inIsland, done_eq, run_ask, hl.1, hl.2, hm, State.paceHead, hp, hf, decide_true, Bool.not_false,
      Bool.and_self, when_true]
    rfl
  exact ⟨_, hx, rfl, Op.within_frame (o := .pace _) s (by simp [Op.within, Op.touches])⟩

end Sys2Proof.Machine

namespace Sys2Proof.Proofs

open Sys2Proof.Machine

/-- Settles O33: the planning cycle keeps what the pacing state reads of the feed axis, and each state then acts by its own equation. -/
theorem pacedFeedFollowsItsStates : Obligations.PacedFeedFollowsItsStates := by
  refine ⟨fun k s => freeSpaceArrival_takes k, ?_, ?_, fun h s => lineDurationArrival_scales h⟩
  · intro l a s hm hf hs hp
    have hfree := planningCycle_freeMin l hs hp
    refine ⟨_, planningCycle_run l hs hp hm, hfree, ?_, planningCycle_approaches l hs hp, planningCycle_backoff l hs hp⟩
    rw [hfree]
    exact planningCycle_pauses l hs hp hf
  · intro a s hm hp hr
    exact ⟨stopComplete_backsOff hm hp hr, fun hax hst hfr x hg hx => targetReached_waits hm hp hr hax hst hfr hg hx⟩

end Sys2Proof.Proofs
end

section
/-! SUPPORT. What reset leaves, and the conditions of a transition. -/
namespace Sys2Proof.Machine

/-- Version and part stand above the twelve bits of the manufacturer and of the 1. -/
theorem Tap.idcode_version_part (t : Tap) : t.idcode.extractLsb' 12 20 = t.version ++ t.part := by
  rw [Tap.idcode, BitVec.extractLsb'_append_eq_of_le (by decide), BitVec.extractLsb'_append_eq_of_le (by decide)]
  exact BitVec.extractLsb'_eq_self

end Sys2Proof.Machine

namespace Sys2Proof.Proofs

open Sys2Proof.Machine

/-- Settles O7: the stores of the reset state list next to nothing, so an entry reads its default and a byte 0; the IDCODE's part is read off its fields. -/
theorem resetLeavesTheStatedValues : Obligations.ResetLeavesTheStatedValues := by
  have hunits : ∀ u : Fin 56, State.reset.rd .claim 0 u = 0xFF ∧ State.reset.rd .epoch 0 u = 0 := by decide +kernel
  have hheads : ∀ h : Fin 4, State.reset.rd .headState h = 0 ∧ State.reset.rd .pixels h = dfltOf .pixels h 0 := by decide +kernel
  exact ⟨rfl, rfl, rfl, rfl, rfl, rfl, fun _ => rfl, fun _ => rfl, hunits, by decide +kernel, hheads, Tap.idcode_version_part _⟩

/-- Settles O17: each clause is one row of the transitions table, SEQ being asked first. -/
theorem modeChecksHold : Obligations.ModeChecksHold := by
  intro s
  refine ⟨fun hf m => ?_, fun hf hm hs => ?_, fun hf hm hc => ?_, fun hf hm => ?_⟩
  · simp [modeCheck, hf]
  · simp [modeCheck, hf, hm, hs, need, firstBad]
  · rcases hm with hm | hm
    · simp [modeCheck, hf, hm, hc, need, firstBad_eq_ok]
    · simp [modeCheck, hf, hm, hc, need]
  · simp [modeCheck, hf, hm, need]

end Sys2Proof.Proofs
end

section
/-! SUPPORT. What a mode request does when it reaches arbitration: it waits, gives way, or is PARK and is taken up. -/
namespace Sys2Proof.Machine

open Prog

/-- MODE, TARGET, the pending request and the PARK requests have these values. -/
def Modes.Asks (x : Mode) (y : Option Mode) (r : Option ModeReq) (k : List ModeReq) (m : Modes) : Prop :=
  m.mode = x ∧ m.target = y ∧ m.pendingReq = r ∧ m.parkReq = k

theorem haltClosed_asks (x : Mode) (y : Option Mode) (r : Option ModeReq) (k : List ModeReq) : HaltClosed (Modes.Asks x y r k) :=
  fun _ _ _ _ h => h

/-- The request as arbitration in a state sees it. -/
def ModeReq.reaches (q : ModeReq) (s : State) : ModeReq := { q with since := s.time.toNat }

/-- What the pending request of a state does as another one replaces it. -/
def supersedePending (s : State) : Prog :=
  match s.modes.pendingReq with
  | some old => .seq (modModes fun m => { m with pendingReq := none }) (completeMode old .modeSuperseded)
  | none => .nop

/-- What a request that no pending one outranks does in a state. -/
def takeRequest (s : State) (q : ModeReq) : Prog :=
  if q.mode = .park then .seq (acceptMode q)
    (if s.modes.mode = .park && s.modes.target.isNone then completeMode q .ok else modModes fun m => { m with parkReq := m.parkReq ++ [q] })
  else modModes fun m => { m with pendingReq := some q }

theorem modeRequest_run_outranked {s : State} {q old : ModeReq} (hm : q.mode ≠ .park) (hp : s.modes.pendingReq = some old)
    (ho : outranks old (q.reaches s) = true) : (modeRequest q).run s = (completeMode (q.reaches s) .modeSuperseded).run s := by
  unfold ModeReq.reaches at *
  simp [modeRequest, hp, hm, ho]

theorem modeRequest_run_taken {s : State} {q : ModeReq}
    (h : q.mode = .park ∨ ∀ old, s.modes.pendingReq = some old → outranks old (q.reaches s) = false) :
    (modeRequest q).run s = (takeRequest s (q.reaches s)).run ((supersedePending s).run s) := by
  unfold ModeReq.reaches at *
  cases hp : s.modes.pendingReq with
  | none => simp [modeRequest, supersedePending, takeRequest, hp]
  | some old =>
    have hn : (decide (q.mode ≠ .park) && outranks old { q with since := s.time.toNat }) = false := by
      rcases h with h | h
      · simp [h]
      · simp [h old hp]
    simp only [modeRequest, supersedePending, takeRequest, run_ask, hp, hn]
    rfl

/-- The request that gives way leaves MODE, TARGET, the PARK requests and MODE_REQ as they were. -/
theorem supersedePending_meets {s : State} (hn : NoHeld s) :
    ((supersedePending s).run s).ModesMeet (Modes.Asks s.modes.mode s.modes.target none s.modes.parkReq)
      ∧ ((supersedePending s).run s).rd .modeReq = s.rd .modeReq := by
  unfold supersedePending
  split
  · next old hp =>
    have hc := completeMode_besideModes (haltClosed_asks s.modes.mode s.modes.target none s.modes.parkReq) old .modeSuperseded
    have hs : ((modModes fun m => { m with pendingReq := none }).run s).ModesMeet
        (Modes.Asks s.modes.mode s.modes.target none s.modes.parkReq) := ⟨⟨rfl, rfl, rfl, rfl⟩, hn⟩
    exact ⟨hc.run hs, hc.run_rd hs (.inl rfl)⟩
  · next hp => exact ⟨⟨⟨rfl, rfl, hp, rfl⟩, hn⟩, rfl⟩

/-- A plain request that gives way leaves MODE_SUPERSEDED in LAST_STATUS of its path. -/
theorem supersedePending_lastStatus {s : State} {old : ModeReq} (hf : s.fenced islHost = false) (hp : s.modes.pendingReq = some old)
    (ho : old.origin = .plain) : ((supersedePending s).run s).rd .lastStatus 0 old.path.num =
      u32 (Status.modeSuperseded.code * 0x1000000 + 0x2000 * 0x100 + 1) := by
  rw [supersedePending, hp, run_seq, completeMode_run_plain (by exact hf) ho (by decide), refuse_rd_lastStatus]

/-- A request for another mode than PARK that nothing outranks becomes the pending one. -/
theorem modeRequest_waits {s : State} {q : ModeReq} (hn : NoHeld s) (hm : q.mode ≠ .park)
    (ho : ∀ old, s.modes.pendingReq = some old → outranks old (q.reaches s) = false) :
    ((modeRequest q).run s).ModesMeet (Modes.Asks s.modes.mode s.modes.target (some (q.reaches s)) s.modes.parkReq)
      ∧ ((modeRequest q).run s).rd .modeReq = s.rd .modeReq
      ∧ ∀ i, ((modeRequest q).run s).rd .lastStatus 0 i = ((supersedePending s).run s).rd .lastStatus 0 i := by
  obtain ⟨⟨⟨h1, h2, -, h4⟩, hn'⟩, hr⟩ := supersedePending_meets hn
  have hmq : (q.reaches s).mode ≠ .park := hm
  rw [modeRequest_run_taken (.inr ho), takeRequest, if_neg hmq]
  exact ⟨⟨⟨h1, h2, rfl, h4⟩, hn'⟩, hr, fun _ => rfl⟩

/-- A request for PARK is taken up at once: it waits for SEQ, unless the X9 is in PARK already. -/
theorem modeRequest_parks {s : State} {q : ModeReq} (hn : NoHeld s) (hm : q.mode = .park) :
    ((modeRequest q).run s).ModesMeet (Modes.Asks s.modes.mode s.modes.target none
        (if s.modes.mode = .park ∧ s.modes.target = none then s.modes.parkReq else s.modes.parkReq ++ [q.reaches s]))
      ∧ ((modeRequest q).run s).rd .modeReq = 3 := by
  obtain ⟨⟨⟨h1, h2, h3, h4⟩, hn3, hn4, hn5⟩, -⟩ := supersedePending_meets hn
  have hmq : (q.reaches s).mode = .park := hm
  rw [modeRequest_run_taken (.inl hm), takeRequest, if_pos hmq, run_seq]
  generalize (supersedePending s).run s = u at *
  obtain ⟨ha, hmodes, hcmd⟩ := acceptMode_modeReq (q.reaches s) u
  rw [hmq] at ha
  rw [← hmodes] at h1 h2 h3 h4
  rw [← hcmd] at hn3 hn4 hn5
  generalize (acceptMode (q.reaches s)).run u = v at *
  by_cases hpark : s.modes.mode = .park ∧ s.modes.target = none
  · have hc := completeMode_besideModes (haltClosed_asks s.modes.mode s.modes.target none s.modes.parkReq) (q.reaches s) .ok
    have hv : v.ModesMeet (Modes.Asks s.modes.mode s.modes.target none s.modes.parkReq) := ⟨⟨h1, h2, h3, h4⟩, hn3, hn4, hn5⟩
    rw [if_pos hpark, if_pos (by simp [hpark])]
    exact ⟨hc.run hv, (hc.run_rd hv (.inl rfl)).trans ha⟩
  · rw [if_neg hpark, if_neg (by simpa using hpark)]
    exact ⟨⟨⟨h1, h2, h3, by rw [run_modModes, State.modes_apply, h4]⟩, hn3, hn4, hn5⟩, ha⟩

/-- A MODE_REQ write that passes the checks is a plain mode request of its path. -/
theorem writeRow_modeReq {s : State} {p : Path} {w : U32} (h : Takes s p { name := .modeReq } w) :
    (writeRow p { name := .modeReq } w).run s =
      (settled (modeRequest { path := p, mode := Mode.ofCode w.toNat, origin := .plain })).run s := by
  have hw : (writeEnt p .plain { name := .modeReq } w).run s =
      (modeRequest { path := p, mode := Mode.ofCode w.toNat, origin := .plain }).run s := by
    simp only [writeEnt, submit, run_ask, h.ok]
  simp only [writeRow, Prog.live, run_ask, h.live, h.up, when_true, settled, run_seq, hw]

end Sys2Proof.Machine

namespace Sys2Proof.Proofs

open Sys2Proof.Machine Prog

/-- A MODE_REQ write for another mode than PARK waits, or gives way to the pending request that outranks it. -/
theorem modeReqWrite_waits {c : Instr} {m : Mode} {p : Path} {s : State} (hx : exec c s = .next ((writeRow p { name := .modeReq } (u32 m.code)).run s))
    (hm : m ≠ .park) (h : Takes s p { name := .modeReq } (u32 m.code)) (hf : s.fenced islHost = false) :
    let mine : ModeReq := { path := p, mode := m, origin := .plain, since := s.time.toNat }
    ((∀ old, s.modes.pendingReq = some old → outranks old mine = false) →
      Answers c s fun t => t.modes.pendingReq = some mine ∧ t.modes.mode = s.modes.mode
        ∧ t.modes.target = s.modes.target ∧ t.rd .modeReq = s.rd .modeReq
        ∧ ∀ q m' w, s.modes.pendingReq = some { path := q, mode := m', origin := .plain, since := w } →
          t.rd .lastStatus 0 q.num = u32 (Status.modeSuperseded.code * 0x1000000 + 0x2000 * 0x100 + 1))
    ∧ (∀ old, s.modes.pendingReq = some old → outranks old mine = true →
      Answers c s fun t => t.modes = s.modes ∧ t.rd .modeReq = s.rd .modeReq
        ∧ t.rd .lastStatus 0 p.num = u32 (Status.modeSuperseded.code * 0x1000000 + 0x2000 * 0x100 + 1)) := by
  have hn : NoHeld s := ⟨h.held3, h.held4, h.held5⟩
  have hcode : Mode.ofCode (u32 m.code).toNat = m := by cases m <;> rfl
  rw [writeRow_modeReq h, hcode] at hx
  refine ⟨fun ho => ?_, fun old hp ho => ?_⟩
  · obtain ⟨⟨⟨h1, h2, h3, -⟩, hn'⟩, hr, hl⟩ := modeRequest_waits (q := { path := p, mode := m, origin := .plain }) hn hm ho
    refine answers_settled hx hn' ⟨h3, h1, h2, hr, fun q m' w hp => ?_⟩
    rw [hl]
    exact (supersedePending_lastStatus hf hp rfl :)
  · have hrun := modeRequest_run_outranked (q := { path := p, mode := m, origin := .plain }) hm hp ho
    rw [completeMode_run_plain hf rfl (by decide)] at hrun
    have hs : s.ModesMeet (· = s.modes) := ⟨rfl, hn⟩
    have hb : BesideModes (· = s.modes) (refuse p .modeSuperseded 0x2000 1) := refuse_besideModes ..
    refine answers_settled hx (hrun ▸ (hb.run hs).2) ?_
    rw [hrun]
    exact ⟨(hb.run hs).1, hb.run_rd hs (.inl rfl), refuse_rd_lastStatus ..⟩

/-- Settles O15: the completion of the request that gives way leaves MODE and the requests as arbitration sets them. -/
theorem modeRequestsWaitToBeTakenUp : Obligations.ModeRequestsWaitToBeTakenUp := by
  refine ⟨fun p s => ⟨?_, ?_, ?_⟩, fun p s h hf => ?_⟩
  · exact modeReqWrite_waits rfl (by decide)
  · exact modeReqWrite_waits rfl (by decide)
  · exact modeReqWrite_waits rfl (by decide)
  · obtain ⟨⟨⟨h1, -, h3, h4⟩, hn'⟩, hr⟩ := modeRequest_parks (q := { path := p, mode := .park, origin := .plain })
      ⟨h.held3, h.held4, h.held5⟩ rfl
    exact answers_settled (congrArg Host.Outcome.next (writeRow_modeReq h)) hn' ⟨h3, hr, h1, fun hp => h4.trans (if_neg hp)⟩

end Sys2Proof.Proofs
end

section
/-! SUPPORT. Steps of a program over a list, the writes of entries outside every unit, and what a reset of a path does: its grant, its claims and its
host sequence. -/
namespace Sys2Proof.Machine

open Prog

/-! ### Steps over a list -/

theorem Prog.each_keeps {α : Type} {P : State → Prop} {f : α → Prog} {l : List α} (h : ∀ b ∈ l, ∀ u, P u → P ((f b).run u)) {s : State}
    (hs : P s) : P ((each l f).run s) := by
  induction l generalizing s with
  | nil => exact hs
  | cons b l ih => exact ih (fun c hc => h c (.tail _ hc)) (h b (.head _) s hs)

/-- What the step of one element establishes and the steps of the others keep holds after all steps. -/
theorem Prog.each_establishes {α : Type} {P : State → Prop} {f : α → Prog} {l : List α} {a : α} (ha : a ∈ l)
    (hset : ∀ u, P ((f a).run u)) (hkeep : ∀ b ∈ l, b ≠ a → ∀ u, P u → P ((f b).run u)) (s : State) : P ((each l f).run s) := by
  induction l generalizing s with
  | nil => exact absurd ha (by simp)
  | cons b l ih =>
    by_cases hm : a ∈ l
    · exact ih hm (fun c hc => hkeep c (.tail _ hc)) _
    · have hab : a = b := (List.mem_cons.1 ha).resolve_right hm
      exact Prog.each_keeps (fun c hc => hkeep c (.tail _ hc) fun e => hm (e ▸ hc)) (hab ▸ hset s)

/-! ### Writes of entries outside every unit -/

/-- An accepted write of an entry of no unit, away from the entries of R48, gives it the value; nothing else changes but the reports. -/
theorem commit_frame_plain {n : Name} {j i : Nat} (hu : ({ name := n, inst := j, item := i } : Ent).unit = none)
    (hc : calEntry ({ name := n, inst := j, item := i } : Ent).index = false) (c : Ctx) (v : U32) (s : State) :
    Frame [] reporting ((Op.put n j i (masked n v)).apply s) ((commit c n j i v).run s) := by
  refine Prog.run_frame (p := .seq _ (.seq _ (.seq _ .nop))) ⟨?_, journalWrite_within _ (fun x hx => hx) _ _ _ _ _, ?_, trivial⟩ _
  · rw [hu]; trivial
  · intro u
    simp [hc]

/-! ### The grant and the claims of a path -/

/-- The updates of an event that is no HALT event: its report, and the free value of its stamp. -/
theorem emitBy_all {P : Op → Prop} {ev : Event} (hs : ev.severity ≠ .halt) (hr : ∀ e : JEntry, e.event = some ev → P (.report e)) (hf : P .free)
    (p : Path) (unit isl : Nat) (p1 p2 : U32) : (emitBy p ev unit isl p1 p2).All P := by
  intro s
  simp [hs, hr, hf]

/-- The entries of claims and of the epochs that move with them. -/
def claimKeys : List Nat := (List.range 56).flatMap fun u => [keyOf .claim 0 u, keyOf .epoch 0 u]

/-- The entries that a reset of a path changes. -/
def pathKeys (p : Path) : List Nat := keyOf .lastHostSeq 0 p.num :: keyOf .levelGranted 0 0 :: claimKeys

theorem testBit_sub_two_pow {n k : Nat} (h : n.testBit k = true) : (n - 2 ^ k).testBit k = false := by
  simp only [Nat.testBit_eq_decide_div_mod_eq, decide_eq_true_eq, decide_eq_false_iff_not] at *
  have hd := Nat.sub_mul_div n (2 ^ k) 1
  rw [Nat.mul_one] at hd
  rw [hd]
  omega

theorem setGrant_frame (p : Path) (on : Bool) (s : State) : Frame [keyOf .levelGranted 0 0] reporting s ((setGrant p on).run s) := by
  rw [setGrant, run_ask, run_when]
  split
  · exact (Op.within_frame (o := .put ..) s (.head _)).trans ((emitBy_frame p (by decide) (by decide) 0 _ _ _ _).mono (by simp) fun _ h => h)
  · exact Frame.refl _ _ _

theorem setGrant_clears {p : Path} (hp : p ≠ .p6) (s : State) : ((setGrant p false).run s).granted p = false := by
  rw [setGrant, run_ask, run_when]
  split
  · next h =>
    have hb : (s.rdN .levelGranted).testBit p.num = true := by
      simpa [State.granted, bitAt] using (Bool.and_eq_true _ _ ▸ h : (s.granted p != false) = true ∧ decide (p ≠ .p6) = true).1
    have he := (emitBy_frame p (ev := .levelChanged) (by decide) (by decide) 0 islHost (pack [(8, p.num), (8, bit01 false)]) 0
      ((wrN .levelGranted 0 (s.rdN .levelGranted - 2 ^ p.num)).run s)).1 .levelGranted 0 0 (by simp)
    have hlt : s.rdN .levelGranted - 2 ^ p.num < 2 ^ 32 := (Nat.sub_le _ _).trans_lt (s.rd .levelGranted).isLt
    rw [State.granted, bitAt, State.rdN, if_neg (by decide), run_seq, he, run_wrN, State.rd_put, BitVec.toNat_ofNat, Nat.mod_eq_of_lt hlt]
    exact testBit_sub_two_pow hb
  · next h => simpa [hp] using h

/-- The claim of a unit is free, and nothing but the claim, the unit's epoch and the reports changes. -/
theorem setClaim_frame (k : Nat) (v who : Nat) (s : State) :
    Frame [keyOf .claim 0 k, keyOf .epoch 0 k] reporting s ((setClaim none (k + 1) v who).run s) := by
  refine Prog.run_frame (p := .seq _ (.seq _ (.seq _ (.seq _ .nop)))) ⟨?_, ?_, ?_, ?_, trivial⟩ s
  · exact List.mem_cons_self (a := keyOf .claim 0 k)
  · exact bump_within (.tail _ (.head _))
  · trivial
  · refine emitBy_all (by decide) (fun e he => ?_) ?_ _ _ _ _ _
    · simp [Op.within, he]
    · simp [Op.within, Op.touches, reporting]

theorem setClaim_rd {k : Nat} (hk : k < 56) (v who : Nat) (s : State) : ((setClaim none (k + 1) v who).run s).rd .claim 0 k = u32 v := by
  have hb : (bump (k + 1)).All (Op.leavesEntry (keyOf .claim 0 k)) := fun _ => by
    show keyOf .epoch 0 (k + 1 - 1) ≠ keyOf .claim 0 k
    simp only [keyOf, indexOf, subOf, rowOf]
    omega
  have he : (emit .claimChanged (k + 1) islHost (pack [(8, k + 1), (8, who)])).All (Op.leavesEntry (keyOf .claim 0 k)) :=
    emitBy_all (by decide) (fun e he => by simp [Op.leavesEntry, he]) trivial _ _ _ _ _
  exact (Prog.run_rd (p := .seq _ (.seq .nop (.seq _ .nop))) ⟨hb, trivial, he, trivial⟩ ((Op.put .claim 0 k (u32 v)).apply s)).trans (State.rd_put ..)

/-- What the reset of a path in a state does to the claim of one unit. -/
def releaseStep (s : State) (p : Path) (k : Nat) : Prog := when (s.holderOf (k + 1) = p.num) (setClaim none (k + 1) 0xFF p.num)

theorem releaseStep_frame (s : State) (p : Path) (k : Nat) (u : State) :
    Frame [keyOf .claim 0 k, keyOf .epoch 0 k] reporting u ((releaseStep s p k).run u) := by
  rw [releaseStep, run_when]
  split
  · exact setClaim_frame k _ _ u
  · exact Frame.refl _ _ _

theorem claim_apart {k u : Nat} (hk : k < 56) (hu : u < 56) (h : k ≠ u) : keyOf .claim 0 u ∉ [keyOf .claim 0 k, keyOf .epoch 0 k] := by
  simp only [keyOf, indexOf, subOf, rowOf, List.mem_cons, List.not_mem_nil, or_false]
  omega

/-- Of the claims, those of the path are free and the others stay. -/
theorem releases_rd (s : State) (p : Path) {u : Nat} (hu : u < 56) (v : State) :
    ((each (List.range 56) (releaseStep s p)).run v).rd .claim 0 u = if s.holderOf (u + 1) = p.num then 0xFF else v.rd .claim 0 u := by
  have hkeep (w : U32) (k : Nat) (hk : k ∈ List.range 56) (hne : k ≠ u) (t : State) (ht : t.rd .claim 0 u = w) :
      ((releaseStep s p k).run t).rd .claim 0 u = w :=
    ((releaseStep_frame s p k t).1 _ _ _ (claim_apart (List.mem_range.1 hk) hu hne)).trans ht
  split
  · next h =>
    refine Prog.each_establishes (P := fun t => t.rd .claim 0 u = 0xFF) (List.mem_range.2 hu) (fun t => ?_) (hkeep 0xFF) v
    rw [releaseStep, decide_eq_true h, when_true]
    exact setClaim_rd hu _ _ t
  · next h =>
    refine Prog.each_keeps (P := fun t => t.rd .claim 0 u = v.rd .claim 0 u) (fun k hk t ht => ?_) rfl
    by_cases hne : k = u
    · rw [hne, releaseStep, decide_eq_false h]; exact ht
    · exact hkeep _ k hk hne t ht

theorem pathReset_run (p : Path) (s : State) : (pathReset p).run s =
    (emit .seqReset 0 islHost (u32 p.num)).run ((wri .lastHostSeq 0 p.num 0xFFFF).run
      ((each (List.range 56) (releaseStep s p)).run ((setGrant p false).run s))) := rfl

theorem releases_frame (s : State) (p : Path) (v : State) : Frame claimKeys reporting v ((each (List.range 56) (releaseStep s p)).run v) :=
  Prog.each_keeps (P := fun t => Frame claimKeys reporting v t)
    (fun k hk t ht => ht.trans ((releaseStep_frame s p k t).mono (fun _ h => List.mem_flatMap.2 ⟨k, hk, h⟩) fun _ h => h)) (Frame.refl _ _ _)

theorem pathReset_frame (p : Path) (s : State) : Frame (pathKeys p) reporting s ((pathReset p).run s) := by
  rw [pathReset_run]
  refine (((setGrant_frame p false s).mono ?_ fun _ h => h).trans ((releases_frame s p _).mono ?_ fun _ h => h)).trans
    ((Op.within_frame (o := .put ..) _ (.head _)).trans ((emitBy_frame .p6 (by decide) (by decide) 0 _ _ _ _).mono ?_ fun _ h => h))
  · simp [pathKeys]
  · exact fun k hk => .tail _ (.tail _ hk)
  · simp

theorem mem_claimKeys_range {k : Nat} (h : k ∈ claimKeys) : 0x200101 ≤ k ∧ k < 0x200239 := by
  obtain ⟨u, hu, h⟩ := List.mem_flatMap.1 h
  have := List.mem_range.1 hu
  simp only [keyOf, indexOf, subOf, rowOf, List.mem_cons, List.not_mem_nil, or_false] at h
  omega

theorem pathReset_lastHostSeq (p : Path) (s : State) : ((pathReset p).run s).rd .lastHostSeq 0 p.num = 0xFFFF := by
  rw [pathReset_run, (emitBy_frame .p6 (by decide) (by decide) 0 _ _ _ _).1 _ _ _ (by simp), run_wri, State.rd_put]

theorem pathReset_granted {p : Path} (hp : p ≠ .p6) (s : State) : ((pathReset p).run s).granted p = false := by
  have hk : keyOf .levelGranted 0 0 ∉ claimKeys := fun h => absurd (mem_claimKeys_range h) (by decide)
  have hl : keyOf .lastHostSeq 0 p.num ≠ keyOf .levelGranted 0 0 := by cases p <;> decide
  rw [State.granted, State.rdN, pathReset_run, (emitBy_frame .p6 (by decide) (by decide) 0 _ _ _ _).1 _ _ _ (by simp), run_wri,
    State.rd_put_other _ _ hl, (releases_frame s p _).1 _ _ _ hk]
  exact setGrant_clears hp s

theorem pathReset_holderOf (p : Path) {u : Nat} (hu : u < 56) (s : State) :
    ((pathReset p).run s).holderOf (u + 1) = if s.holderOf (u + 1) = p.num then 0xFF else s.holderOf (u + 1) := by
  have hl : keyOf .lastHostSeq 0 p.num ≠ keyOf .claim 0 u := by
    cases p <;> simp only [keyOf, indexOf, subOf, rowOf, Path.num] <;> omega
  have hg : keyOf .claim 0 u ∉ [keyOf .levelGranted 0 0] := by
    simp only [keyOf, indexOf, subOf, rowOf, List.mem_cons, List.not_mem_nil, or_false]
    omega
  have h : ((pathReset p).run s).rd .claim 0 u = if s.holderOf (u + 1) = p.num then 0xFF else s.rd .claim 0 u := by
    rw [pathReset_run, (emitBy_frame .p6 (by decide) (by decide) 0 _ _ _ _).1 _ _ _ (by simp), run_wri, State.rd_put_other _ _ hl,
      releases_rd s p hu, (setGrant_frame p false s).1 _ _ _ hg]
  rw [State.holderOf, State.rdN, Nat.add_sub_cancel, h]
  split <;> rfl

end Sys2Proof.Machine
end

section
/-! SUPPORT. Reports leave a controller in INITIALISING as it is. -/
namespace Sys2Proof.Machine

open Prog

/-- A controller in INITIALISING stays so, with the same record. -/
def State.KeepsInit (x : Nat) (s t : State) : Prop := s.rdN .nmtState x = 0 → t.rdN .nmtState x = 0 ∧ t.ctrl x = s.ctrl x

theorem State.KeepsInit.refl (x : Nat) (s : State) : s.KeepsInit x s := fun h => ⟨h, rfl⟩

theorem State.KeepsInit.trans {x : Nat} {a b c : State} (h : a.KeepsInit x b) (g : b.KeepsInit x c) : a.KeepsInit x c := fun ha =>
  have ⟨hb, h1⟩ := h ha
  have ⟨hc, h2⟩ := g hb
  ⟨hc, h2.trans h1⟩

theorem State.KeepsInit.ite {x : Nat} {a b c : State} {p : Prop} [Decidable p] (h : a.KeepsInit x b) (g : a.KeepsInit x c) :
    a.KeepsInit x (if p then b else c) := by split <;> assumption

/-- The record of the controllers is the same, and so is the NMT state. -/
theorem State.KeepsInit.of_ctrls {x : Nat} {s t : State} (hc : t.ctrls = s.ctrls) (hn : t.rd .nmtState x = s.rd .nmtState x) : s.KeepsInit x t :=
  fun h => ⟨(congrArg BitVec.toNat hn).trans h, congrArg (fun c => Store.get ({} : Ctrl) c x) hc⟩

/-- In INITIALISING a controller produces no EMCY, and the other controller's leaves it alone. -/
theorem State.sendEmcy_keepsInit (x y code ev : Nat) (p1 q : U32) (t : U64) (s : State) : s.KeepsInit x (s.sendEmcy y code ev p1 q t) := by
  intro h
  by_cases hy : y = x
  · have : s.sendEmcy y code ev p1 q t = s := by simp [State.sendEmcy, hy, h]
    rw [this]
    exact ⟨h, rfl⟩
  · refine ⟨?_, ?_⟩
    · rw [State.rdN, State.rd, State.sendEmcy_dict]
      exact h
    · unfold State.sendEmcy
      split
      · rfl
      · dsimp only
        split
        · exact Store.get_put_other _ _ _ (Ne.symm hy)
        · exact Store.get_put_other _ _ _ (Ne.symm hy)

theorem State.signal_keepsInit (x v : Nat) (s : State) : s.KeepsInit x (s.signal v) := by
  obtain ⟨_, _, h⟩ := s.signal_frame v
  rw [h]
  exact .of_ctrls rfl rfl

theorem State.eventEmcy_keepsInit (x : Nat) (ev : Event) (e : JEntry) (s : State) : s.KeepsInit x (s.eventEmcy ev e) := by
  unfold State.eventEmcy
  split
  · exact .refl x s
  · dsimp only
    refine .ite (.trans ?_ (State.sendEmcy_keepsInit _ _ _ _ _ _ _ _)) ?_
    all_goals refine .ite (.trans ?_ (State.sendEmcy_keepsInit _ _ _ _ _ _ _ _)) ?_
    all_goals exact .ite (.of_ctrls rfl rfl) (.refl x s)

/-- The entry CAL_ID, which the sequence point writes with CAL_DONE, is no controller's NMT state. -/
theorem State.number_keepsInit (x : Nat) (e : JEntry) (s : State) : s.KeepsInit x (s.number e) := by
  have hk : keyOf .nmtState x 0 ≠ keyOf .calId 0 0 := by simp only [keyOf, indexOf, subOf, rowOf]; omega
  have hcal (r : Reports) (v : U32) :
      s.KeepsInit x { s with rep := r, dict := Store.put (dfltOf .calId 0 0) s.dict (keyOf .calId 0 0) v } :=
    .of_ctrls rfl (Store.get_put_dflt _ _ _ _ hk)
  unfold State.number
  dsimp only
  split
  · exact .ite (hcal _ _) (.of_ctrls rfl rfl)
  · refine .ite (.trans ?_ (State.signal_keepsInit _ _ _)) ?_
    all_goals refine .ite (.trans (.trans ?_ (State.sendEmcy_keepsInit _ _ _ _ _ _ _ _)) (State.sendEmcy_keepsInit _ _ _ _ _ _ _ _)) ?_
    all_goals refine .trans ?_ (State.eventEmcy_keepsInit _ _ _ _)
    all_goals exact .ite (hcal _ _) (.of_ctrls rfl rfl)

theorem State.report_keepsInit (x : Nat) (e : JEntry) (s : State) : s.KeepsInit x (s.report e) := by
  have hc : s.KeepsInit x (s.counted e) := .ite (.of_ctrls rfl rfl) (.refl x s)
  exact .ite (hc.trans (.of_ctrls rfl rfl)) (hc.trans (State.number_keepsInit _ _ _))

/-- The update writes neither the NMT state nor the record of the controller, but may report. -/
def Op.leavesInit (x : Nat) : Op → Prop
  | .put n j i _ => keyOf n j i ≠ keyOf .nmtState x 0
  | .report _ | .free | .output _ | .pdo .. => True
  | _ => False

theorem Op.leavesInit_keeps {x : Nat} (o : Op) (s : State) (h : o.leavesInit x) : s.KeepsInit x (o.apply s) := by
  cases o <;> simp only [Op.leavesInit] at h
  case put n j i v => exact .of_ctrls rfl (State.rd_put_other v s h)
  case report e => exact State.report_keepsInit x e s
  case free => exact .of_ctrls rfl rfl
  case output o => exact .of_ctrls rfl rfl
  case pdo k r => exact .of_ctrls rfl rfl

theorem Prog.run_keepsInit {x : Nat} {p : Prog} (h : p.All (Op.leavesInit x)) (s : State) : s.KeepsInit x (p.run s) :=
  Prog.run_rel (State.KeepsInit.refl x) State.KeepsInit.trans Op.leavesInit_keeps p h s

end Sys2Proof.Machine
end

section
/-! SUPPORT. What a Reset Communication of a controller does: its PDOs, its settings, its path, its node-ID and its NMT state. -/
namespace Sys2Proof.Machine

open Prog

/-! ### The defaults of a PDO -/

/-- The entries of PDO `j + 1`. -/
def pdoKeys (j : Nat) : List Nat := pdoNames.flatMap fun n => (List.range 64).map fun i => keyOf n j i

/-- The entries of the PDOs of a controller. -/
def commKeys (x : Nat) : List Nat := (pdosOf x).flatMap pdoKeys

/-- The entries of PDO `j + 1` that take their defaults beside its COB-IDs and its mapping words. -/
def pdoPlain : List Name := [.rpdoType, .rpdoMapCount, .tpdoType, .tpdoInhibit, .tpdoEventTimer, .tpdoMapCount]

/-- The mapping words of PDO `j + 1` take their defaults. -/
def mapDefaults (j : Nat) : Prog :=
  each (List.range 64) fun i => .seq (wri .rpdoMap j i (dfltOf .rpdoMap j i)) (wri .tpdoMap j i (dfltOf .tpdoMap j i))

/-- What PDO `j + 1` holds beyond its entries is cleared. -/
def pdoClear (j : Nat) : Prog := .seq (modPdo j fun _ => {}) (modPdo (12 + j) fun _ => {})

/-- What the defaults of the communication entries do to PDO `j + 1`. -/
def pdoDefaults (x j : Nat) : Prog := .seq (.ask fun s =>
    let id := if s.rdN .nodeIdNow x = 0xFF then 0 else s.rdN .nodeIdNow x
    let cob (n : Name) : Prog := let d := dfltOf n j 0; wr n j (if bitAt d.toNat 31 then d else d + u32 id)
    .seq (cob .rpdoCobId) (cob .tpdoCobId))
  (.seq (each pdoPlain fun n => wr n j (dfltOf n j 0)) (.seq (mapDefaults j) (pdoClear j)))

theorem commDefaults_run (x : Nat) (s : State) : (commDefaults x).run s = (each (pdosOf x) (pdoDefaults x)).run s := by
  unfold commDefaults
  generalize pdosOf x = l
  induction l generalizing s with
  | nil => rfl
  | cons j l ih => exact ih _

theorem keyOf_mem_pdoKeys {n : Name} (hn : n ∈ pdoNames) {i : Nat} (hi : i < 64) (j : Nat) : keyOf n j i ∈ pdoKeys j :=
  List.mem_flatMap.2 ⟨n, hn, List.mem_map_of_mem (List.mem_range.2 hi)⟩

/-- The index of an entry of a PDO ends in the number of the PDO, and is below those of the device. -/
theorem pdoKeys_index {j k : Nat} (hj : j < 12) (h : k ∈ pdoKeys j) : k / 256 % 512 = j ∧ k < 0x200000 := by
  obtain ⟨n, hn, h⟩ := List.mem_flatMap.1 h
  obtain ⟨i, hi, rfl⟩ := List.mem_map.1 h
  have := List.mem_range.1 hi
  simp only [pdoNames, List.mem_cons, List.not_mem_nil, or_false] at hn
  rcases hn with rfl | rfl | rfl | rfl | rfl | rfl | rfl | rfl | rfl | rfl <;> simp only [keyOf, indexOf, subOf, rowOf] <;> omega

theorem pdosOf_lt {x j : Nat} (h : j ∈ pdosOf x) : j < 12 := by
  unfold pdosOf at h
  split at h
  · have := List.mem_range.1 h
    omega
  · obtain ⟨i, hi, rfl⟩ := List.mem_map.1 h
    have := List.mem_range.1 hi
    omega

theorem mem_commKeys_lt {x k : Nat} (h : k ∈ commKeys x) : k < 0x200000 := by
  obtain ⟨j, hj, h⟩ := List.mem_flatMap.1 h
  exact (pdoKeys_index (pdosOf_lt hj) h).2

theorem pdoDefaults_all {P : Op → Prop} (x j : Nat) (hput : ∀ n ∈ pdoNames, ∀ i < 64, ∀ v, P (.put n j i v)) (hpdo : ∀ k, P (.pdo k {})) :
    (pdoDefaults x j).All P := by
  refine ⟨fun s => ⟨hput _ (by decide) _ (by decide) _, hput _ (by decide) _ (by decide) _⟩, ?_, ?_, fun _ => hpdo _, fun _ => hpdo _⟩
  · rw [all_each]
    intro n hn
    exact hput n (by revert n; decide) 0 (by decide) _
  · rw [mapDefaults, all_each]
    intro i hi
    exact ⟨hput _ (by decide) i (List.mem_range.1 hi) _, hput _ (by decide) i (List.mem_range.1 hi) _⟩

theorem pdoDefaults_frame (x j : Nat) (s : State) : Frame (pdoKeys j) [.pdos] s ((pdoDefaults x j).run s) :=
  Prog.run_frame (pdoDefaults_all x j (fun _ hn _ hi _ => keyOf_mem_pdoKeys hn hi j) (fun _ => by simp [Op.within, Op.touches])) s

theorem mapDefaults_leaves {n : Name} (hn : n ∈ pdoPlain) (j : Nat) : (mapDefaults j).All (Op.leavesEntry (keyOf n j 0)) := by
  rw [mapDefaults, all_each]
  intro i hi
  have := List.mem_range.1 hi
  simp only [pdoPlain, List.mem_cons, List.not_mem_nil, or_false] at hn
  refine ⟨show keyOf _ _ _ ≠ _ from ?_, show keyOf _ _ _ ≠ _ from ?_⟩
  all_goals rcases hn with rfl | rfl | rfl | rfl | rfl | rfl <;> simp only [keyOf, indexOf, subOf, rowOf] <;> omega

/-- The keys of the same entry of two PDOs are as far apart as the PDOs. -/
theorem keyOf_pdoPlain {n : Name} (hn : n ∈ pdoPlain) (j : Nat) : keyOf n j 0 = keyOf n 0 0 + 256 * j := by
  simp only [pdoPlain, List.mem_cons, List.not_mem_nil, or_false] at hn
  rcases hn with rfl | rfl | rfl | rfl | rfl | rfl <;> simp only [keyOf, indexOf, subOf, rowOf] <;> omega

theorem pdoPlain_apart {n m : Name} (hn : n ∈ pdoPlain) (hm : m ∈ pdoPlain) (h : m ≠ n) (j : Nat) : keyOf m j 0 ≠ keyOf n j 0 := by
  have h0 : ∀ n ∈ pdoPlain, ∀ m ∈ pdoPlain, m ≠ n → keyOf m 0 0 ≠ keyOf n 0 0 := by decide
  have := h0 n hn m hm h
  rw [keyOf_pdoPlain hn, keyOf_pdoPlain hm]
  omega

theorem pdoDefaults_rd {n : Name} (hn : n ∈ pdoPlain) (x j : Nat) (s : State) : ((pdoDefaults x j).run s).rd n j = dfltOf n j 0 := by
  have hrest : (Prog.seq (mapDefaults j) (pdoClear j)).All (Op.leavesEntry (keyOf n j 0)) :=
    ⟨mapDefaults_leaves hn j, fun _ => trivial, fun _ => trivial⟩
  rw [pdoDefaults, run_seq, run_seq, Prog.run_rd hrest]
  exact Prog.each_establishes (P := fun t => t.rd n j = dfltOf n j 0) (f := fun n => wr n j (dfltOf n j 0)) hn (fun _ => State.rd_put ..)
    (fun m hm hne u hu => (State.rd_put_other _ _ (pdoPlain_apart hn hm hne j)).trans hu) _

/-- The update is a write of an entry, or clears what a PDO holds beyond its entries. -/
def Op.clearsPdos : Op → Prop
  | .put .. => True
  | .pdo _ r => r = {}
  | _ => False

theorem Op.clearsPdos_keeps {k : Nat} (o : Op) (s : State) (h : o.clearsPdos) (hs : s.pdo k = {}) : (o.apply s).pdo k = {} := by
  cases o <;> simp only [Op.clearsPdos] at h
  case put n j i v => exact hs
  case pdo j r =>
    rw [State.pdo_apply]
    split
    · exact h
    · exact hs

theorem pdoDefaults_pdo {k : Nat} (x j : Nat) (s : State) (h : k = j ∨ k = 12 + j ∨ s.pdo k = {}) : ((pdoDefaults x j).run s).pdo k = {} := by
  have hall : (pdoDefaults x j).All Op.clearsPdos := pdoDefaults_all x j (fun _ _ _ _ _ => trivial) fun _ => rfl
  rcases h with rfl | rfl | h
  · rw [pdoDefaults, run_seq, run_seq, run_seq, pdoClear, run_seq, run_modPdo, run_modPdo, State.pdo_apply, if_neg (by omega), State.pdo_apply,
      if_pos rfl]
  · rw [pdoDefaults, run_seq, run_seq, run_seq, pdoClear, run_seq, run_modPdo, run_modPdo, State.pdo_apply, if_pos rfl]
  · exact Prog.run_keeps Op.clearsPdos_keeps _ hall s h

theorem commDefaults_frame (x : Nat) (s : State) : Frame (commKeys x) [.pdos] s ((commDefaults x).run s) := by
  rw [commDefaults_run]
  exact Prog.each_keeps (P := fun t => Frame (commKeys x) [.pdos] s t)
    (fun j hj u hu => hu.trans ((pdoDefaults_frame x j u).mono (fun k hk => List.mem_flatMap.2 ⟨j, hj, hk⟩) fun _ h => h)) (Frame.refl _ _ _)

theorem commDefaults_rd {x j : Nat} (hj : j ∈ pdosOf x) {n : Name} (hn : n ∈ pdoPlain) (s : State) :
    ((commDefaults x).run s).rd n j = dfltOf n j 0 := by
  have hk := pdoKeys_index (pdosOf_lt hj) (keyOf_mem_pdoKeys (by revert n; decide : n ∈ pdoNames) (by decide : 0 < 64) j)
  rw [commDefaults_run]
  refine Prog.each_establishes (P := fun t => t.rd n j = dfltOf n j 0) hj (fun u => pdoDefaults_rd hn x j u) (fun i hi hne u hu => ?_) s
  exact ((pdoDefaults_frame x i u).1 _ _ _ fun h => hne ((pdoKeys_index (pdosOf_lt hi) h).1.symm.trans hk.1)).trans hu

theorem commDefaults_pdo {x j k : Nat} (hj : j ∈ pdosOf x) (hk : k = j ∨ k = 12 + j) (s : State) : ((commDefaults x).run s).pdo k = {} := by
  rw [commDefaults_run]
  exact Prog.each_establishes (P := fun t => t.pdo k = {}) hj (fun u => pdoDefaults_pdo x j u (hk.imp_right .inl))
    (fun i _ _ u hu => pdoDefaults_pdo x i u (.inr (.inr hu))) s

/-! ### The settings of a controller -/

/-- The settings that a Reset Node restores. -/
def settingNames : List Name :=
  [.nodeId, .bitrate, .dataRate, .nmtAccept, .emcyMin, .hbAction, .sdoTimeout, .timingNom, .timingData, .timingSrc]

def settingKeys (x : Nat) : List Nat := settingNames.map fun n => keyOf n x 0

def settingDefaults (x : Nat) : Prog := each settingNames fun n => wr n x (dfltOf n x 0)

theorem keyOf_setting {n : Name} (hn : n ∈ settingNames) (x : Nat) : keyOf n x 0 = keyOf n 0 0 + 4096 * x := by
  simp only [settingNames, List.mem_cons, List.not_mem_nil, or_false] at hn
  rcases hn with rfl | rfl | rfl | rfl | rfl | rfl | rfl | rfl | rfl | rfl <;> simp only [keyOf, indexOf, subOf, rowOf] <;> omega

theorem setting_apart {n m : Name} (hn : n ∈ settingNames) (hm : m ∈ settingNames) (h : m ≠ n) (x : Nat) : keyOf m x 0 ≠ keyOf n x 0 := by
  have h0 : ∀ n ∈ settingNames, ∀ m ∈ settingNames, m ≠ n → keyOf m 0 0 ≠ keyOf n 0 0 := by decide
  have := h0 n hn m hm h
  rw [keyOf_setting hn, keyOf_setting hm]
  omega

theorem settingKeys_ge {x k : Nat} (h : k ∈ settingKeys x) : 0x2D0000 ≤ k := by
  have h0 : ∀ n ∈ settingNames, 0x2D0000 ≤ keyOf n 0 0 := by decide
  obtain ⟨n, hn, rfl⟩ := List.mem_map.1 h
  have := h0 n hn
  rw [keyOf_setting hn]
  omega

theorem settingDefaults_frame (x : Nat) (s : State) : Frame (settingKeys x) [] s ((settingDefaults x).run s) :=
  Prog.each_keeps (P := fun t => Frame (settingKeys x) [] s t) (f := fun n => wr n x (dfltOf n x 0))
    (fun n hn u hu => hu.trans (Op.within_frame (o := .put n x 0 _) u (List.mem_map_of_mem (f := fun n => keyOf n x 0) hn))) (Frame.refl _ _ _)

theorem settingDefaults_rd {n : Name} (hn : n ∈ settingNames) (x : Nat) (s : State) : ((settingDefaults x).run s).rd n x = dfltOf n x 0 :=
  Prog.each_establishes (P := fun t => t.rd n x = dfltOf n x 0) (f := fun n => wr n x (dfltOf n x 0)) hn (fun _ => State.rd_put ..)
    (fun _ hm hne u hu => (State.rd_put_other _ u (setting_apart hn hm hne x)).trans hu) s

end Sys2Proof.Machine
end

section
/-! SUPPORT. Reset Communication and Reset Node as a whole, and the write of a node-ID. -/
namespace Sys2Proof.Machine

open Prog

/-! ### The stages of a reset -/

/-- The controller goes to INITIALISING and takes up its node-ID and its timing. -/
def takeUpNode (x : Nat) : Prog := .seq (wr .nmtState x 0) (.ask fun s =>
  .seq (wr .nodeIdNow x (s.rd .nodeId x)) (modCtrl x fun c => { resume := c.resume, active := s.timingOf x }))

/-- The path of the controller is reset, and the boot-up message sent. -/
def pathBoot (x : Nat) : Prog := .seq (pathReset (canPath x)) (bootMessage x)

/-- The defaults, the path and the boot-up message. -/
def resetRest (x : Nat) (node : Bool) : Prog := .seq (commDefaults x) (.seq (when node (settingDefaults x)) (pathBoot x))

/-- The NMT state shows MODE again, where the controller has a node-ID. -/
def showMode (x : Nat) : Prog := .ask fun s => when (s.rdN .nodeIdNow x ≠ 0xFF) (wrN .nmtState x (nmtOfMode s.modes.mode))

theorem resetComm_run (x : Nat) (node : Bool) (s : State) :
    (resetComm x node).run s = (showMode x).run ((resetRest x node).run ((takeUpNode x).run s)) := by
  simp only [resetComm, resetRest, pathBoot, takeUpNode, all_cons, all_nil, run_seq, run_nop]
  rfl

/-- The entries that a reset changes between the taking up and the showing of MODE. -/
def resetRestKeys (x : Nat) (node : Bool) : List Nat := commKeys x ++ ((if node then settingKeys x else []) ++ pathKeys (canPath x))

theorem mem_pathKeys_range {p : Path} {k : Nat} (h : k ∈ pathKeys p) : 0x200000 ≤ k ∧ k < 0x210000 := by
  rcases List.mem_cons.1 h with rfl | h
  · cases p <;> decide
  · rcases List.mem_cons.1 h with rfl | h
    · decide
    · have := mem_claimKeys_range h
      omega

theorem notin_resetRestKeys {x k : Nat} {node : Bool} (hk : 0x210000 ≤ k) (hs : node = true → k ∉ settingKeys x) : k ∉ resetRestKeys x node := by
  intro h
  simp only [resetRestKeys, List.mem_append] at h
  rcases h with h | h | h
  · have := mem_commKeys_lt h
    omega
  · cases node with
    | true => exact hs rfl h
    | false => simp at h
  · have := mem_pathKeys_range h
    omega

/-- The node-ID in use, the NMT state and the state of the bus are no settings. -/
theorem own_notin_resetRestKeys (x : Fin 2) (node : Bool) :
    keyOf .nodeIdNow x 0 ∉ resetRestKeys x node ∧ keyOf .nmtState x 0 ∉ resetRestKeys x node ∧ keyOf .busState x 0 ∉ resetRestKeys x node := by
  have hr : ∀ x : Fin 2, ∀ n ∈ [Name.nodeIdNow, .nmtState, .busState], 0x210000 ≤ keyOf n x 0 ∧ keyOf n x 0 ∉ settingKeys x := by decide
  have hn (n : Name) (h : n ∈ [Name.nodeIdNow, .nmtState, .busState]) : keyOf n x 0 ∉ resetRestKeys x node :=
    notin_resetRestKeys (hr x n h).1 fun _ => (hr x n h).2
  exact ⟨hn _ (by decide), hn _ (by decide), hn _ (by decide)⟩

theorem bootMessage_frame (x : Nat) (s : State) : Frame [] [.out] s ((bootMessage x).run s) := by
  rw [bootMessage, run_ask, run_when]
  split
  · exact Op.within_frame (o := .output _) s (by simp [Op.within, Op.touches])
  · exact Frame.refl _ _ _

theorem pathBoot_frame (x : Nat) (s : State) : Frame (pathKeys (canPath x)) reporting s ((pathBoot x).run s) := by
  have h := (bootMessage_frame x ((pathReset (canPath x)).run s)).mono (W' := pathKeys (canPath x)) (L' := reporting) (by simp) (by simp [reporting])
  rw [pathBoot, run_seq]
  exact (pathReset_frame _ s).trans h

theorem settingsIf_frame (x : Nat) (node : Bool) (s : State) :
    Frame (if node then settingKeys x else []) [] s ((when node (settingDefaults x)).run s) := by
  cases node with
  | true => exact settingDefaults_frame x s
  | false => exact Frame.refl _ _ _

/-- What follows the defaults of the PDOs. -/
theorem settingsBoot_frame (x : Nat) (node : Bool) (s : State) :
    Frame ((if node then settingKeys x else []) ++ pathKeys (canPath x)) reporting s ((pathBoot x).run ((when node (settingDefaults x)).run s)) :=
  ((settingsIf_frame x node s).mono (fun _ h => List.mem_append_left _ h) (by simp)).trans
    ((pathBoot_frame x _).mono (fun _ h => List.mem_append_right _ h) fun _ h => h)

theorem resetRest_frame (x : Nat) (node : Bool) (s : State) : Frame (resetRestKeys x node) (.pdos :: reporting) s ((resetRest x node).run s) := by
  have h1 := (commDefaults_frame x s).mono (W' := resetRestKeys x node) (L' := .pdos :: reporting) (fun _ h => List.mem_append_left _ h) (by simp)
  have h2 := (settingsBoot_frame x node ((commDefaults x).run s)).mono (W' := resetRestKeys x node) (L' := .pdos :: reporting)
    (fun _ h => List.mem_append_right _ h) fun _ h => .tail _ h
  rw [resetRest, run_seq, run_seq]
  exact h1.trans h2

/-! ### What a controller does while it is in INITIALISING -/

theorem setGrant_leavesInit (x : Nat) (p : Path) (on : Bool) : (setGrant p on).All (Op.leavesInit x) := by
  intro s
  rw [all_when]
  refine fun _ => ⟨?_, emitBy_all (by decide) (fun _ _ => trivial) trivial _ _ _ _ _⟩
  show keyOf .levelGranted 0 0 ≠ keyOf .nmtState x 0
  simp only [keyOf, indexOf, subOf, rowOf]
  omega

theorem releaseStep_leavesInit (x : Nat) (s : State) (p : Path) {k : Nat} (hk : k < 56) : (releaseStep s p k).All (Op.leavesInit x) := by
  rw [releaseStep, all_when]
  refine fun _ => ⟨?_, fun _ => ?_, trivial, emitBy_all (by decide) (fun _ _ => trivial) trivial _ _ _ _ _, trivial⟩
  · show keyOf .claim 0 k ≠ keyOf .nmtState x 0
    simp only [keyOf, indexOf, subOf, rowOf]
    omega
  · show keyOf .epoch 0 k ≠ keyOf .nmtState x 0
    simp only [keyOf, indexOf, subOf, rowOf]
    omega

theorem pathReset_leavesInit (x : Nat) (p : Path) : (pathReset p).All (Op.leavesInit x) := by
  simp only [pathReset, all_ask, all_all, List.forall_mem_cons, List.not_mem_nil, false_imp_iff, implies_true, and_true]
  refine fun s => ⟨setGrant_leavesInit x p false, ?_, ?_, emitBy_all (by decide) (fun _ _ => trivial) trivial _ _ _ _ _⟩
  · rw [all_each]
    exact fun k hk => releaseStep_leavesInit x s p (List.mem_range.1 hk)
  · show keyOf .lastHostSeq 0 p.num ≠ keyOf .nmtState x 0
    cases p <;> simp only [keyOf, indexOf, subOf, rowOf, Path.num] <;> omega

theorem settingDefaults_leavesInit (x : Nat) : (settingDefaults x).All (Op.leavesInit x) := by
  have h0 : ∀ n ∈ settingNames, keyOf n 0 0 ≠ keyOf .nmtState 0 0 := by decide
  have hx : keyOf .nmtState x 0 = keyOf .nmtState 0 0 + 4096 * x := by simp only [keyOf, indexOf, subOf, rowOf]; omega
  rw [settingDefaults, all_each]
  intro n hn
  have := h0 n hn
  show keyOf n x 0 ≠ keyOf .nmtState x 0
  rw [keyOf_setting hn, hx]
  omega

theorem pdoDefaults_leavesInit (x y j : Nat) (hj : j < 12) : (pdoDefaults y j).All (Op.leavesInit x) :=
  pdoDefaults_all y j (fun n hn i hi v => by
    have hlow := (pdoKeys_index hj (keyOf_mem_pdoKeys hn hi j)).2
    have hhigh : 0x200000 ≤ keyOf .nmtState x 0 := by simp only [keyOf, indexOf, subOf, rowOf]; omega
    exact (hlow.trans_le hhigh).ne) fun _ => trivial

/-- Until MODE is shown again the controller stays in INITIALISING, with its record. -/
theorem resetRest_keepsInit (x : Nat) (node : Bool) (s : State) :
    s.KeepsInit x ((pathReset (canPath x)).run ((when node (settingDefaults x)).run ((commDefaults x).run s))) := by
  have h1 : s.KeepsInit x ((commDefaults x).run s) := by
    rw [commDefaults_run]
    exact Prog.run_keepsInit ((all_each _ _ _).2 fun j hj => pdoDefaults_leavesInit x x j (pdosOf_lt hj)) s
  exact (h1.trans (Prog.run_keepsInit ((all_when _ _ _).2 fun _ => settingDefaults_leavesInit x) _)).trans
    (Prog.run_keepsInit (pathReset_leavesInit x _) _)

end Sys2Proof.Machine
end

section
/-! SUPPORT. What a Reset Communication or a Reset Node leaves in each part of the state. -/
namespace Sys2Proof.Machine

open Prog

/-! ### Taking up the node-ID -/

theorem takeUpNode_frame (x : Nat) (s : State) : Frame [keyOf .nodeIdNow x 0, keyOf .nmtState x 0] [.ctrls] s ((takeUpNode x).run s) := by
  refine Prog.run_frame (p := takeUpNode x) ?_ s
  simp [takeUpNode, modCtrl, wr, Op.within, Op.touches]

theorem takeUpNode_nodeIdNow (x : Fin 2) (s : State) : ((takeUpNode x).run s).rd .nodeIdNow x = s.rd .nodeId x := by
  have hk : ∀ x : Fin 2, keyOf .nmtState x 0 ≠ keyOf .nodeId x 0 := by decide
  have h : ((takeUpNode x).run s).rd .nodeIdNow x = ((Op.put .nmtState x 0 0).apply s).rd .nodeId x := State.rd_put ..
  rw [h, State.rd_put_other _ _ (hk x)]

theorem takeUpNode_nmtState (x : Fin 2) (s : State) : ((takeUpNode x).run s).rdN .nmtState x = 0 := by
  have hk : ∀ x : Fin 2, keyOf .nodeIdNow x 0 ≠ keyOf .nmtState x 0 := by decide
  have h : ((takeUpNode x).run s).rd .nmtState x = ((Op.put .nodeIdNow x 0 (((Op.put .nmtState x 0 0).apply s).rd .nodeId x)).apply
    ((Op.put .nmtState x 0 0).apply s)).rd .nmtState x := rfl
  rw [State.rdN, h, State.rd_put_other _ _ (hk x), State.rd_put]
  rfl

theorem takeUpNode_ctrl (x : Fin 2) {s : State} (hr : (s.ctrl x).resume = false) : ((takeUpNode x).run s).ctrl x = { active := s.timingOf x } := by
  have hk : ∀ x : Fin 2, ∀ n ∈ settingNames, keyOf .nmtState x 0 ≠ keyOf n x 0 := by decide
  have ht : ((Op.put .nmtState x 0 0).apply s).timingOf x = s.timingOf x := by
    have hrd (n : Name) (hn : n ∈ settingNames) : ((Op.put .nmtState x 0 0).apply s).rd n x = s.rd n x := State.rd_put_other _ _ (hk x n hn)
    simp only [State.timingOf, hrd .bitrate (by decide), hrd .dataRate (by decide), hrd .timingNom (by decide), hrd .timingData (by decide),
      hrd .timingSrc (by decide)]
  have h : ((takeUpNode x).run s).ctrl x =
      { resume := (s.ctrl x).resume, active := ((Op.put .nmtState x 0 0).apply s).timingOf x } := Store.get_put_same ..
  rw [h, hr, ht]

theorem showMode_frame (x : Nat) (s : State) : Frame [keyOf .nmtState x 0] [] s ((showMode x).run s) := by
  rw [showMode, run_ask, run_when]
  split
  · exact Op.within_frame (o := .put ..) s (.head _)
  · exact Frame.refl _ _ _

/-! ### The parts of the rest -/

theorem resetRest_run (x : Nat) (node : Bool) (s : State) :
    (resetRest x node).run s = (pathBoot x).run ((when node (settingDefaults x)).run ((commDefaults x).run s)) := by
  rw [resetRest, run_seq, run_seq]

theorem resetRest_pdoEntry {x j : Nat} (hj : j ∈ pdosOf x) {n : Name} (hn : n ∈ pdoPlain) (node : Bool) (s : State) :
    ((resetRest x node).run s).rd n j = dfltOf n j 0 := by
  have hlow := (pdoKeys_index (pdosOf_lt hj) (keyOf_mem_pdoKeys (by revert n; decide : n ∈ pdoNames) (by decide : 0 < 64) j)).2
  rw [resetRest_run, (settingsBoot_frame x node _).1 n j 0 fun h => ?_, commDefaults_rd hj hn]
  rcases List.mem_append.1 h with h | h
  · cases node with
    | true => have := settingKeys_ge h; omega
    | false => simp at h
  · have := mem_pathKeys_range h
    omega

theorem resetRest_pdo {x j k : Nat} (hj : j ∈ pdosOf x) (hk : k = j ∨ k = 12 + j) (node : Bool) (s : State) :
    ((resetRest x node).run s).pdo k = {} := by
  have h := (settingsBoot_frame x node ((commDefaults x).run s)).2 .pdos (by decide)
  rw [Part.same, ← resetRest_run] at h
  rw [State.pdo, h]
  exact commDefaults_pdo hj hk s

theorem resetRest_setting {n : Name} (hn : n ∈ settingNames) (x : Nat) (node : Bool) (s : State) :
    ((resetRest x node).run s).rd n x = if node then dfltOf n x 0 else s.rd n x := by
  have hge := settingKeys_ge (List.mem_map_of_mem (f := fun n => keyOf n x 0) hn)
  have hp : keyOf n x 0 ∉ pathKeys (canPath x) := fun h => by have := mem_pathKeys_range h; omega
  have hc : keyOf n x 0 ∉ commKeys x := fun h => by have := mem_commKeys_lt h; omega
  rw [resetRest_run, (pathBoot_frame x _).1 _ _ _ hp]
  cases node with
  | true => exact settingDefaults_rd hn x _
  | false => exact (commDefaults_frame x s).1 _ _ _ hc

theorem canPath_ne_p6 (x : Nat) : canPath x ≠ .p6 := by
  unfold canPath
  split <;> decide

/-- The entries of claims are as they were before the path is reset. -/
theorem beforePath_claim (x : Nat) (node : Bool) {u : Nat} (hu : u < 56) (s : State) :
    ((when node (settingDefaults x)).run ((commDefaults x).run s)).holderOf (u + 1) = s.holderOf (u + 1) := by
  have hk : 0x200101 ≤ keyOf .claim 0 u ∧ keyOf .claim 0 u < 0x200200 := by simp only [keyOf, indexOf, subOf, rowOf]; omega
  have hs : keyOf .claim 0 u ∉ (if node then settingKeys x else []) := by
    cases node with
    | true => exact fun h => by have := settingKeys_ge h; omega
    | false => simp
  have hc : keyOf .claim 0 u ∉ commKeys x := fun h => by have := mem_commKeys_lt h; omega
  exact congrArg BitVec.toNat (((settingsIf_frame x node _).1 _ _ _ hs).trans ((commDefaults_frame x s).1 _ _ _ hc))

theorem resetRest_lastHostSeq (x : Nat) (node : Bool) (s : State) :
    ((resetRest x node).run s).rd .lastHostSeq 0 (canPath x).num = 0xFFFF := by
  rw [resetRest_run, pathBoot, run_seq, (bootMessage_frame x _).1 _ _ _ (by simp)]
  exact pathReset_lastHostSeq _ _

theorem resetRest_granted (x : Nat) (node : Bool) (s : State) : ((resetRest x node).run s).granted (canPath x) = false := by
  rw [resetRest_run, pathBoot, run_seq, State.granted, State.rdN, (bootMessage_frame x _).1 _ _ _ (by simp)]
  exact pathReset_granted (canPath_ne_p6 x) _

theorem resetRest_holderOf (x : Nat) (node : Bool) {u : Nat} (hu : u < 56) (s : State) :
    ((resetRest x node).run s).holderOf (u + 1) = if s.holderOf (u + 1) = (canPath x).num then 0xFF else s.holderOf (u + 1) := by
  rw [resetRest_run, pathBoot, run_seq, State.holderOf, State.rdN, (bootMessage_frame x _).1 _ _ _ (by simp)]
  refine (pathReset_holderOf (canPath x) hu _).trans ?_
  rw [beforePath_claim x node hu]

/-- A controller with a node-ID on a bus that it takes part in sends its boot-up message. -/
theorem resetRest_boots (x : Fin 2) (node : Bool) {s : State} (hn : s.rdN .nmtState x = 0) (hf : s.fenced islNet = false)
    (hb : s.rdN .busState x ≠ 2) (hr : (s.ctrl x).resume = false) (hi : s.rdN .nodeIdNow x ≠ 255) :
    .can x (0x700 + s.rdN .nodeIdNow x) [0] ∈ ((resetRest x node).run s).out := by
  obtain ⟨hkid, -, hkbus⟩ := own_notin_resetRestKeys x node
  have hctrl := (resetRest_keepsInit x node s hn).2
  have hframe := resetRest_frame x node s
  rw [resetRest_run, pathBoot, run_seq] at hframe ⊢
  generalize (pathReset (canPath x)).run ((when node (settingDefaults x)).run ((commDefaults x).run s)) = e at *
  have hboot := bootMessage_frame x e
  have hid : e.rdN .nodeIdNow x = s.rdN .nodeIdNow x :=
    congrArg BitVec.toNat ((hboot.1 _ _ _ (by simp)).symm.trans (hframe.1 _ _ _ hkid))
  have hbus : e.rdN .busState x = s.rdN .busState x :=
    congrArg BitVec.toNat ((hboot.1 _ _ _ (by simp)).symm.trans (hframe.1 _ _ _ hkbus))
  have hisl : e.islands = s.islands := (hboot.2 .islands (by decide)).symm.trans (hframe.2 .islands (by decide))
  have hup : e.canUp x = true := by
    have hfe : e.fenced islNet = false := (congrArg (fun m => decide ((Store.get ({} : Island) m islNet).st ≠ .running)) hisl).trans hf
    simp [State.canUp, hfe, hid, hi, hbus, hb, hctrl, hr]
  rw [bootMessage, run_ask, hup, when_true, hid]
  exact List.mem_cons_self

end Sys2Proof.Machine
end

section
/-! SUPPORT. Reset Communication and Reset Node as a whole, and the write of a node-ID. -/
namespace Sys2Proof.Machine

open Prog

/-- The entries that a reset of a controller changes. -/
def resetKeys (x : Nat) (node : Bool) : List Nat :=
  [keyOf .nodeIdNow x 0, keyOf .nmtState x 0, keyOf .lastHostSeq 0 (canPath x).num, keyOf .levelGranted 0 0] ++ claimKeys
    ++ (if node then settingKeys x else []) ++ commKeys x

theorem Frame.pdo {W : List Nat} {L : List Part} {s t : State} (h : Frame W L s t) (hL : .pdos ∉ L) (k : Nat) : t.pdo k = s.pdo k :=
  congrArg (fun m => Store.get ({} : Pdo) m k) (h.2 .pdos hL)

theorem Frame.ctrl {W : List Nat} {L : List Part} {s t : State} (h : Frame W L s t) (hL : .ctrls ∉ L) (k : Nat) : t.ctrl k = s.ctrl k :=
  congrArg (fun m => Store.get ({} : Ctrl) m k) (h.2 .ctrls hL)

theorem resetComm_frame (x : Nat) (node : Bool) (s : State) : Frame (resetKeys x node) (.pdos :: reporting) s ((resetComm x node).run s) := by
  have h1 := (takeUpNode_frame x s).mono (W' := resetKeys x node) (L' := .pdos :: reporting) (by simp [resetKeys]) (by simp [reporting])
  have h2 := (resetRest_frame x node ((takeUpNode x).run s)).mono (W' := resetKeys x node) (fun k hk => by
    simp only [resetRestKeys, pathKeys, List.mem_append, List.mem_cons] at hk
    rcases hk with hk | hk | hk | hk | hk
    all_goals simp only [resetKeys, List.mem_append, List.mem_cons, hk, true_or, or_true]) fun _ h => h
  have h3 := (showMode_frame x ((resetRest x node).run ((takeUpNode x).run s))).mono (W' := resetKeys x node) (L' := .pdos :: reporting)
    (by simp [resetKeys]) (by simp)
  rw [resetComm_run]
  exact (h1.trans h2).trans h3

/-- Of the entries, the last stage of a reset changes the NMT state alone. -/
theorem resetComm_rd {x : Nat} {n : Name} {j i : Nat} (h : keyOf n j i ≠ keyOf .nmtState x 0) (node : Bool) (s : State) :
    ((resetComm x node).run s).rd n j i = ((resetRest x node).run ((takeUpNode x).run s)).rd n j i := by
  rw [resetComm_run, (showMode_frame x _).1 _ _ _ (by simpa using h)]

theorem resetRest_nodeIdNow (x : Fin 2) (node : Bool) (s : State) :
    ((resetRest x node).run ((takeUpNode x).run s)).rd .nodeIdNow x = s.rd .nodeId x := by
  rw [(resetRest_frame x node _).1 _ _ _ (own_notin_resetRestKeys x node).1, takeUpNode_nodeIdNow]

/-- The node-ID in use is the one that NODE_ID had. -/
theorem resetComm_nodeIdNow (x : Fin 2) (node : Bool) (s : State) : ((resetComm x node).run s).rd .nodeIdNow x = s.rd .nodeId x := by
  have hk : ∀ x : Fin 2, keyOf .nodeIdNow x 0 ≠ keyOf .nmtState x 0 := by decide
  rw [resetComm_rd (hk x), resetRest_nodeIdNow]

/-- With a node-ID the NMT state shows MODE, and without one it is INITIALISING. -/
theorem resetComm_nmtState (x : Fin 2) (node : Bool) (s : State) :
    ((resetComm x node).run s).rdN .nmtState x = if s.rdN .nodeId x = 255 then 0 else nmtOfMode s.modes.mode := by
  have hid : ((resetRest x node).run ((takeUpNode x).run s)).rdN .nodeIdNow x = s.rdN .nodeId x :=
    congrArg BitVec.toNat (resetRest_nodeIdNow x node s)
  have hmodes : ((resetRest x node).run ((takeUpNode x).run s)).modes = s.modes :=
    Eq.trans ((resetRest_frame x node _).2 .modes (by decide)) ((takeUpNode_frame x s).2 .modes (by decide))
  have hnmt : ((resetRest x node).run ((takeUpNode x).run s)).rdN .nmtState x = 0 :=
    (congrArg BitVec.toNat ((resetRest_frame x node _).1 _ _ _ (own_notin_resetRestKeys x node).2.1)).trans (takeUpNode_nmtState x s)
  have hsmall : (u32 (nmtOfMode s.modes.mode)).toNat = nmtOfMode s.modes.mode := by cases s.modes.mode <;> rfl
  rw [resetComm_run]
  generalize (resetRest x node).run ((takeUpNode x).run s) = u at *
  rw [showMode, run_ask, hid, hmodes, run_when]
  by_cases h : s.rdN .nodeId x = 255
  · rw [if_neg (by simpa using h), if_pos h]
    exact hnmt
  · rw [if_pos (by simpa using h), if_neg h, State.rdN, run_wrN, State.rd_put, hsmall]

/-- The controller holds its timing alone. -/
theorem resetComm_ctrl (x : Fin 2) (node : Bool) {s : State} (hr : (s.ctrl x).resume = false) :
    ((resetComm x node).run s).ctrl x = { active := s.timingOf x } := by
  rw [resetComm_run, (showMode_frame x _).ctrl (by decide), resetRest_run, pathBoot, run_seq, (bootMessage_frame x _).ctrl (by decide), (resetRest_keepsInit x node _ (takeUpNode_nmtState x s)).2,
    takeUpNode_ctrl x hr]

theorem resetComm_pdoEntry {x : Fin 2} {j : Nat} (hj : j ∈ pdosOf x) {n : Name} (hn : n ∈ pdoPlain) (node : Bool) (s : State) :
    ((resetComm x node).run s).rd n j = dfltOf n j 0 := by
  have hlow := (pdoKeys_index (pdosOf_lt hj) (keyOf_mem_pdoKeys (by revert n; decide : n ∈ pdoNames) (by decide : 0 < 64) j)).2
  have hhigh : 0x200000 ≤ keyOf .nmtState x 0 := by simp only [keyOf, indexOf, subOf, rowOf]; omega
  rw [resetComm_rd (hlow.trans_le hhigh).ne, resetRest_pdoEntry hj hn]

theorem resetComm_pdo {x : Fin 2} {j k : Nat} (hj : j ∈ pdosOf x) (hk : k = j ∨ k = 12 + j) (node : Bool) (s : State) :
    ((resetComm x node).run s).pdo k = {} := by
  rw [resetComm_run, (showMode_frame x _).pdo (by decide), resetRest_pdo hj hk]

theorem resetComm_setting (x : Fin 2) (node : Bool) {n : Name} (hn : n ∈ settingNames) (s : State) :
    ((resetComm x node).run s).rd n x = if node then dfltOf n x 0 else s.rd n x := by
  have hk : ∀ x : Fin 2, ∀ n ∈ settingNames, keyOf n x 0 ≠ keyOf .nmtState x 0 ∧ keyOf n x 0 ∉ [keyOf .nodeIdNow x 0, keyOf .nmtState x 0] := by
    decide
  rw [resetComm_rd (hk x n hn).1, resetRest_setting hn, (takeUpNode_frame x s).1 _ _ _ (hk x n hn).2]

/-- The grant, the claims and the host sequence of the controller's path are cleared. -/
theorem resetComm_path (x : Fin 2) (node : Bool) (s : State) :
    ((resetComm x node).run s).rdN .lastHostSeq 0 (canPath x).num = 0xFFFF ∧ ((resetComm x node).run s).granted (canPath x) = false
      ∧ ∀ u : Fin 56, ((resetComm x node).run s).holderOf (u + 1) = if s.holderOf (u + 1) = (canPath x).num then 0xFF else s.holderOf (u + 1) := by
  have hseq : keyOf .lastHostSeq 0 (canPath x).num ≠ keyOf .nmtState x 0 := by
    revert x; decide
  have hgrant : keyOf .levelGranted 0 0 ≠ keyOf .nmtState x 0 := by revert x; decide
  refine ⟨?_, ?_, fun u => ?_⟩
  · rw [State.rdN, resetComm_rd hseq, resetRest_lastHostSeq]
    rfl
  · rw [State.granted, State.rdN, resetComm_rd hgrant]
    exact resetRest_granted x node _
  · have hclaim : keyOf .claim 0 u ≠ keyOf .nmtState x 0 := by simp only [keyOf, indexOf, subOf, rowOf]; omega
    have hown : keyOf .claim 0 u ∉ [keyOf .nodeIdNow x 0, keyOf .nmtState x 0] := by
      simp only [keyOf, indexOf, subOf, rowOf, List.mem_cons, List.not_mem_nil, or_false]
      omega
    have hs : ((takeUpNode x).run s).holderOf (u + 1) = s.holderOf (u + 1) := congrArg BitVec.toNat ((takeUpNode_frame x s).1 _ _ _ hown)
    have hrest := resetRest_holderOf x node u.isLt ((takeUpNode x).run s)
    rw [hs, State.holderOf, State.rdN, Nat.add_sub_cancel] at hrest
    rw [State.holderOf, State.rdN, Nat.add_sub_cancel, resetComm_rd hclaim, hrest]

/-- A controller that has a node-ID and takes part in its bus sends its boot-up message. -/
theorem resetComm_boots (x : Fin 2) (node : Bool) {s : State} (ho : s.canOn x = true) (hi : s.rdN .nodeId x ≠ 255) :
    .can x (0x700 + s.rdN .nodeId x) [0] ∈ ((resetComm x node).run s).out := by
  obtain ⟨⟨hf, hb⟩, hr⟩ : (s.fenced islNet = false ∧ s.rdN .busState x ≠ 2) ∧ (s.ctrl x).resume = false := by simpa [State.canOn] using ho
  have hbus : ∀ x : Fin 2, keyOf .busState x 0 ∉ [keyOf .nodeIdNow x 0, keyOf .nmtState x 0] := by decide
  have hframe := takeUpNode_frame x s
  have hb' : ((takeUpNode x).run s).rdN .busState x ≠ 2 := by rw [State.rdN, hframe.1 _ _ _ (hbus x)]; exact hb
  have hf' : ((takeUpNode x).run s).fenced islNet = false := by rw [State.fenced, State.island, hframe.2 .islands (by decide)]; exact hf
  have hid : ((takeUpNode x).run s).rdN .nodeIdNow x = s.rdN .nodeId x := congrArg BitVec.toNat (takeUpNode_nodeIdNow x s)
  have h := resetRest_boots x node (takeUpNode_nmtState x s) hf' hb' (by rw [takeUpNode_ctrl x hr]) (by rwa [hid])
  rw [resetComm_run, (showMode_frame x _).2 .out (by decide), ← hid]
  exact h

/-! ### The write of a node-ID -/

/-- Beside its value a NODE_ID write has the effect of R741 alone. -/
theorem writeEffect_nodeId (p : Path) (x : Nat) (w old : U32) (s : State) :
    (writeEffect p { name := .nodeId, inst := x } w old).run s = (nodeIdWritten p x).run s := rfl

theorem applyWrite_nodeId (p : Path) (x : Nat) (w : U32) (s : State) :
    (applyWrite { path := p, ents := [({ name := .nodeId, inst := x }, w)] }).run s =
      (nodeIdWritten p x).run ((commit { path := p } .nodeId x 0 w).run s) := by
  have ht : (takeValue { path := p } { name := .nodeId, inst := x } w).run s = (commit { path := p } .nodeId x 0 w).run s := by
    simp [takeValue, accessOf, Ent.row, rowOf]
  rw [applyWrite_plain p _ w s rfl (by simp), writeEffect_nodeId]
  exact congrArg (nodeIdWritten p x).run ht

/-- NODE_ID and BITRATE belong to no unit, and no calibration rests on them. -/
theorem netEntry_plain (x : Fin 2) : ∀ n ∈ [Name.nodeId, .bitrate],
    ({ name := n, inst := x } : Ent).unit = none ∧ calEntry ({ name := n, inst := x } : Ent).index = false ∧ entMask n = 0xFFFFFFFF := by
  revert x; decide

/-- An accepted write of NODE_ID or BITRATE gives it the value and changes nothing else but the reports. -/
theorem commit_netEntry {n : Name} (hn : n ∈ [Name.nodeId, .bitrate]) (c : Ctx) (x : Fin 2) (w : U32) (s : State) :
    ((commit c n x 0 w).run s).rd n x = w ∧ Frame [keyOf n x 0] reporting s ((commit c n x 0 w).run s) := by
  obtain ⟨hu, hc, hm⟩ := netEntry_plain x n hn
  have h := commit_frame_plain hu hc c w s
  refine ⟨?_, (Op.within_frame (o := .put ..) s (.head _)).trans (h.mono (by simp) fun _ h => h)⟩
  rw [h.1 _ _ _ (by simp), State.rd_put, masked_full hm]

/-- The write of a node-ID applies at once to an unconfigured controller from another path, and waits otherwise (R740, R741). -/
theorem nodeIdWrite_effect (p : Path) (x : Fin 2) (w : U32) (s : State) :
    let t := (applyWrite { path := p, ents := [({ name := .nodeId, inst := x }, w)] }).run s
    t.rd .nodeId x = w ∧ t.cmds = s.cmds
      ∧ (s.rdN .nodeIdNow x = 255 → p ≠ canPath x →
        t.rd .nodeIdNow x = w ∧ t.rdN .nmtState x = if w.toNat = 255 then 0 else nmtOfMode s.modes.mode)
      ∧ (s.rdN .nodeIdNow x ≠ 255 ∨ p = canPath x → Frame [keyOf .nodeId x 0] reporting s t) := by
  have hk : ∀ x : Fin 2, keyOf .nodeIdNow x 0 ∉ [keyOf .nodeId x 0] := by decide
  obtain ⟨hval, hframe⟩ := commit_netEntry (n := .nodeId) (by decide) { path := p } x w s
  have hnow : ((commit { path := p } .nodeId x 0 w).run s).rdN .nodeIdNow x = s.rdN .nodeIdNow x :=
    congrArg BitVec.toNat (hframe.1 _ _ _ (hk x))
  have hmodes : ((commit { path := p } .nodeId x 0 w).run s).modes = s.modes := hframe.2 .modes (by decide)
  have hcmds : ((commit { path := p } .nodeId x 0 w).run s).cmds = s.cmds := hframe.2 .cmds (by decide)
  simp only [applyWrite_nodeId]
  generalize (commit { path := p } .nodeId x 0 w).run s = u at *
  rw [nodeIdWritten, run_ask, hnow]
  by_cases h : s.rdN .nodeIdNow x = 255 ∧ p ≠ canPath x
  · have hreset : (when (decide (s.rdN .nodeIdNow x = 255) && decide (p ≠ canPath x)) (resetComm x false)).run u = (resetComm x false).run u := by
      simp [h]
    have hset : ((resetComm x false).run u).rd .nodeId x = u.rd .nodeId x := resetComm_setting x false (n := .nodeId) (by decide) u
    have hrest : ((resetComm x false).run u).cmds = u.cmds := (resetComm_frame x false u).2 .cmds (by decide)
    have hnmt := resetComm_nmtState x false u
    rw [State.rdN_eq hval, hmodes] at hnmt
    rw [hreset]
    exact ⟨hset.trans hval, hrest.trans hcmds, fun _ _ => ⟨(resetComm_nodeIdNow x false u).trans hval, hnmt⟩, fun hn => hn.elim (absurd h.1) fun e => absurd e h.2⟩
  · have hnop : (when (decide (s.rdN .nodeIdNow x = 255) && decide (p ≠ canPath x)) (resetComm x false)).run u = u := by
      rw [run_when, if_neg (by simpa using h)]
    rw [hnop]
    exact ⟨hval, hcmds, fun h1 h2 => absurd ⟨h1, h2⟩ h, fun _ => hframe⟩

end Sys2Proof.Machine
end

section
/-! SUPPORT. NMT state commands as mode requests, and the LSS services. -/
namespace Sys2Proof.Machine

open Prog

/-! ### NMT state commands -/

section
variable {x node : Nat} {m : Mode} {s : State}

/-- A request of a controller that does not get through is refused and reported as overruled (R717). -/
def overrule (p by' : Path) (x : Nat) (st : Status) : Prog :=
  .seq (refuse p st 0x2000 1) (emitBy by' .nmtOverruled 0 islNet (pack [(8, x), (8, st.code)]))

/-- An NMT state command that a controller accepts is a mode request of its path, or overruled while HOST is fenced. -/
theorem nmtCommand_run_accepted (hl : s.live = true) (ho : s.canOn x = true) (ha : s.addressed x node = true) (hi : s.rdN .nodeIdNow x ≠ 255)
    (hc : s.rdB .nmtAccept x = true) : (nmtCommand x node m).run s =
      (if s.fenced islHost then overrule (canPath x) .p6 x .unitAbsent
        else settled (modeRequest { path := canPath x, mode := m, origin := .nmt x })).run s := by
  have hb : (s.canOn x && s.addressed x node && decide (s.rdN .nodeIdNow x ≠ 0xFF) && s.rdB .nmtAccept x) = true := by
    rw [ho, ha, hc, decide_eq_true hi]; rfl
  rw [nmtCommand, Prog.live, run_ask, hl, when_true, run_ask, hb, when_true]
  rfl

/-- A controller that is not addressed, has no node-ID or does not accept NMT commands ignores them. -/
theorem nmtCommand_run_ignored (h : s.addressed x node = false ∨ s.rdN .nodeIdNow x = 255 ∨ s.rdB .nmtAccept x = false) :
    (nmtCommand x node m).run s = s := by
  have hb : (s.canOn x && s.addressed x node && decide (s.rdN .nodeIdNow x ≠ 0xFF) && s.rdB .nmtAccept x) = false := by
    rcases h with h | h | h <;> simp [h]
  rw [nmtCommand, Prog.live, run_ask, run_when]
  split
  · rw [run_ask, hb, when_false, run_nop]
  · rfl
end

theorem completeMode_run_nmt {s : State} {q : ModeReq} {x : Nat} {st : Status} (hf : s.fenced islHost = false) (ho : q.origin = .nmt x)
    (hst : st ≠ .ok) : (completeMode q st).run s = (overrule q.path q.path x st).run s := by
  simp [completeMode, overrule, hf, ho, hst]

/-- On a controller's path a refusal changes LAST_STATUS alone. -/
theorem refuse_canPath_frame (x : Nat) (st : Status) (i j : Nat) (s : State) :
    Frame [keyOf .lastStatus 0 (canPath x).num] [] s ((refuse (canPath x) st i j).run s) := by
  have hp : portRefusal (canPath x) = .nop := by
    unfold canPath
    split <;> rfl
  rw [refuse, run_seq, hp, run_nop]
  exact Op.within_frame (o := .put ..) s (.head _)

theorem overrule_frame (x : Nat) (p : Path) (st : Status) (s : State) :
    Frame [keyOf .lastStatus 0 (canPath x).num] reporting s ((overrule (canPath x) p x st).run s) :=
  ((refuse_canPath_frame x st _ _ s).mono (fun _ h => h) (by simp)).trans
    ((emitBy_frame p (by decide) (by decide) 0 islNet _ _ _).mono (by simp) fun _ h => h)

theorem overrule_lastStatus (x : Nat) (p : Path) (st : Status) (s : State) :
    ((overrule (canPath x) p x st).run s).rd .lastStatus 0 (canPath x).num = u32 (st.code * 0x1000000 + 0x200001) := by
  rw [overrule, run_seq, (emitBy_frame p (by decide) (by decide) 0 islNet _ _ _).1 _ _ _ (by simp), refuse_rd_lastStatus]

theorem overrule_newest (x : Nat) (p : Path) (st : Status) {s : State} (hf : s.fenced islHost = false) :
    ((overrule (canPath x) p x st).run s).newest = some (Event.nmtOverruled, 0, pack [(8, x), (8, st.code)]) := by
  have hr : ((refuse (canPath x) st 0x2000 1).run s).islands = s.islands := (refuse_canPath_frame x st _ _ s).2 .islands (by decide)
  refine emitBy_newest p _ _ _ _ _ ?_
  rw [State.fenced, State.island, hr]
  exact hf

/-- While HOST is fenced an event still counts, and waits. -/
theorem emitBy_eventCount (p : Path) {ev : Event} (hs : ev.severity ≠ .halt) (unit isl : Nat) (p1 p2 : U32) {s : State}
    (hf : s.fenced islHost = true) : ((emitBy p ev unit isl p1 p2).run s).rep.eventCount = min (s.rep.eventCount + 1) 4294967295 := by
  simp only [emitBy, run_ask, all_cons, all_nil, run_seq, run_nop, run_op, hs, decide_false, when_false]
  simp only [Op.apply, State.report, hf, if_true, State.queued, State.counted, Option.isSome_some]
  split <;> rfl

theorem overrule_eventCount (x : Nat) (p : Path) (st : Status) {s : State} (hf : s.fenced islHost = true) :
    ((overrule (canPath x) p x st).run s).rep.eventCount = min (s.rep.eventCount + 1) 4294967295 := by
  have hfr := refuse_canPath_frame x st 0x2000 1 s
  have hr : ((refuse (canPath x) st 0x2000 1).run s).islands = s.islands := hfr.2 .islands (by decide)
  have hrep : ((refuse (canPath x) st 0x2000 1).run s).rep = s.rep := hfr.2 .rep (by decide)
  rw [overrule, run_seq, emitBy_eventCount p (by decide) _ _ _ _ (by rw [State.fenced, State.island, hr]; exact hf), hrep]

/-! ### LSS -/

/-- An LSS answer is the newest output. -/
def LssSays (s t : State) (b : List Byte) : Prop := t.out = .can 0 0x7E4 ((b ++ List.replicate 8 0).take 8) :: s.out

theorem lssSend_frame (b : List Byte) (s : State) : Frame [] [.out] s ((lssSend b).run s) :=
  Op.within_frame (o := .output _) s (by simp [Op.within, Op.touches])

theorem lssSend_quiet (b : List Byte) (s : State) : Frame [] [.ctrls, .out] s ((lssSend b).run s) :=
  (lssSend_frame b s).mono (by simp) (by simp)

theorem modCtrl_frame (k : Nat) (f : Ctrl → Ctrl) (s : State) : Frame [] [.ctrls] s ((modCtrl k f).run s) :=
  Op.within_frame (o := .ctrl _ _) s (by simp [Op.within, Op.touches])

theorem modCtrl_ctrl (k : Nat) (f : Ctrl → Ctrl) (s : State) : ((modCtrl k f).run s).ctrl k = f (s.ctrl k) := Store.get_put_same ..

/-- A change of the controller and an answer. -/
theorem modCtrl_lssSend (f : Ctrl → Ctrl) (b : List Byte) (s : State) :
    let t := (lssSend b).run ((modCtrl 0 f).run s)
    t.ctrl 0 = f (s.ctrl 0) ∧ LssSays s t b ∧ Frame [] [.ctrls, .out] s t :=
  ⟨modCtrl_ctrl 0 f s, rfl, ((modCtrl_frame 0 f s).mono (by simp) (by simp)).trans (lssSend_quiet b _)⟩

section
variable {s : State} (hl : s.live = true) (ho : s.canOn 0 = true)
include hl ho

theorem inLss_run (p : Prog) : (inLss p).run s = p.run s := by simp [inLss, Prog.live, hl, ho]

theorem inLssConfig_run (hc : (s.ctrl 0).lssConfig = true) (p : Prog) : (inLssConfig p).run s = p.run s := by
  rw [inLssConfig, inLss_run hl ho, run_ask, hc, when_true]

theorem inLssConfig_run_waiting (hc : (s.ctrl 0).lssConfig = false) (p : Prog) : (inLssConfig p).run s = s := by
  rw [inLssConfig, inLss_run hl ho, run_ask, hc, when_false, run_nop]
end

/-- A configure service that takes its value writes it and answers without an error. -/
theorem lssWrite_takes {n : Name} (hn : n ∈ [Name.nodeId, .bitrate]) (v : Byte) {s : State} (h : netValue s n 0 (v.setWidth 32) = .ok) :
    ((lssWrite n v.toNat).run s).rd n 0 = v.setWidth 32 ∧ Frame [keyOf n 0 0] reporting s ((lssWrite n v.toNat).run s) := by
  have hv : u32 v.toNat = v.setWidth 32 := BitVec.ofNat_toNat 32 v
  have hrun : (lssWrite n v.toNat).run s =
      (lssSend (leBytes 1 (if n = .nodeId then 0x11 else 0x13))).run ((commit { path := .p3 } n 0 0 (v.setWidth 32)).run s) := by
    simp only [lssWrite, run_ask, hv, h, if_true, run_seq]
  obtain ⟨hval, hframe⟩ := commit_netEntry hn { path := .p3 } 0 (v.setWidth 32) s
  rw [hrun]
  exact ⟨hval, hframe.trans ((lssSend_frame _ _).mono (by simp) (by simp [reporting]))⟩

/-- A configure service that refuses its value answers with error 1 and notes RANGE in LAST_STATUS of P3. -/
theorem lssRefuse_notes (n : Name) (s : State) :
    LssSays s ((lssRefuse n).run s) (leBytes 1 (if n = .nodeId then 0x11 else 0x13) ++ [1])
      ∧ ((lssRefuse n).run s).rd .lastStatus 0 3 = u32 (Status.range.code * 0x1000000 + 0x2D00 * 0x100 + (if n = .nodeId then 1 else 3))
      ∧ Frame [keyOf .lastStatus 0 3] [.ctrls, .out] s ((lssRefuse n).run s) := by
  have hframe := refuse_canPath_frame 0 .range 0x2D00 (if n = .nodeId then 1 else 3) s
  have hout : ((refuse .p3 .range 0x2D00 (if n = .nodeId then 1 else 3)).run s).out = s.out := hframe.2 .out (by decide)
  refine ⟨?_, refuse_rd_lastStatus .p3 .range 0x2D00 _ s, (hframe.mono (fun _ h => h) (by simp)).trans ((lssSend_quiet _ _).mono (by simp) fun _ h => h)⟩
  exact congrArg (List.cons _) hout

theorem lssWrite_refuses (n : Name) (v : Byte) {s : State} (h : netValue s n 0 (v.setWidth 32) ≠ .ok) :
    (lssWrite n v.toNat).run s = (lssRefuse n).run s := by
  have hv : u32 v.toNat = v.setWidth 32 := BitVec.ofNat_toNat 32 v
  simp only [lssWrite, run_ask, hv, h, if_false]

end Sys2Proof.Machine
end

section
/-! SUPPORT. The rows of NMT, of the resets and of the NODE_ID write as the statement O54 gives them. -/
namespace Sys2Proof.Machine

open Prog

/-- A request that is overruled leaves the modes, MODE_REQ and the records of commands as they were. -/
theorem overrule_keeps (x : Nat) (p : Path) (st : Status) (s : State) :
    ((overrule (canPath x) p x st).run s).modes = s.modes ∧ ((overrule (canPath x) p x st).run s).rd .modeReq = s.rd .modeReq
      ∧ ((overrule (canPath x) p x st).run s).cmds = s.cmds := by
  have hk : keyOf .modeReq 0 0 ∉ [keyOf .lastStatus 0 (canPath x).num] := by
    unfold canPath
    split <;> decide
  have hframe := overrule_frame x p st s
  exact ⟨hframe.2 .modes (by decide), hframe.1 _ _ _ hk, hframe.2 .cmds (by decide)⟩

theorem NoHeld.of_cmds {s t : State} (h : NoHeld s) (hc : t.cmds = s.cmds) : NoHeld t := by
  have hk (k : Nat) : t.cmd k = s.cmd k := by rw [State.cmd, State.cmd, hc]
  simpa only [NoHeld, hk] using h

end Sys2Proof.Machine

namespace Sys2Proof.Proofs

open Sys2Proof.Machine Prog

/-! ### NMT state commands -/

section
variable {c : Instr} {x node : Nat} {m : Mode} {s : State} (hx : exec c s = .next ((nmtCommand x node m).run s))
include hx

/-- A controller that does not obey an NMT state command leaves everything as it was. -/
theorem nmtRow_ignored (h : s.addressed x node = false ∨ s.rdN .nodeIdNow x = 255 ∨ s.rdB .nmtAccept x = false) :
    Answers c s fun t => t = s :=
  ⟨_, hx, nmtCommand_run_ignored h⟩

variable (hl : s.live = true) (ho : s.canOn x = true) (ha : s.addressed x node = true) (hi : s.rdN .nodeIdNow x ≠ 255)
  (hc : s.rdB .nmtAccept x = true)
include hl ho ha hi hc

/-- While HOST is fenced an NMT state command is overruled (R717). -/
theorem nmtRow_fenced (hf : s.fenced islHost = true) : Answers c s fun t => t.modes = s.modes
    ∧ t.rd .lastStatus 0 (canPath x).num = u32 (Status.unitAbsent.code * 0x1000000 + 0x200001)
    ∧ t.rep.eventCount = min (s.rep.eventCount + 1) 4294967295 ∧ Frame [keyOf .lastStatus 0 (canPath x).num] reporting s t := by
  rw [nmtCommand_run_accepted hl ho ha hi hc, if_pos hf] at hx
  exact ⟨_, hx, (overrule_keeps ..).1, overrule_lastStatus .., overrule_eventCount _ _ _ hf, overrule_frame ..⟩

/-- A request for another mode than PARK waits, and a request for PARK is taken up at once. -/
theorem nmtRow_requests (hf : s.fenced islHost = false) (hn : NoHeld s) :
    let mine : ModeReq := { path := canPath x, mode := m, origin := .nmt x, since := s.time.toNat }
    Answers c s fun t => t.modes.mode = s.modes.mode ∧ t.modes.target = s.modes.target
      ∧ (m ≠ .park → t.rd .modeReq = s.rd .modeReq
        ∧ ((∀ old, s.modes.pendingReq = some old → outranks old mine = false) → t.modes.pendingReq = some mine)
        ∧ ((∃ old, s.modes.pendingReq = some old ∧ outranks old mine = true) → t.modes = s.modes
          ∧ t.rd .lastStatus 0 (canPath x).num = u32 (Status.modeSuperseded.code * 0x1000000 + 0x200001)
          ∧ t.newest = some (Event.nmtOverruled, 0, pack [(8, x), (8, Status.modeSuperseded.code)])))
      ∧ (m = .park → t.modes.pendingReq = none ∧ t.rd .modeReq = 3
        ∧ (¬ (s.modes.mode = .park ∧ s.modes.target = none) → t.modes.parkReq = s.modes.parkReq ++ [mine])) := by
  intro mine
  have hq : ({ path := canPath x, mode := m, origin := .nmt x } : ModeReq).reaches s = mine := rfl
  rw [nmtCommand_run_accepted hl ho ha hi hc, if_neg (by simp [hf])] at hx
  by_cases hm : m = .park
  · obtain ⟨⟨⟨h1, h2, h3, h4⟩, hn'⟩, hr⟩ := modeRequest_parks (q := { path := canPath x, mode := m, origin := .nmt x }) hn hm
    exact answers_settled hx hn' ⟨h1, h2, fun h => absurd hm h, fun _ => ⟨h3, hr, fun hp => h4.trans (if_neg hp)⟩⟩
  · by_cases hold : ∃ old, s.modes.pendingReq = some old ∧ outranks old mine = true
    · obtain ⟨old, hp, hout⟩ := id hold
      have hrun := modeRequest_run_outranked (q := { path := canPath x, mode := m, origin := .nmt x }) hm hp hout
      rw [hq, completeMode_run_nmt (x := x) hf rfl (by decide)] at hrun
      obtain ⟨hmodes, hreq, hcmds⟩ := overrule_keeps x (canPath x) .modeSuperseded s
      refine answers_settled hx (hrun ▸ hn.of_cmds hcmds) ?_
      rw [hrun]
      refine ⟨congrArg _ hmodes, congrArg _ hmodes, fun _ => ⟨hreq, fun h => ?_, fun _ => ⟨hmodes, overrule_lastStatus .., overrule_newest _ _ _ hf⟩⟩,
        fun h => absurd h hm⟩
      exact absurd (h old hp) (by simp [hout])
    · have hnone : ∀ old, s.modes.pendingReq = some old → outranks old mine = false := fun old hp =>
        Bool.eq_false_iff.mpr fun hout => hold ⟨old, hp, hout⟩
      obtain ⟨⟨⟨h1, h2, h3, -⟩, hn'⟩, hr, -⟩ := modeRequest_waits (q := { path := canPath x, mode := m, origin := .nmt x }) hn hm hnone
      exact answers_settled hx hn' ⟨h1, h2, fun _ => ⟨hr, fun _ => h3, fun h => absurd h hold⟩, fun h => absurd h hm⟩
end

/-! ### Resets -/

/-- Reset Node and Reset Communication of an addressed controller reset it. -/
theorem nmtReset_exec {x : Fin 2} {node : Fin 128} {s : State} (hl : s.live = true) (ho : s.canOn x = true) (ha : s.addressed x node = true)
    (full : Bool) : exec (if full then .nmtResetNode x node else .nmtResetCommunication x node) s = .next ((resetComm x full).run s) := by
  have hrun : (Prog.live (.ask fun s => when (s.canOn x && s.addressed x node) (resetComm x full))).run s = (resetComm x full).run s := by
    rw [Prog.live, run_ask, hl, when_true, run_ask, ho, ha, Bool.and_self, when_true]
  cases full <;> exact congrArg Host.Outcome.next hrun

/-! ### The NODE_ID write -/

/-- A NODE_ID write that is accepted takes its value, and applies at once where R741 says so. -/
theorem nodeIdWrite_answers (p : Path) (x : Fin 2) (v : BitVec 8) (s : State) (h : Takes s p { name := .nodeId, inst := x } (v.setWidth 32)) :
    Answers (.nodeIdWrite p x v) s fun t => t.rd .nodeId x = v.setWidth 32
      ∧ (s.rdN .nodeIdNow x = 255 → p ≠ canPath x → t.rd .nodeIdNow x = v.setWidth 32
        ∧ t.rdN .nmtState x = (if v = 255 then 0 else nmtOfMode s.modes.mode))
      ∧ (s.rdN .nodeIdNow x ≠ 255 ∨ p = canPath x → Frame [keyOf .nodeId x 0] reporting s t) := by
  obtain ⟨hval, hcmds, hnow, hframe⟩ := nodeIdWrite_effect p x (v.setWidth 32) s
  have hrun := writeRow_takes h (by simp) (by simp) fun k => by rw [State.cmd, State.cmd, hcmds]
  have hv : (v.setWidth 32).toNat = 255 ↔ v = 255 := by
    rw [BitVec.toNat_setWidth, BitVec.toNat_eq]
    have := v.isLt
    simp
    omega
  simp only [hv] at hnow
  exact ⟨_, congrArg Host.Outcome.next hrun, hval, hnow, hframe⟩

end Sys2Proof.Proofs
end

section
/-! SUPPORT. The rows of the LSS services as the statement O54 gives them. -/
namespace Sys2Proof.Machine

open Prog

/-- Between two states only controllers and outputs differ. -/
def LssQuiet (s t : State) : Prop := Frame [] [.ctrls, .out] s t

/-- The identity of the X9 in four words. -/
def State.idWords (s : State) : List U32 := (List.range 4).map fun i => s.rd .identity 0 i

theorem LssQuiet.refl (s : State) : LssQuiet s s := Frame.refl _ _ s

/-- The X9 that an LSS_IDENTIFY_REMOTE_SLAVE asks for. -/
def State.InRange (s : State) (a b rl rh sl sh : U32) : Prop :=
  s.idWords.take 2 = [a, b] ∧ rl ≤ s.rd .identity 0 2 ∧ s.rd .identity 0 2 ≤ rh ∧ sl ≤ s.rd .identity 0 3 ∧ s.rd .identity 0 3 ≤ sh

/-- The comparison that LSS_SWITCH_STATE_SELECTIVE makes. -/
def State.isNamed (s : State) (a b c d : U32) : Bool :=
  s.rd .identity 0 0 = a && s.rd .identity 0 1 = b && s.rd .identity 0 2 = c && s.rd .identity 0 3 = d

/-- The comparison that LSS_IDENTIFY_REMOTE_SLAVE makes. -/
def State.isInRange (s : State) (a b rl rh sl sh : U32) : Bool :=
  s.rd .identity 0 0 = a && s.rd .identity 0 1 = b
    && decide (rl.toNat ≤ s.rdN .identity 0 2) && decide (s.rdN .identity 0 2 ≤ rh.toNat)
    && decide (sl.toNat ≤ s.rdN .identity 0 3) && decide (s.rdN .identity 0 3 ≤ sh.toNat)

theorem State.isNamed_iff (s : State) (a b c d : U32) : s.isNamed a b c d = true ↔ s.idWords = [a, b, c, d] := by
  simp [State.isNamed, State.idWords, List.range_succ, and_assoc]

theorem State.isInRange_iff (s : State) (a b rl rh sl sh : U32) : s.isInRange a b rl rh sl sh = true ↔ s.InRange a b rl rh sl sh := by
  simp [State.isInRange, State.InRange, State.idWords, State.rdN, List.range_succ, and_assoc, BitVec.le_def]

/-- A service that answers where a condition holds, and does nothing where it does not. -/
theorem lssAnswer_run (b : Bool) (msg : List Byte) (s : State) :
    ((when b (lssSend msg)).run s).ctrls = s.ctrls ∧ LssQuiet s ((when b (lssSend msg)).run s)
      ∧ (b = true → LssSays s ((when b (lssSend msg)).run s) msg) ∧ (b = false → (when b (lssSend msg)).run s = s) := by
  cases b with
  | true => exact ⟨rfl, lssSend_quiet msg s, fun _ => rfl, nofun⟩
  | false => exact ⟨rfl, .refl s, nofun, fun _ => rfl⟩

end Sys2Proof.Machine

namespace Sys2Proof.Proofs

open Sys2Proof.Machine Prog

section
variable {s : State} (hl : s.live = true) (ho : s.canOn 0 = true)
include hl ho

/-- LSS_SWITCH_STATE_GLOBAL sets the state; leaving configuration takes up a first node-ID (R739, R740). -/
theorem lssSwitchGlobal_answers (on : Bool) : Answers (.lssSwitchStateGlobal on) s fun t => (t.ctrl 0).lssConfig = on
    ∧ (¬ (on = false ∧ (s.ctrl 0).lssConfig = true ∧ s.rdN .nodeIdNow 0 = 255 ∧ s.rdN .nodeId 0 ≠ 255) →
      t.ctrl 0 = { s.ctrl 0 with lssConfig := on } ∧ LssQuiet s t)
    ∧ (on = false → (s.ctrl 0).lssConfig = true → s.rdN .nodeIdNow 0 = 255 → s.rdN .nodeId 0 ≠ 255 →
      t.rd .nodeIdNow 0 = s.rd .nodeId 0 ∧ t.rdN .nmtState 0 = nmtOfMode s.modes.mode) := by
  let f : Ctrl → Ctrl := fun c => { c with lssConfig := on }
  let boots : Bool := !on && (s.ctrl 0).lssConfig && s.rdN .nodeIdNow 0 = 0xFF && s.rdN .nodeId 0 ≠ 0xFF
  have hx : exec (.lssSwitchStateGlobal on) s = .next ((when boots (resetComm 0 false)).run ((modCtrl 0 f).run s)) :=
    congrArg Host.Outcome.next (inLss_run hl ho _)
  have hframe := modCtrl_frame 0 f s
  have hctrl := modCtrl_ctrl 0 f s
  have hid : ((modCtrl 0 f).run s).rd .nodeId 0 = s.rd .nodeId 0 := hframe.1 _ _ _ (by simp)
  have hmodes : ((modCtrl 0 f).run s).modes = s.modes := hframe.2 .modes (by decide)
  generalize (modCtrl 0 f).run s = u at *
  by_cases hb : on = false ∧ (s.ctrl 0).lssConfig = true ∧ s.rdN .nodeIdNow 0 = 255 ∧ s.rdN .nodeId 0 ≠ 255
  · have hres : (u.ctrl 0).resume = false := by
      simp only [State.canOn, Bool.and_eq_true, Bool.not_eq_true'] at ho
      rw [hctrl]
      exact ho.2
    have hboots : boots = true := by simp [boots, hb]
    rw [hboots, when_true] at hx
    have hidN : u.rdN .nodeId 0 ≠ 255 := (congrArg BitVec.toNat hid).trans_ne hb.2.2.2
    have hreset : ((resetComm 0 false).run u).ctrl 0 = { active := u.timingOf 0 } := resetComm_ctrl (0 : Fin 2) false hres
    have hnmt : ((resetComm 0 false).run u).rdN .nmtState 0 = if u.rdN .nodeId 0 = 255 then 0 else nmtOfMode u.modes.mode :=
      resetComm_nmtState (0 : Fin 2) false u
    refine ⟨_, hx, by rw [hreset, hb.1], fun h => absurd hb h, fun _ _ _ _ => ⟨(resetComm_nodeIdNow (0 : Fin 2) false u).trans hid, ?_⟩⟩
    rw [hnmt, if_neg hidN, hmodes]
  · have hboots : boots = false := by
      rw [Bool.eq_false_iff]
      intro h
      exact hb (by simpa [boots, and_assoc] using h)
    rw [hboots, when_false, run_nop] at hx
    exact ⟨u, hx, by rw [hctrl], fun _ => ⟨hctrl, hframe.mono (by simp) (by simp)⟩, fun h1 h2 h3 h4 => absurd ⟨h1, h2, h3, h4⟩ hb⟩

/-- LSS_SWITCH_STATE_SELECTIVE answers the X9 that it names, which enters the configuration state. -/
theorem lssSwitchSelective_answers (a b c d : U32) : Answers (.lssSwitchStateSelective a b c d) s fun t => LssQuiet s t
    ∧ (s.idWords = [a, b, c, d] → (t.ctrl 0).lssConfig = true ∧ LssSays s t [0x44]) ∧ (s.idWords ≠ [a, b, c, d] → t = s) := by
  have hx : exec (.lssSwitchStateSelective a b c d) s = .next ((when (s.isNamed a b c d)
      (.seq (modCtrl 0 fun c => { c with lssConfig := true }) (lssSend [0x44]))).run s) := congrArg Host.Outcome.next (inLss_run hl ho _)
  have hids := s.isNamed_iff a b c d
  cases hb : s.isNamed a b c d with
  | true =>
    rw [hb, when_true, run_seq] at hx
    obtain ⟨hctrl, hsays, hquiet⟩ := modCtrl_lssSend (fun c => { c with lssConfig := true }) [0x44] s
    exact ⟨_, hx, hquiet, fun _ => ⟨by rw [hctrl], hsays⟩, absurd (hids.mp hb)⟩
  | false =>
    rw [hb, when_false, run_nop] at hx
    exact ⟨s, hx, .refl s, fun h => absurd (hids.mpr h) (by simp [hb]), fun _ => rfl⟩

/-- LSS_IDENTIFY_REMOTE_SLAVE answers within the ranges that it names. -/
theorem lssIdentifyRemote_answers (a b rl rh sl sh : U32) : Answers (.lssIdentifyRemoteSlave a b rl rh sl sh) s fun t =>
    t.ctrls = s.ctrls ∧ LssQuiet s t ∧ (s.InRange a b rl rh sl sh → LssSays s t [0x4F]) ∧ (¬ s.InRange a b rl rh sl sh → t = s) := by
  have hx : exec (.lssIdentifyRemoteSlave a b rl rh sl sh) s = .next ((when (s.isInRange a b rl rh sl sh) (lssSend [0x4F])).run s) :=
    congrArg Host.Outcome.next (inLss_run hl ho _)
  have hin := s.isInRange_iff a b rl rh sl sh
  obtain ⟨hctrls, hquiet, hsays, hsame⟩ := lssAnswer_run (s.isInRange a b rl rh sl sh) [0x4F] s
  exact ⟨_, hx, hctrls, hquiet, fun h => hsays (hin.mpr h), fun h => hsame (Bool.eq_false_iff.mpr (mt hin.mp h))⟩

/-- LSS_IDENTIFY_NON_CONFIGURED is answered without a node-ID alone. -/
theorem lssIdentifyNonConfigured_answers : Answers .lssIdentifyNonConfigured s fun t =>
    (s.rdN .nodeIdNow 0 = 255 → LssSays s t [0x50]) ∧ (s.rdN .nodeIdNow 0 ≠ 255 → t = s) ∧ LssQuiet s t := by
  have hx : exec .lssIdentifyNonConfigured s = .next ((when (s.rdN .nodeIdNow 0 = 0xFF) (lssSend [0x50])).run s) :=
    congrArg Host.Outcome.next (inLss_run hl ho _)
  obtain ⟨-, hquiet, hsays, hsame⟩ := lssAnswer_run (s.rdN .nodeIdNow 0 = 0xFF) [0x50] s
  exact ⟨_, hx, fun h => hsays (decide_eq_true h), fun h => hsame (decide_eq_false h), hquiet⟩

/-! ### Fastscan -/

/-- The first request of a fastscan, bit 128, is answered and begins it. -/
theorem lssFastscan_begins (hi : s.rdN .nodeIdNow 0 = 255) (hw : (s.ctrl 0).lssConfig = false) (id : U32) (sub next : Byte) :
    Answers (.lssFastscan id 128 sub next) s fun t => t.ctrl 0 = { s.ctrl 0 with scanPos := 0 } ∧ LssSays s t [0x4F] ∧ LssQuiet s t := by
  have hx : exec (.lssFastscan id 128 sub next) s =
      .next ((lssSend [0x4F]).run ((modCtrl 0 fun c => { c with scanPos := 0 }).run s)) := by
    refine congrArg Host.Outcome.next ((inLss_run hl ho _).trans ?_)
    rw [run_ask, hi, hw]
    rfl
  exact ⟨_, hx, modCtrl_lssSend (fun c => { c with scanPos := 0 }) [0x4F] s⟩

/-- The last bit of a part that matches the identity is answered; it moves the scan to the next part or ends it. -/
theorem lssFastscan_moves (hi : s.rdN .nodeIdNow 0 = 255) (hw : (s.ctrl 0).lssConfig = false) {id : U32} {sub : Byte} (next : Byte)
    (hpos : sub.toNat = (s.ctrl 0).scanPos) (hsub : sub.toNat ≤ 3) (hid : id = s.rd .identity 0 sub.toNat) :
    Answers (.lssFastscan id 0 sub next) s fun t => LssSays s t [0x4F] ∧ LssQuiet s t
      ∧ (next < sub → (t.ctrl 0).lssConfig = true ∧ (t.ctrl 0).scanPos = 0)
      ∧ (sub ≤ next → (t.ctrl 0).scanPos = next.toNat ∧ (t.ctrl 0).lssConfig = false) := by
  let f : Ctrl → Ctrl := fun c => if next.toNat < sub.toNat then { c with scanPos := 0, lssConfig := true } else { c with scanPos := next.toNat }
  have hmatch : (decide (0 < 32) && decide (sub.toNat ≤ 3) && decide (sub.toNat = (s.ctrl 0).scanPos)
      && decide (id.toNat / 2 ^ 0 = s.rdN .identity 0 sub.toNat / 2 ^ 0)) = true := by
    simp [hsub, ← hpos, hid, State.rdN]
  have hx : exec (.lssFastscan id 0 sub next) s = .next ((lssSend [0x4F]).run ((modCtrl 0 f).run s)) := by
    refine congrArg Host.Outcome.next ((inLss_run hl ho _).trans ?_)
    rw [run_ask, hi, hw]
    exact congrArg (fun b => (when b (.seq (modCtrl 0 f) (lssSend [0x4F]))).run s) hmatch
  obtain ⟨hctrl, hsays, hquiet⟩ := modCtrl_lssSend f [0x4F] s
  refine ⟨_, hx, hsays, hquiet, fun h => ?_, fun h => ?_⟩
  · rw [hctrl]
    simp only [f, if_pos (BitVec.lt_def.mp h), and_self]
  · rw [hctrl]
    simp only [f, if_neg (Nat.not_lt.mpr (BitVec.le_def.mp h)), hw, and_self]

/-! ### The configuration state -/

/-- A service of the configuration state does nothing in the waiting state. -/
theorem lssConfig_ignored {c : Instr} {p : Prog} (hx : exec c s = .next ((inLssConfig p).run s)) (hw : (s.ctrl 0).lssConfig = false) :
    Answers c s fun t => t = s :=
  ⟨_, hx, inLssConfig_run_waiting hl ho hw p⟩

variable (hc : (s.ctrl 0).lssConfig = true)
include hc

/-- In the configuration state a service runs. -/
theorem lssConfig_answers {c : Instr} {p : Prog} {P : State → Prop} (hx : exec c s = .next ((inLssConfig p).run s)) (hP : P (p.run s)) :
    Answers c s P :=
  ⟨_, hx, (inLssConfig_run hl ho hc p).symm ▸ hP⟩

/-- A service that answers alone. -/
theorem lssConfig_says {c : Instr} {p : Prog} {msg : List Byte} (hx : exec c s = .next ((inLssConfig p).run s)) (hp : p.run s = (lssSend msg).run s) :
    Answers c s fun t => LssSays s t msg ∧ t.ctrls = s.ctrls ∧ LssQuiet s t :=
  lssConfig_answers hl ho hc hx (hp ▸ ⟨rfl, rfl, lssSend_quiet msg s⟩)

theorem lssConfigureNodeId_answers (v : Byte) :
    (netValue s .nodeId 0 (v.setWidth 32) = .ok → Answers (.lssConfigureNodeId v) s fun t => t.rd .nodeId 0 = v.setWidth 32
      ∧ t.rd .nodeIdNow 0 = s.rd .nodeIdNow 0 ∧ Frame [keyOf .nodeId 0 0] reporting s t)
    ∧ (netValue s .nodeId 0 (v.setWidth 32) ≠ .ok → Answers (.lssConfigureNodeId v) s fun t => LssSays s t [0x11, 1]
      ∧ t.rd .lastStatus 0 3 = u32 (Status.range.code * 0x1000000 + 0x2D00 * 0x100 + 1) ∧ Frame [keyOf .lastStatus 0 3] [.ctrls, .out] s t) := by
  refine ⟨fun h => lssConfig_answers hl ho hc rfl ?_, fun h => lssConfig_answers hl ho hc rfl ?_⟩
  · obtain ⟨hval, hframe⟩ := lssWrite_takes (n := .nodeId) (by decide) v h
    have hk : keyOf .nodeIdNow 0 0 ∉ [keyOf .nodeId 0 0] := by decide
    exact ⟨hval, hframe.1 _ _ _ hk, hframe⟩
  · rw [lssWrite_refuses _ v h]
    exact lssRefuse_notes .nodeId s

theorem lssConfigureBitTiming_answers (v : Byte) :
    (netValue s .bitrate 0 (v.setWidth 32) = .ok → Answers (.lssConfigureBitTiming 0 v) s fun t => t.rd .bitrate 0 = v.setWidth 32
      ∧ Frame [keyOf .bitrate 0 0] reporting s t)
    ∧ ∀ table : Byte, table ≠ 0 ∨ netValue s .bitrate 0 (v.setWidth 32) ≠ .ok → Answers (.lssConfigureBitTiming table v) s fun t =>
      LssSays s t [0x13, 1] ∧ t.rd .lastStatus 0 3 = u32 (Status.range.code * 0x1000000 + 0x2D00 * 0x100 + 3)
        ∧ Frame [keyOf .lastStatus 0 3] [.ctrls, .out] s t := by
  refine ⟨fun h => lssConfig_answers hl ho hc rfl ?_, fun table h => lssConfig_answers hl ho hc rfl ?_⟩
  · exact lssWrite_takes (n := .bitrate) (by decide) v h
  · have hrun : (if table = 0 then lssWrite .bitrate v.toNat else lssRefuse .bitrate).run s = (lssRefuse .bitrate).run s := by
      split
      · next ht => exact lssWrite_refuses _ v (h.resolve_left (absurd ht))
      · rfl
    rw [hrun]
    exact lssRefuse_notes .bitrate s

end

/-- At the end of the switch delay the new bit rate is in use (R739). -/
theorem lssSwitchDelay_answers {s : State} (hl : s.live = true) (ho : s.canOn 0 = true) (hw : (s.ctrl 0).switching = true) :
    Answers .lssSwitchDelayExpired s fun t =>
      t.ctrl 0 = { s.ctrl 0 with switching := false, active := (s.ctrl 0).active.set 0 (s.rd .bitrate 0) } ∧ Frame [] [.ctrls] s t := by
  let f : Ctrl → Ctrl := fun c => { c with switching := false, active := c.active.set 0 (s.rd .bitrate 0) }
  have hf : s.fenced islNet = false := by
    simp only [State.canOn, Bool.and_eq_true, Bool.not_eq_true'] at ho
    exact ho.1.1
  have hx : exec .lssSwitchDelayExpired s = .next ((modCtrl 0 f).run s) := by
    refine congrArg Host.Outcome.next ?_
    rw [inIsland, run_ask, hl, hf, Bool.not_false, Bool.and_self, when_true, run_ask, hw, when_true]
  exact ⟨_, hx, modCtrl_ctrl 0 f s, modCtrl_frame 0 f s⟩

end Sys2Proof.Proofs
end

section
/-! SUPPORT. Statement O54, from the rows of NMT, of the node-ID and of LSS. -/
namespace Sys2Proof.Proofs

open Sys2Proof.Machine Prog

/-- The NMT state commands of a controller, obeyed, turned away and ignored. -/
theorem nmtRows (x : Fin 2) (node : Fin 128) {s : State} {P : Instr × Mode → Prop}
    (h : ∀ c m, exec c s = .next ((nmtCommand x node m).run s) → P (c, m)) :
    ∀ r ∈ [(Instr.nmtStart x node, Mode.scan), (.nmtEnterPreoperational x node, .prepare), (.nmtStop x node, .park)], P r := by
  simp only [List.forall_mem_cons, List.not_mem_nil, false_imp_iff, implies_true, and_true]
  exact ⟨h _ _ rfl, h _ _ rfl, h _ _ rfl⟩

/-- A controller's path is P3 or P4. -/
theorem canPath_num_ne (x : Nat) : (canPath x).num ≠ 0xFF := by
  unfold canPath
  split <;> decide

/-- Settles O54: a reset is followed stage by stage, and an NMT state command is a mode request or overruled. -/
theorem nmtAndLssRowsComplete : Obligations.NmtAndLssRowsComplete := by
  refine ⟨fun x node s hl ho => ⟨fun ha hi hc => ?_, fun h => ?_, fun ha full => ?_⟩, nodeIdWrite_answers, fun s hl ho => ?_⟩
  · exact nmtRows x node fun c m hx =>
      ⟨fun hf hn => nmtRow_requests hx hl ho ha hi hc hf hn, fun hf => nmtRow_fenced hx hl ho ha hi hc hf⟩
  · exact nmtRows x node fun c m hx => nmtRow_ignored hx h
  · have hr : (s.ctrl x).resume = false := by
      simp only [State.canOn, Bool.and_eq_true, Bool.not_eq_true'] at ho
      exact ho.2
    obtain ⟨hseq, hgrant, hclaims⟩ := resetComm_path x full s
    refine ⟨_, nmtReset_exec hl ho ha full, resetComm_nodeIdNow x full s, resetComm_ctrl x full hr, hseq, hgrant, fun u => ?_, fun u hu => ?_,
      resetComm_nmtState x full s, resetComm_boots x full ho, fun j hj => ?_, fun n hn => resetComm_setting x full hn s, resetComm_frame x full s⟩
    · rw [hclaims]
      split
      · exact (canPath_num_ne x).symm
      · next h => exact h
    · rw [hclaims, if_neg hu]
    · exact ⟨resetComm_pdoEntry hj (by decide) full s, resetComm_pdoEntry hj (by decide) full s,
        resetComm_pdo hj (.inl rfl) full s, resetComm_pdo hj (.inr rfl) full s⟩
  · refine ⟨lssSwitchGlobal_answers hl ho, lssSwitchSelective_answers hl ho, lssIdentifyRemote_answers hl ho,
      lssIdentifyNonConfigured_answers hl ho, fun hi hw => ⟨lssFastscan_begins hl ho hi hw, fun id sub next => lssFastscan_moves hl ho hi hw next⟩,
      fun hc => ⟨lssConfigureNodeId_answers hl ho hc, lssConfigureBitTiming_answers hl ho hc, ?_, fun k => ?_, ?_, ?_⟩, fun hw => ?_,
      lssSwitchDelay_answers hl ho⟩
    · exact lssConfig_answers hl ho hc rfl ⟨modCtrl_ctrl 0 (fun c => { c with switching := true }) s, modCtrl_frame ..⟩
    · exact lssConfig_says hl ho hc rfl (by rw [run_ask])
    · exact lssConfig_says hl ho hc rfl (by rw [run_ask]; rfl)
    · exact lssConfig_says hl ho hc rfl rfl
    · simp only [List.forall_mem_cons, List.not_mem_nil, false_imp_iff, implies_true, and_true]
      exact ⟨lssConfig_ignored hl ho rfl hw, lssConfig_ignored hl ho rfl hw, lssConfig_ignored hl ho rfl hw, lssConfig_ignored hl ho rfl hw,
        lssConfig_ignored hl ho rfl hw, lssConfig_ignored hl ho rfl hw⟩

end Sys2Proof.Proofs
end

section
/-! SUPPORT. The verdict on a write of one entry, as one list of checks, and what a refused write does. -/
namespace Sys2Proof.Machine

-- One proof at a time: a thread for each would need more memory than a check has.
set_option Elab.async false

open Prog

/-! ### The checks of one entry -/

theorem firstBad_cons (a : Status) (l : List Status) : firstBad (a :: l) = if a = .ok then firstBad l else a := by
  cases a <;> rfl

theorem firstFail_one (e : Ent) (w : U32) (f : Ent → U32 → Status) :
    firstFail [(e, w)] f = if f e w = .ok then none else some (f e w, e) := by
  simp only [firstFail, List.findSome?]
  cases f e w <;> rfl

/-- The first of several checks that one entry fails. -/
theorem findSome_firstFail_one (e : Ent) (w : U32) (l : List (Ent → U32 → Status)) :
    l.findSome? (firstFail [(e, w)]) =
      if firstBad (l.map fun f => f e w) = .ok then none else some (firstBad (l.map fun f => f e w), e) := by
  induction l with
  | nil => rfl
  | cons f l ih =>
    simp only [List.findSome?_cons, firstFail_one, List.map_cons, firstBad_cons, ih]
    by_cases h : f e w = .ok <;> simp [h]

/-- The checks of R115 that HOST makes of a write of one entry, in their order. -/
def hostChecks (s : State) (q : WriteReq) (e : Ent) (w : U32) : List Status :=
  [ stepWindow q.path e, q.lenSt, stepAccess e, stepLevel s q.path e, stepClaim s q.path e w, stepFenceOf s e, stepMode s e ]

/-- The checks of R115 that the holding island makes of a write of one entry. -/
def islandChecks (s : State) (q : WriteReq) (e : Ent) (w : U32) : List Status :=
  [ stepEpoch s q.exp e, stepValue (s.withValues q.ents) q.path e w, stepState s (s.withValues q.ents) q e w ]

theorem firstBad_append (l m : List Status) : firstBad (l ++ m) = if firstBad l = .ok then firstBad m else firstBad l := by
  induction l with
  | nil => rfl
  | cons a l ih =>
    simp only [List.cons_append, firstBad_cons, ih]
    by_cases h : a = .ok <;> simp [h]

theorem firstBad_mem (l : List Status) : firstBad l = .ok ∨ firstBad l ∈ l := by
  induction l with
  | nil => exact .inl rfl
  | cons a l ih =>
    rw [firstBad_cons]
    split
    · exact ih.imp_right (List.mem_cons_of_mem a)
    · exact .inr List.mem_cons_self

theorem hostSteps_one {q : WriteReq} {e : Ent} {w : U32} (h : q.ents = [(e, w)]) (s : State) :
    hostSteps s q = if firstBad (hostChecks s q e w) = .ok then none else some (firstBad (hostChecks s q e w), e) := by
  unfold hostSteps
  rw [h]
  exact findSome_firstFail_one e w _

/-- The verdict on a write of one entry: the first check that fails, and that entry. -/
theorem verdict_one {q : WriteReq} {e : Ent} {w : U32} (h : q.ents = [(e, w)]) (s : State) :
    verdict s q = { st := firstBad (hostChecks s q e w ++ islandChecks s q e w), ent := e,
                    inHost := decide (firstBad (hostChecks s q e w) ≠ .ok) } := by
  have hu : mixedUnits q.ents = false := by simp [h, mixedUnits]
  rw [firstBad_append]
  by_cases hh : firstBad (hostChecks s q e w) = .ok
  · have hl := findSome_firstFail_one e w [stepValue (s.withValues q.ents) q.path, stepState s (s.withValues q.ents) q]
    rw [← h] at hl
    simp only [verdict, hu, hostSteps_one h, hh, if_true, hl, Bool.false_eq_true, if_false, islandChecks]
    rw [firstBad_cons (stepEpoch ..)]
    simp only [h, List.head?_cons, Option.map_some, Option.getD_some, List.map_cons, List.map_nil]
    cases stepEpoch s q.exp e <;> simp only [if_true, reduceCtorEq, if_false, ne_eq, not_true_eq_false, decide_false]
    by_cases hv : firstBad [stepValue (s.withValues [(e, w)]) q.path e w, stepState s (s.withValues [(e, w)]) q e w] = .ok
    · simp [hv]
    · simp [hv]
  · simp [verdict, hu, hostSteps_one h, hh]

theorem verdict_one_st {q : WriteReq} {e : Ent} {w : U32} (h : q.ents = [(e, w)]) (s : State) :
    (verdict s q).st = firstBad (hostChecks s q e w ++ islandChecks s q e w) := by rw [verdict_one h]

theorem verdict_one_ent {q : WriteReq} {e : Ent} {w : U32} (h : q.ents = [(e, w)]) (s : State) : (verdict s q).ent = e := by
  rw [verdict_one h]


/-! ### Refusals -/

/-- The entries that a refusal on a path can change (R117, R682, R690). -/
def refusalKeys (p : Path) : List Nat := [keyOf .lastStatus 0 p.num, keyOf .parErr 0 0, keyOf .qspiErr 0 0]

theorem portRefusal_within (p : Path) : (portRefusal p).All (Op.within (refusalKeys p) [.ports]) := by
  cases p <;> simp [portRefusal, countUp, wrN, wr, modPort, Op.within, Op.touches, refusalKeys]

theorem refuse_frame (p : Path) (st : Status) (i j : Nat) (s : State) :
    Frame (refusalKeys p) [.ports] s ((refuse p st i j).run s) :=
  Prog.run_frame (p := refuse p st i j) ⟨.head _, portRefusal_within p⟩ s

theorem Frame.cmds {W : List Nat} {L : List Part} {s t : State} (h : Frame W L s t) (hL : .cmds ∉ L) : t.cmds = s.cmds := h.2 .cmds hL

/-- The statuses whose refusal leaves more than LAST_STATUS: none of them is a plain refusal. -/
def notPlain : List Status := [.ok, .keyWrong, .scanInvalid]

theorem plain_ne_ok {st : Status} (h : st ∉ notPlain) : st ≠ .ok := fun g => h (g ▸ by decide)

theorem refusedEffect_plain {p : Path} {v : Verdict} (hk : v.st ≠ .keyWrong) (hs : v.st ≠ .scanInvalid) : refusedEffect p v = .nop := by
  unfold refusedEffect
  split
  · next g => exact absurd g hk
  · next g => exact absurd g hs
  · rfl

/-- A refused write is answered after the effect of its refusal. -/
theorem submit_bad {s : State} {q : WriteReq} (k : Verdict → Prog) (h : (verdict s q).st ≠ .ok) :
    (submit q k).run s = (k (verdict s q)).run ((refusedEffect q.path (verdict s q)).run s) := by
  simp only [submit, run_ask, run_seq]

/-- A refused write whose refusal has no effect of its own is answered and nothing else. -/
theorem submit_refused {s : State} {q : WriteReq} (k : Verdict → Prog) (h : (verdict s q).st ∉ notPlain) :
    (submit q k).run s = (k (verdict s q)).run s := by
  rw [submit_bad k (plain_ne_ok h), refusedEffect_plain (fun g => h (g ▸ by decide)) (fun g => h (g ▸ by decide)), run_nop]

theorem noteRefusal_run {p : Path} {v : Verdict} (h : v.st ≠ .ok) (s : State) :
    (noteRefusal p v).run s = (refuse p v.st v.ent.index v.ent.sub).run s := by simp [noteRefusal, h]

/-- A refused write of an entry by its index leaves its status. -/
theorem writeAt_refused {s : State} {p : Path} {o : Origin} {idx sub : Nat} {w : U32} {k : Verdict → Prog} {l : Status} {e : Ent} {st : Status}
    (he : lookup idx sub = .ok e) (hp : notForPath p e = false)
    (h : (verdict s { path := p, origin := o, lenSt := l, ents := [(e, w)] }).st = st) (hs : st ∉ notPlain) :
    (writeAt p o idx sub w k l).run s =
      (k (verdict s { path := p, origin := o, lenSt := l, ents := [(e, w)] })).run ((refuse p st e.index e.sub).run s) := by
  subst h
  simp only [writeAt, he, hp, Bool.false_eq_true, if_false]
  rw [submit_refused _ hs, run_seq, noteRefusal_run (plain_ne_ok hs), verdict_one_ent rfl]

/-- Where no record is held, nothing follows a refusal. -/
theorem settled_run_frame {p : Prog} {s : State} {W : List Nat} {L : List Part} (hn : NoHeld s) (h : Frame W L s (p.run s)) (hL : .cmds ∉ L) :
    (settled p).run s = p.run s :=
  settled_run_noHeld (hn.of_cmds (h.cmds hL))

/-! ### DICTIONARY_WRITE -/

theorem dictionaryWrite_run {s : State} {p : Path} {idx : BitVec 16} {sub : Byte} {v : U32} {enables : BitVec 4}
    (hl : s.live = true) (hu : pathUp s p = true) (hf : ¬ (p ∈ [.p1, .p2] ∧ idx = 0x2020 ∧ sub = 0)) :
    exec (.dictionaryWrite p idx sub v enables) s =
      .next ((settled (writeAt p .plain idx.toNat sub.toNat v (fun _ => .nop) (need (enables = 0xF) .length))).run s) := by
  have hc : (decide (p ∈ [.p1, .p2]) && decide (idx = 0x2020) && decide (sub = 0)) = false := by simpa [and_assoc] using hf
  show done _ s = _
  simp only [done_eq, Prog.live, run_ask, run_when, hl, hu, hc, Bool.not_false, Bool.and_true, if_true]

/-- A DICTIONARY_WRITE that does not reach the dictionary, or names the FIFO window, changes nothing. -/
theorem dictionaryWrite_unreached {s : State} {p : Path} {idx : BitVec 16} {sub : Byte} {v : U32} {enables : BitVec 4}
    (h : ¬ (s.live = true ∧ pathUp s p = true ∧ ¬ (p ∈ [.p1, .p2] ∧ idx = 0x2020 ∧ sub = 0))) :
    exec (.dictionaryWrite p idx sub v enables) s = .next s := by
  have hc : (pathUp s p && !(decide (p ∈ [.p1, .p2]) && decide (idx = 0x2020) && decide (sub = 0))) = true ↔
      pathUp s p = true ∧ ¬ (p ∈ [.p1, .p2] ∧ idx = 0x2020 ∧ sub = 0) := by
    rw [Bool.and_eq_true, Bool.not_eq_true', ← Bool.not_eq_true, Bool.and_eq_true, Bool.and_eq_true]
    simp only [decide_eq_true_eq, and_assoc]
  show done _ s = _
  simp only [done_eq, Prog.live, run_ask, run_when]
  by_cases hl : s.live = true
  · rw [if_pos hl, if_neg fun g => h ⟨hl, hc.mp g⟩]
  · rw [if_neg hl]

/-- A DICTIONARY_WRITE that a check refuses leaves its status and nothing else. -/
theorem dictionaryWrite_refused {s : State} {p : Path} {idx : BitVec 16} {sub : Byte} {v : U32} {enables : BitVec 4} {e : Ent} {st : Status}
    (hl : s.live = true) (hu : pathUp s p = true) (hn : NoHeld s) (hf : ¬ (p ∈ [.p1, .p2] ∧ idx = 0x2020 ∧ sub = 0))
    (he : lookup idx.toNat sub.toNat = .ok e) (hp : notForPath p e = false)
    (h : (verdict s { path := p, lenSt := need (enables = 0xF) .length, ents := [(e, v)] }).st = st) (hs : st ∉ notPlain) :
    exec (.dictionaryWrite p idx sub v enables) s = .next ((refuse p st e.index e.sub).run s) := by
  have hw := writeAt_refused (k := fun _ => .nop) he hp h hs
  rw [run_nop] at hw
  rw [dictionaryWrite_run hl hu hf, settled_run_frame hn (by rw [hw]; exact refuse_frame ..) (by decide), hw]

end Sys2Proof.Machine
end

section
/-! SUPPORT. An expert entry stays as it was without a grant; the order of the checks. -/
namespace Sys2Proof.Machine

-- One proof at a time: a thread for each would need more memory than a check has.
set_option Elab.async false

open Prog

theorem stepWindow_cases (p : Path) (e : Ent) : stepWindow p e = .ok ∨ stepWindow p e ∈ [.wrongPath, .notWindowed] := by
  unfold stepWindow
  split
  · exact .inr (by decide)
  · split
    · exact .inr (by decide)
    · exact .inl rfl

theorem need_cases (b : Bool) (st : Status) : need b st = .ok ∨ need b st = st := by
  cases b
  · exact .inr rfl
  · exact .inl rfl

theorem stepLevel_denied {s : State} {p : Path} {e : Ent} (hp : p ≠ .p6) (hx : isExpert e = true) (hg : s.granted p = false) :
    stepLevel s p e = .levelDenied := by simp [stepLevel, hp, hx, hg, need]

/-- The statuses of the checks up to the level. -/
def uptoLevel : List Status := [.wrongPath, .notWindowed, .length, .readOnly, .levelDenied]

theorem uptoLevel_plain : ∀ st ∈ uptoLevel, st ∉ notPlain := by decide

/-- A write of an expert entry without a grant is refused at the level or before. -/
theorem verdict_uptoLevel {s : State} {p : Path} {e : Ent} {w : U32} {b : Bool} (hp : p ≠ .p6) (hx : isExpert e = true)
    (hg : s.granted p = false) : (verdict s { path := p, lenSt := need b .length, ents := [(e, w)] }).st ∈ uptoLevel := by
  let q : WriteReq := { path := p, lenSt := need b .length, ents := [(e, w)] }
  have hl : hostChecks s q e w = [stepWindow p e, need b .length, stepAccess e] ++
      .levelDenied :: [stepClaim s p e w, stepFenceOf s e, stepMode s e] := by
    simp only [hostChecks, q, stepLevel_denied hp hx hg, List.cons_append, List.nil_append]
  have hm : ∀ st ∈ [stepWindow p e, need b .length, stepAccess e], st = .ok ∨ st ∈ uptoLevel := by
    simp only [List.forall_mem_cons, List.not_mem_nil, false_imp_iff, implies_true, and_true]
    refine ⟨(stepWindow_cases p e).imp_right ?_, (need_cases b .length).imp_right ?_, (need_cases _ .readOnly).imp_right ?_⟩
    · intro h
      exact List.mem_append_left [Status.length, .readOnly, .levelDenied] h
    · exact fun h => by rw [h]; decide
    · exact fun h => by rw [stepAccess, h]; decide
  rw [verdict_one_st rfl, hl, List.append_assoc, firstBad_append]
  split
  · simp [firstBad_cons, uptoLevel]
  · next h => exact (hm _ ((firstBad_mem _).resolve_left h)).resolve_left h

end Sys2Proof.Machine
end

section
/-! PROOF. Expert entries without a grant (O10). -/
namespace Sys2Proof.Proofs

-- One proof at a time: a thread for each would need more memory than a check has.
set_option Elab.async false

open Sys2Proof.Machine Prog

/-- Settles O10: the write is refused at step 5 or before, and such a refusal has no effect of its own. -/
theorem noGrantNoExpertEntry : Obligations.NoGrantNoExpertEntry := by
  unfold Obligations.NoGrantNoExpertEntry
  intro s p idx sub v enables e t hp hg he hx h3 h4 h5 ht
  by_cases hr : s.live = true ∧ pathUp s p = true ∧ ¬ (p ∈ [.p1, .p2] ∧ idx = 0x2020 ∧ sub = 0)
  · obtain ⟨hl, hu, hf⟩ := hr
    cases hn : notForPath p e with
    | false =>
      have hv := verdict_uptoLevel (b := enables = 0xF) (w := v) hp hx hg
      rw [dictionaryWrite_refused hl hu ⟨h3, h4, h5⟩ hf he hn rfl (uptoLevel_plain _ hv)] at ht
      cases ht
      exact refuse_frame ..
    | true =>
      have hw : (writeAt p .plain idx.toNat sub.toNat v (fun _ => .nop) (need (enables = 0xF) .length)).run s =
          (refuse p .noObject idx.toNat sub.toNat).run s := by simp only [writeAt, he, hn, if_true, run_seq, run_nop]
      rw [dictionaryWrite_run hl hu hf, settled_run_frame ⟨h3, h4, h5⟩ (by rw [hw]; exact refuse_frame ..) (by decide), hw] at ht
      cases ht
      exact refuse_frame ..
  · rw [dictionaryWrite_unreached hr] at ht
    cases ht
    exact Frame.refl ..

end Sys2Proof.Proofs
end

section
/-! SUPPORT. A named write that a check refuses. -/
namespace Sys2Proof.Machine

-- One proof at a time: a thread for each would need more memory than a check has.
set_option Elab.async false

open Prog

theorem Refuses.noHeld {s : State} {p : Path} {e : Ent} {w : U32} {st : Status} (h : Refuses s p e w st) : NoHeld s :=
  ⟨h.held3, h.held4, h.held5⟩

theorem writeRow_run {s : State} {p : Path} (e : Ent) (w : U32) (hl : s.live = true) (hu : pathUp s p = true) :
    (writeRow p e w).run s = (settled (writeEnt p .plain e w)).run s := by
  simp only [writeRow, Prog.live, run_ask, run_when, hl, hu, if_true]

/-- A refused write has the effect of its refusal and leaves its status. -/
theorem writeEnt_refused {s : State} {p : Path} {o : Origin} {e : Ent} {w : U32} {st : Status}
    (h : (verdict s { path := p, origin := o, ents := [(e, w)] }).st = st) (ho : st ≠ .ok) :
    (writeEnt p o e w).run s =
      (refuse p st e.index e.sub).run ((refusedEffect p (verdict s { path := p, origin := o, ents := [(e, w)] })).run s) := by
  subst h
  rw [writeEnt, submit_bad _ ho, noteRefusal_run ho, verdict_one_ent (e := e) (w := w) rfl]

/-- A named write that a check refuses leaves its status and nothing else. -/
theorem writeRow_refused {s : State} {p : Path} {e : Ent} {w : U32} {st : Status} (h : Refuses s p e w st) (hs : st ∉ notPlain) :
    (writeRow p e w).run s = (refuse p st e.index e.sub).run s := by
  have hw := writeEnt_refused (o := .plain) h.bad h.notOk
  rw [refusedEffect_plain (fun g => hs (h.bad.symm.trans g ▸ by decide)) (fun g => hs (h.bad.symm.trans g ▸ by decide)), run_nop] at hw
  rw [writeRow_run e w h.live h.up, settled_run_frame h.noHeld (by rw [hw]; exact refuse_frame ..) (by decide), hw]

/-- What a refusal leaves: its status in LAST_STATUS of the path, and every other entry. -/
theorem refuse_leaves (p : Path) (st : Status) (i j : Nat) (s : State) :
    ((refuse p st i j).run s).rd .lastStatus 0 p.num = u32 (st.code * 0x1000000 + i * 0x100 + j)
      ∧ Frame (refusalKeys p) [.ports] s ((refuse p st i j).run s) :=
  ⟨refuse_rd_lastStatus p st i j s, refuse_frame p st i j s⟩

theorem headEn_index (h : Fin 4) : ({ name := .headEn, inst := h } : Ent).index = 0x2400 + 0x20 * h.val
    ∧ ({ name := .headEn, inst := h } : Ent).sub = 1 := by
  revert h
  decide

/-- A write whose length is not the width of its windowed entry is refused with LENGTH. -/
theorem verdict_length {s : State} {p : Path} {e : Ent} {w : U32} (hd : isDomain e = false) (hc : isCommand e = false) :
    (verdict s { path := p, lenSt := .length, ents := [(e, w)] }).st = .length := by
  rw [verdict_one_st rfl]
  simp [hostChecks, firstBad_cons, stepWindow, hd, hc]

theorem stepAccess_iff (e : Ent) : (accessOf e ∈ [Access.rw, .rwp, .wo] → stepAccess e = .ok)
    ∧ (accessOf e ∉ [Access.rw, .rwp, .wo] → stepAccess e = .readOnly) :=
  ⟨fun h => by rw [stepAccess, decide_eq_true h]; rfl, fun h => by rw [stepAccess, decide_eq_false h]; rfl⟩

theorem stepLevel_passes {s : State} {p : Path} {e : Ent} (h : ¬ (isExpert e = true ∧ s.granted p = false)) : stepLevel s p e = .ok := by
  have hb : (!isExpert e || s.granted p) = true := by
    cases hx : isExpert e <;> cases hg : s.granted p <;> simp_all
  rw [stepLevel, Bool.or_assoc, hb, Bool.or_true]
  rfl

/-- A unit of the entry is held by another path. -/
def Ent.Claimed (s : State) (p : Path) (e : Ent) : Prop := ∃ u, e.unit = some u ∧ s.holderOf u ≠ 0xFF ∧ s.holderOf u ≠ p.num

/-- The island that holds the entry is fenced. -/
def Ent.Absent (s : State) (e : Ent) : Prop := ∃ i, e.holder = some i ∧ s.fenced i = true

theorem heldByOther_iff {s : State} {p : Path} {u : Nat} : s.heldByOther p u = true ↔ s.holderOf u ≠ 0xFF ∧ s.holderOf u ≠ p.num := by
  simp [State.heldByOther]

/-- The entries whose claim check asks for the unit of the entry alone. -/
def ownClaim : List Name := [.claim, .restoreDefaults, .pairEn, .pairSkew]

/-- The claim check of an entry that has no claim rule of its own. -/
theorem stepClaim_iff {s : State} {p : Path} {e : Ent} {w : U32} (hp : p ≠ .p6) (hn : e.name ∉ ownClaim) :
    (e.Claimed s p → stepClaim s p e w = .claimed) ∧ (¬ e.Claimed s p → stepClaim s p e w = .ok) := by
  simp only [ownClaim, List.mem_cons, not_or, List.not_mem_nil, not_false_eq_true, and_true] at hn
  obtain ⟨h1, h2, h3, h4⟩ := hn
  simp only [stepClaim, hp, if_false]
  refine ⟨?_, fun h => ?_⟩
  · rintro ⟨u, hu, hc⟩
    simp only [hu, heldByOther_iff.mpr hc]
    rfl
  · cases hu : e.unit with
    | none => rfl
    | some u =>
      have hc : s.heldByOther p u = false := Bool.eq_false_iff.mpr fun g => h ⟨u, hu, heldByOther_iff.mp g⟩
      simp only [hc]
      rfl

theorem stepFence_iff (s : State) (e : Ent) : (e.Absent s → stepFence s e = .unitAbsent) ∧ (¬ e.Absent s → stepFence s e = .ok) := by
  refine ⟨?_, fun h => ?_⟩
  · rintro ⟨i, hi, hf⟩
    simp only [stepFence, hi, hf]
    rfl
  · cases hi : e.holder with
    | none => simp only [stepFence, hi]; rfl
    | some i =>
      have hf : s.fenced i = false := Bool.eq_false_iff.mpr fun g => h ⟨i, hi, g⟩
      simp only [stepFence, hi, hf]
      rfl

theorem stepMode_outside {s : State} {e : Ent} (ha : accessOf e = .rwp) (hp : s.preparing = false) : stepMode s e = .notPrepare := by
  simp [stepMode, ha, hp, need]

/-- The checks of HOST on a windowed entry: its access, the level, the claim, the fence and the mode. -/
theorem verdict_windowed {p : Path} {e : Ent} (hd : isDomain e = false) (hc : isCommand e = false) (hr : e.name ≠ .restoreDefaults)
    (s : State) (w : U32) : (verdict s { path := p, ents := [(e, w)] }).st = firstBad (stepAccess e :: stepLevel s p e
      :: stepClaim s p e w :: stepFence s e :: stepMode s e :: islandChecks s { path := p, ents := [(e, w)] } e w) := by
  have hw : stepWindow p e = .ok := by simp [stepWindow, hd, hc]
  have hf : stepFenceOf s e = stepFence s e := if_neg hr
  rw [verdict_one_st rfl]
  simp only [hostChecks, hw, hf, List.cons_append, List.nil_append, firstBad_cons Status.ok, if_true]

end Sys2Proof.Machine
end

section
/-! PROOF. Refused writes (O8), the order of the checks (O9), wrong keys (O12) and claimed units (O13). -/
namespace Sys2Proof.Proofs

-- One proof at a time: a thread for each would need more memory than a check has.
set_option Elab.async false

open Sys2Proof.Machine Prog

/-- Settles O8: a plain refusal runs `refuse` alone. -/
theorem refusedWritesLeaveTheRest : Obligations.RefusedWritesLeaveTheRest := by
  unfold Obligations.RefusedWritesLeaveTheRest
  intro p s st hk hs
  have hplain : st ≠ .ok → st ∉ notPlain := fun ho => by simp [notPlain, ho, hk, hs]
  refine ⟨fun idx sub v e he hp hf h => ?_, fun idx sub v e enables he hp hd hc hf hl hu hn hen => ?_, fun h hr => ?_⟩
  · exact ⟨_, dictionaryWrite_refused h.live h.up h.noHeld hf he hp h.bad (hplain h.notOk), refuse_leaves ..⟩
  · have hv : (verdict s { path := p, lenSt := need (enables = 0xF) .length, ents := [(e, v)] }).st = .length := by
      rw [decide_eq_false hen]
      exact verdict_length hd hc
    exact ⟨_, dictionaryWrite_refused hl hu hn hf he hp hv (by decide), refuse_leaves ..⟩
  · obtain ⟨hi, hj⟩ := headEn_index h
    refine ⟨_, rfl, ?_⟩
    rw [writeRow_refused hr (hplain hr.notOk), hi, hj]
    exact refuse_leaves ..

/-- Settles O9: the checks stand in the verdict in their order. -/
theorem checksComeInTheirOrder : Obligations.ChecksComeInTheirOrder := by
  unfold Obligations.ChecksComeInTheirOrder
  intro s p e w hp hd hc hn
  have hown : e.name ∉ ownClaim := fun g => hn (by revert g; simp only [ownClaim, List.mem_cons]; tauto)
  have hr : e.name ≠ .restoreDefaults := fun g => hn (by rw [g]; decide)
  obtain ⟨ha, hb⟩ := stepAccess_iff e
  obtain ⟨hcl, hfree⟩ := stepClaim_iff (s := s) (w := w) hp hown
  obtain ⟨hab, hpr⟩ := stepFence_iff s e
  rw [verdict_windowed hd hc hr]
  refine ⟨fun h => ?_, fun h hd => ?_, fun h hd hc => ?_, fun h hd hc hf => ?_, fun h hd hc hf hx hm => ?_⟩
  · rw [hb h]; rfl
  · rw [ha h, stepLevel_denied hp hd.1 hd.2]; rfl
  · rw [ha h, stepLevel_passes hd, hcl hc]; rfl
  · rw [ha h, stepLevel_passes hd, hfree hc, hab hf]; rfl
  · rw [ha h, stepLevel_passes hd, hfree hc, hpr hf, stepMode_outside hx hm]; rfl

end Sys2Proof.Proofs
end

section
/-! SUPPORT. Refusals and the grants. -/
namespace Sys2Proof.Machine

-- One proof at a time: a thread for each would need more memory than a check has.
set_option Elab.async false

open Prog

/-- A refusal writes LAST_STATUS and the error counts only. -/
theorem refuse_rd {n : Name} {j k : Nat} {p : Path} (h : keyOf n j k ∉ refusalKeys p) (st : Status) (i x : Nat) (s : State) :
    ((refuse p st i x).run s).rd n j k = s.rd n j k := (refuse_frame p st i x s).1 n j k h

theorem levelGranted_notin (p : Path) : keyOf .levelGranted 0 0 ∉ refusalKeys p := by
  cases p <;> decide +kernel

theorem claim_notin (p : Path) (u : Fin 56) : keyOf .claim 0 u ∉ refusalKeys p := by
  cases p <;> (revert u; decide +kernel)

theorem granted_congr {s t : State} (h : t.rd .levelGranted = s.rd .levelGranted) (q : Path) : t.granted q = s.granted q := by
  simp only [State.granted, State.rdN, h]

/-- A refusal for a key that is no key has no effect on the channels, and one for any other reason none on the grants. -/
theorem refusedEffect_frame (p : Path) (v : Verdict) (s : State) :
    Frame [keyOf .levelGranted 0 0, keyOf .badEntry 0 0] reporting s ((refusedEffect p v).run s) := by
  unfold refusedEffect
  split
  · exact (setGrant_frame p false s).mono (fun _ h => List.mem_append_left [keyOf .badEntry 0 0] h) fun _ h => h
  · exact Op.within_frame (o := .put ..) s (List.mem_cons_of_mem _ (List.mem_singleton_self (keyOf .badEntry 0 0)))
  · exact Frame.refl ..

theorem refusedEffect_granted {p : Path} {v : Verdict} (h : v.st ≠ .keyWrong) (s : State) (q : Path) :
    ((refusedEffect p v).run s).granted q = s.granted q := by
  refine granted_congr ?_ q
  unfold refusedEffect
  split
  · next g => exact absurd g h
  · exact State.rd_put_other _ s (by decide +kernel)
  · rfl

/-- A named write that a check refuses, with the effect of the refusal. -/
theorem writeRow_bad {s : State} {p : Path} {e : Ent} {w : U32} {st : Status} (h : Refuses s p e w st) :
    (writeRow p e w).run s = (refuse p st e.index e.sub).run ((refusedEffect p (verdict s { path := p, ents := [(e, w)] })).run s) := by
  have hw := writeEnt_refused (o := .plain) h.bad h.notOk
  have hf : Frame ([keyOf .levelGranted 0 0, keyOf .badEntry 0 0] ++ refusalKeys p) (.ports :: reporting) s ((writeEnt p .plain e w).run s) := by
    rw [hw]
    exact ((refusedEffect_frame p _ s).mono (fun _ => List.mem_append_left _) fun _ => List.mem_cons_of_mem _).trans
      ((refuse_frame ..).mono (fun _ => List.mem_append_right _) (by decide))
  rw [writeRow_run e w h.live h.up, settled_run_frame h.noHeld hf (by decide), hw]

/-- An entry outside the expert range needs no grant. -/
theorem stepLevel_open {e : Ent} (h : isExpert e = false) (s : State) (p : Path) : stepLevel s p e = .ok :=
  stepLevel_passes fun g => by rw [h] at g; exact Bool.noConfusion g.1

theorem stepMode_free {e : Ent} (h : accessOf e ≠ .rwp) (hr : e.name ≠ .restoreDefaults) (hl : e.name ≠ .lcAdvance) (s : State) :
    stepMode s e = .ok := by
  simp only [stepMode, h, hr, hl, decide_false, Bool.or_false, Bool.not_false, Bool.or_true]
  rfl

theorem stepFence_up {e : Ent} {i : Nat} (h : e.holder = some i) {s : State} (hf : s.fenced i = false) : stepFence s e = .ok :=
  (stepFence_iff s e).2 fun ⟨k, hk, hx⟩ => by
    cases h.symm.trans hk
    exact Bool.noConfusion (hf.symm.trans hx)

/-- A value that is neither 0 nor the key is refused with KEY_WRONG (R71). -/
theorem verdict_keyWrong {s : State} {p : Path} {w : U32} (hp : p ≠ .p6) (hf : s.fenced islHost = false) (h0 : w ≠ 0)
    (hk : w ≠ Config.levelKey) : (verdict s { path := p, ents := [({ name := .levelKey }, w)] }).st = .keyWrong := by
  have hv : coreValue p .levelKey 0 w = .keyWrong := by
    rw [coreValue, decide_eq_false h0, decide_eq_false hk]
    rfl
  have hfree : ¬ Ent.Claimed s p { name := .levelKey } := fun ⟨u, hu, _⟩ => nomatch hu
  rw [verdict_windowed (by decide) (by decide) (by decide), show stepAccess _ = .ok from rfl, stepLevel_open (by decide),
    (stepClaim_iff hp (by decide)).2 hfree, stepFence_up rfl hf, stepMode_free (by decide) (by decide) (by decide)]
  simp only [islandChecks, firstBad_cons, stepEpoch, stepValue, if_true, stepWidth, hv]
  rfl

theorem claim_open (u : Fin 56) : isExpert { name := .claim, item := u } = false := by
  revert u
  decide

theorem claim_index (u : Fin 56) : ({ name := .claim, item := u } : Ent).index = 0x2001 ∧ ({ name := .claim, item := u } : Ent).sub = u + 1 := by
  revert u
  decide

/-- A unit that another path holds refuses every claim but an expert path's release (R89, R90). -/
theorem verdict_claimed {s : State} {p : Path} {u : Fin 56} {w : U32} (hp : p ≠ .p6) (h0 : s.rdN .claim 0 u ≠ 0xFF)
    (hk : s.rdN .claim 0 u ≠ p.num) (hw : w ≠ 0xFF ∨ s.granted p = false) :
    (verdict s { path := p, ents := [({ name := .claim, item := u }, w)] }).st = .claimed := by
  have hh : s.heldByOther p (u + 1) = true := heldByOther_iff.mpr ⟨h0, hk⟩
  have hc : stepClaim s p { name := .claim, item := u } w = .claimed := by
    have hb : (decide (w = 0xFF) && s.granted p) = false := by 
      rcases hw with h | h
      · rw [decide_eq_false h]; rfl
      · rw [h, Bool.and_false]
    simp only [stepClaim, hp, if_false, hh, hb]
    rfl
  rw [verdict_windowed rfl rfl (by rintro ⟨⟩), show stepAccess _ = .ok from rfl, stepLevel_open (claim_open u), hc]
  rfl

end Sys2Proof.Machine
end

section
/-! PROOF. Wrong keys (O12) and claimed units (O13). -/
namespace Sys2Proof.Proofs

-- One proof at a time: a thread for each would need more memory than a check has.
set_option Elab.async false

open Sys2Proof.Machine Prog

/-- Settles O12: the grant is cleared before the refusal is recorded, and no other refusal reaches it. -/
theorem wrongKeysClearTheGrant : Obligations.WrongKeysClearTheGrant := by
  unfold Obligations.WrongKeysClearTheGrant
  refine ⟨fun p v s hp hl hu hf h3 h4 h5 h0 hk => ?_, fun p v s st hst h => ?_⟩
  · have hv := verdict_keyWrong hp hf h0 hk
    refine ⟨_, rfl, ?_⟩
    rw [writeRow_bad ⟨hl, hu, hv, by decide, h3, h4, h5⟩]
    refine ⟨?_, refuse_rd_lastStatus ..⟩
    rw [granted_congr (refuse_rd (levelGranted_notin p) ..), refusedEffect, hv]
    exact setGrant_clears hp s
  · refine ⟨_, rfl, fun q => ?_⟩
    rw [writeRow_bad h, granted_congr (refuse_rd (levelGranted_notin p) ..), refusedEffect_granted (h.bad.symm ▸ hst)]

/-- Settles O13: the claim check stands before that of the value. -/
theorem claimedUnitsAreRefused : Obligations.ClaimedUnitsAreRefused := by
  unfold Obligations.ClaimedUnitsAreRefused
  intro p u s hp hl hu hf h3 h4 h5 h0 hk
  have hrefused {w : U32} (hw : w ≠ 0xFF ∨ s.granted p = false) : let t := (writeRow p { name := .claim, item := u } w).run s
      t.rd .claim 0 u = s.rd .claim 0 u
      ∧ t.rd .lastStatus 0 p.num = u32 (Status.claimed.code * 0x1000000 + 0x2001 * 0x100 + (u + 1)) := by
    obtain ⟨hi, hj⟩ := claim_index u
    simp only [writeRow_refused ⟨hl, hu, verdict_claimed hp h0 hk hw, by decide, h3, h4, h5⟩ (by decide), hi, hj]
    exact ⟨refuse_rd (claim_notin p u) .., refuse_rd_lastStatus ..⟩
  have hwide {v : BitVec 8} (hv : v ≠ 0xFF) : v.setWidth 32 ≠ (0xFF : U32) := by bv_omega
  exact ⟨fun v hv => ⟨_, rfl, hrefused (.inl (hwide hv))⟩, fun hg => ⟨_, rfl, hrefused (.inr hg)⟩⟩

end Sys2Proof.Proofs
end

section
/-! PROOF. Refutations: a command record that changes the size of the ring (O51), and QSPI_ERR from the parallel port (O53). -/
namespace Sys2Proof.Proofs

-- One proof at a time: a thread for each would need more memory than a check has.
set_option Elab.async false

open Sys2Proof.Machine Prog

/-- The X9 in service with a write held by PAR_WAIT_N on P1. -/
def heldWrite : State := (Op.port 1 { waiting := some (.write 0x2000 5 1) }).apply { State.reset with phase := .live }

/-- P1 reads QSPI_ERR while its own strobe holds a write: the write is dropped and refused, so LAST_STATUS of P1 changes. -/
theorem heldWrite_qspiErrRead : ∃ t, exec (.qspiErrRead .p1) heldWrite = .next t ∧ t.rd .lastStatus 0 1 ≠ heldWrite.rd .lastStatus 0 1 :=
  ⟨_, rfl, by decide +kernel⟩

/-- Refutes O53: QSPI_ERR_READ from P1 ends a strobe that PAR_WAIT_N holds (R871), and the BUSY of the dropped write stands in
LAST_STATUS of P1, which the frame of the row leaves out. -/
theorem not_serialPortAndWindowRowsComplete : ¬ Obligations.SerialPortAndWindowRowsComplete := by
  unfold Obligations.SerialPortAndWindowRowsComplete
  rintro ⟨-, -, h⟩
  obtain ⟨t, ht, -, hf⟩ := (h heldWrite (by decide +kernel)).2.2.1 .p1
  obtain ⟨u, hu, hne⟩ := heldWrite_qspiErrRead
  cases ht.symm.trans hu
  exact hne (hf.1 .lastStatus 0 1 (by decide +kernel))

/-- The command ring is off, a fetched record is outstanding, and the next completion belongs to slot 2 of 256. -/
def ringOff : State :=
  { (Op.put .cplHead 0 0 2).apply ((Op.put .linkStatus 0 0 0x3013).apply { State.reset with phase := .live }) with ring := { fetching := true } }

/-- A WRITE of CMD_LOG2 to 1. -/
def resizeRecord : CmdRecord :=
  { hostSeq := 0, opcode := 2, flags := 0, index := 0x2C00, sub := 3, length := 4, expEpoch := 0, data := [1, 0, 0, 0] }

/-- The address that the statement names for the completion: slot 2 of the ring as it was. -/
def slotBefore : Nat := ringOff.host64 .cplBase + 64 * (ringOff.rdN .cplHead % 2 ^ ringOff.rdN .cmdLog2)

/-- The write that the record makes. -/
def resizeWrite : WriteReq :=
  { path := .p0, hostSeq := some resizeRecord.hostSeq.toNat, exp := resizeRecord.exp, lenSt := resizeRecord.lengthStatus,
    ents := [({ name := .cmdLog2 }, u32 (resizeRecord.dataAt 0 4))] }

theorem resize_accepted : ReadyFor ringOff .p0 ∧ resizeRecord.hostSeq.toNat = (ringOff.rdN .lastHostSeq 0 Path.p0.num + 1) % 65536
    ∧ lookupRun .p0 resizeRecord.index.toNat resizeRecord.sub.toNat resizeRecord.count = .ok [{ name := .cmdLog2 }]
    ∧ (verdict ringOff resizeWrite).st = .ok := by
  unfold ReadyFor
  exact ⟨by decide +kernel, by decide +kernel, rfl, by decide +kernel⟩

/-- Whether an output writes a host address other than a given one, if any. -/
def sparesSlot (a : Nat) (o : Output) : Bool := match o with | .hostWrite b _ => b ≠ a | _ => true

/-- Nothing is written to the slot that the ring had before it was made smaller. -/
theorem resize_slot {t : State} (h : exec (.write .p0 resizeRecord) ringOff = .next t) : t.out.all (sparesSlot slotBefore) = true := by
  have hx : (match exec (.write .p0 resizeRecord) ringOff with | .next t => t.out.all (sparesSlot slotBefore) | _ => false) = true := by
    decide +kernel
  rwa [h] at hx

/-- Refutes O51: a record from the ring that writes CMD_LOG2 is completed in the ring of the size it has set, not in the slot of the
ring as it was. -/
theorem not_recordWritesComplete : ¬ Obligations.RecordWritesComplete := by
  unfold Obligations.RecordWritesComplete
  intro h
  obtain ⟨hr, hq, hl, hv⟩ := resize_accepted
  obtain ⟨t, ht, hc, -⟩ := (h .p0 ringOff resizeRecord hr hq).1 [{ name := .cmdLog2 }] rfl (by decide) hl (by decide) hv
  obtain ⟨-, -, hring⟩ := hc
  obtain ⟨o, ho, hx⟩ := List.any_eq_true.mp (hring rfl (by decide +kernel)).2
  have hn := List.all_eq_true.mp (resize_slot ht) o ho
  cases o <;> simp only [Bool.false_eq_true, Bool.and_eq_true, decide_eq_true_eq] at hx
  case hostWrite a b => exact of_decide_eq_true hn hx.1

end Sys2Proof.Proofs
end

section
/-! SUPPORT. What a lookup finds. -/
namespace Sys2Proof.Machine

-- One proof at a time: a thread for each would need more memory than a check has.
set_option Elab.async false

open Prog

/-- The place that a row gives an index and a sub-index is the one that they are computed from. -/
theorem Row.find_some {r : Row} {idx sub j i : Nat} (h : r.find idx sub = some (j, i)) :
    j < r.count ∧ i < r.subCount ∧ r.base + r.stride * j = idx ∧ r.subLo + r.subStep * i = sub := by
  have hm : r.subStep * ((sub - r.subLo) / r.subStep) + (sub - r.subLo) % r.subStep = sub - r.subLo := Nat.div_add_mod _ _
  by_cases hc : r.count = 1
  · simp only [Row.find, hc, if_true] at h
    split at h
    case isFalse => exact nomatch h
    case isTrue g =>
      obtain ⟨hb, hj, hd, hs, hx, hi⟩ := g
      cases h
      exact ⟨hc ▸ hj, hi, by omega, by omega⟩
  · simp only [Row.find, hc, if_false] at h
    split at h
    case isFalse => exact nomatch h
    case isTrue g =>
      obtain ⟨hb, hj, hd, hs, hx, hi⟩ := g
      cases h
      exact ⟨hj, hi, by omega, by omega⟩

theorem listedIn_some {l : List Name} {idx sub : Nat} {e : Ent} (h : listedIn l idx sub = some e) :
    e.name ∈ l ∧ (rowOf e.name).find idx sub = some (e.inst, e.item) := by
  obtain ⟨n, hn, hf⟩ := List.exists_of_findSome?_eq_some h
  obtain ⟨⟨j, i⟩, hp, rfl⟩ := Option.map_eq_some_iff.mp hf
  exact ⟨hn, hp⟩

theorem indexOf_listed {n : Name} (h : n ≠ .highestSub) (j : Nat) : indexOf n j = (rowOf n).base + (rowOf n).stride * j := by
  unfold indexOf
  split
  · exact absurd rfl h
  · rfl

/-- An entry that a lookup finds in a table lies at the index and sub-index asked for, within its row. -/
theorem lookup_listed {idx sub : Nat} {e : Ent} (h : lookup idx sub = .ok e) (hn : e.name ≠ .highestSub) :
    e.inst < (rowOf e.name).count ∧ e.item < (rowOf e.name).subCount ∧ e.index = idx ∧ e.sub = sub := by
  unfold lookup at h
  split at h
  case h_1 f hf =>
    cases h
    obtain ⟨hj, hi, hx, hs⟩ := Row.find_some (listedIn_some hf).2
    exact ⟨hj, hi, (indexOf_listed hn _).trans hx, hs⟩
  case h_2 =>
    split at h
    case isTrue =>
      split at h
      · cases h; exact absurd rfl hn
      · exact nomatch h
    case isFalse => exact nomatch h

end Sys2Proof.Machine
end

section
/-! SUPPORT. The SDO server of CAN-A: its requests and its answers. -/
namespace Sys2Proof.Machine

-- One proof at a time: a thread for each would need more memory than a check has.
set_option Elab.async false

open Prog

/-- The frame of an answer on the SDO channel. -/
def State.sdoFrame (s : State) (b : List Byte) : Output := .can 0 (0x580 + s.rdN .nodeIdNow 0) ((b ++ List.replicate 8 0).take 8)

/-- Between two states one answer was sent on the SDO channel, and nothing else. -/
def SdoSays (s t : State) (b : List Byte) : Prop := t.out = s.sdoFrame b :: s.out

theorem canUp_of_canServe {s : State} {x : Nat} (h : s.canServe x = true) : s.canUp x = true := by
  simp only [State.canServe, State.canOn, Bool.and_eq_true] at h
  obtain ⟨⟨⟨⟨hf, hb⟩, hr⟩, hi⟩, -⟩ := h
  simp only [State.canUp, hf, hi, hb, hr, Bool.and_self]

/-- Whether a controller can send depends on its node-ID, its bus state, the fence of NET and its resumption. -/
theorem canUp_congr {s t : State} {x : Nat} (hi : t.rd .nodeIdNow x = s.rd .nodeIdNow x) (hb : t.rd .busState x = s.rd .busState x)
    (hf : t.islands = s.islands) (hr : (t.ctrl x).resume = (s.ctrl x).resume) : t.canUp x = s.canUp x := by
  have hx : t.fenced islNet = s.fenced islNet := by rw [State.fenced, State.fenced, State.island, State.island, hf]
  simp only [State.canUp, State.rdN, hx, hi, hb, hr]

theorem sdoSend_run {s : State} (h : s.canUp 0 = true) (b : List Byte) : (sdoSend b).run s = (Op.output (s.sdoFrame b)).apply s := by
  simp only [sdoSend, canSend, run_ask, run_when, h, if_true]
  rfl

/-- The controller's record changes and an answer is sent. -/
theorem sdoAnswer {s : State} (h : s.canUp 0 = true) {f : Ctrl → Ctrl} (hf : (f (s.ctrl 0)).resume = (s.ctrl 0).resume) (b : List Byte) :
    let t := (sdoSend b).run ((modCtrl 0 f).run s)
    t.ctrl 0 = f (s.ctrl 0) ∧ SdoSays s t b ∧ Frame [] [.ctrls, .out] s t := by
  have hu : ((modCtrl 0 f).run s).canUp 0 = true := by rw [← h]; exact canUp_congr rfl rfl rfl (by rw [modCtrl_ctrl, hf])
  simp only [sdoSend_run hu]
  exact ⟨modCtrl_ctrl 0 f s, rfl, ((modCtrl_frame 0 f s).mono (fun _ h => h) (by decide)).trans
    (Prog.run_frame (p := output _) (fun x hx => List.mem_cons_of_mem _ hx) _)⟩

/-- The transfer in progress ends, and an answer is sent. -/
theorem endXfer_answer {s : State} (h : s.canUp 0 = true) (b : List Byte) :
    let t := (sdoSend b).run ((endXfer 0).run s)
    t.ctrl 0 = { s.ctrl 0 with xfer := none } ∧ SdoSays s t b ∧ Frame [] [.ctrls, .out] s t :=
  sdoAnswer h (f := fun c => { c with xfer := none }) rfl b

theorem canPath_keys : keyOf .nodeIdNow 0 0 ∉ [keyOf .lastStatus 0 3] ∧ keyOf .busState 0 0 ∉ [keyOf .lastStatus 0 3] := ⟨by decide, by decide⟩

theorem refuse_p3_frame (st : Status) (i j : Nat) (s : State) : Frame [keyOf .lastStatus 0 3] [] s ((refuse .p3 st i j).run s) :=
  refuse_canPath_frame 0 st i j s

theorem refuse_p3_rd (st : Status) (i j : Nat) (s : State) :
    ((refuse .p3 st i j).run s).rd .lastStatus 0 3 = u32 (st.code * 0x1000000 + i * 0x100 + j) := by
  have h := refuse_rd_lastStatus .p3 st i j s
  rwa [show Path.p3.num = 3 from rfl] at h

theorem sdoRefuse_run (i j : Nat) (st : Status) (s : State) : (sdoRefuse i j st).run s =
    (sdoSend (sdoHead 0x80 i j ++ leBytes 4 st.abort)).run ((endXfer 0).run ((refuse .p3 st i j).run s)) := by
  rw [sdoRefuse, run_seq, sdoFail, run_seq, sdoAbort]

/-- A refusal ends the transfer with an abort of its code. -/
theorem sdoRefuse_answer {s : State} (h : s.canUp 0 = true) (i j : Nat) (st : Status) :
    let t := (sdoRefuse i j st).run s
    t.ctrl 0 = { s.ctrl 0 with xfer := none } ∧ SdoSays s t (sdoHead 0x80 i j ++ leBytes 4 st.abort)
      ∧ t.rd .lastStatus 0 3 = u32 (st.code * 0x1000000 + i * 0x100 + j) ∧ Frame [keyOf .lastStatus 0 3] [.ctrls, .out] s t := by
  have hr := refuse_p3_frame st i j s
  have hk : ((refuse .p3 st i j).run s).ctrl 0 = s.ctrl 0 := hr.ctrl (by simp) 0
  have hu : ((refuse .p3 st i j).run s).canUp 0 = true := by
    rw [← h]
    exact canUp_congr (hr.1 .nodeIdNow 0 0 canPath_keys.1) (hr.1 .busState 0 0 canPath_keys.2) (hr.2 .islands (by simp)) (by rw [hk])
  obtain ⟨hc, ho, hf⟩ := endXfer_answer hu (sdoHead 0x80 i j ++ leBytes 4 st.abort)
  rw [hk] at hc
  simp only [sdoRefuse_run]
  refine ⟨hc, ?_, (hf.1 .lastStatus 0 3 (by simp)).trans (refuse_p3_rd st i j s),
    (hr.mono (fun _ h => h) (by simp)).trans (hf.mono (by simp) fun _ h => h)⟩
  have hw : ((refuse .p3 st i j).run s).out = s.out := hr.2 .out (by simp)
  rw [SdoSays, State.sdoFrame, State.rdN, hr.1 .nodeIdNow 0 0 canPath_keys.1, hw] at ho
  exact ho

section
variable {s : State} (hl : s.live = true) (hs : s.canServe 0 = true) (hn : NoHeld s)
include hl hs hn

theorem inSdo_run {p : Prog} {W : List Nat} {L : List Part} (hf : Frame W L s (p.run s)) (hL : .cmds ∉ L) : (inSdo p).run s = p.run s := by
  simp only [inSdo, Prog.live, run_ask, run_when, hl, hs, if_true]
  exact settled_run_frame hn hf hL

/-- A request on the SDO channel is served. -/
theorem sdo_answers {c : Instr} {p : Prog} {P : State → Prop} {W : List Nat} {L : List Part} (hx : exec c s = .next ((inSdo p).run s))
    (hf : Frame W L s (p.run s)) (hL : .cmds ∉ L) (hP : P (p.run s)) : Answers c s P :=
  ⟨_, hx.trans (congrArg _ (inSdo_run hl hs hn hf hL)), hP⟩

end

end Sys2Proof.Machine
end

section
/-! SUPPORT. Uploads: what an upload returns, and how the servers of CAN-A and CAN-B give it. -/
namespace Sys2Proof.Machine

-- One proof at a time: a thread for each would need more memory than a check has.
set_option Elab.async false

open Prog

theorem uploadOf_error {s : State} {p : Path} {i j : Nat} {st : Status} (h : lookup i j = .error st) : s.uploadOf p i j = .error st := by
  simp only [State.uploadOf, h]

/-- The upload of a windowed entry is its value in the entry's size. -/
theorem uploadOf_windowed {s : State} {p : Path} {i j : Nat} {e : Ent} (h : lookup i j = .ok e) (hp : notForPath p e = false)
    (hd : isDomain e = false) : s.uploadOf p i j = .ok (e, bytesOf e (s.uploadValue p e), 0) := by
  simp only [State.uploadOf, h, hp, hd, Bool.false_eq_true, if_false]

theorem uploadOf_ok {s : State} {p : Path} {i j : Nat} {r : Ent × List Byte × Nat} (h : s.uploadOf p i j = .ok r) : lookup i j = .ok r.1 := by
  unfold State.uploadOf at h
  split at h
  case h_1 => exact nomatch h
  case h_2 e he =>
    split at h
    · exact nomatch h
    · split at h
      · split at h
        · exact nomatch h
        · cases h; exact he
      · cases h; exact he

/-- A windowed entry has one to four bytes. -/
theorem windowed_bytes {e : Ent} (hd : isDomain e = false) : 1 ≤ (typeOf e).bytes ∧ (typeOf e).bytes ≤ 4 := by
  have h : typeOf e ≠ .dom ∧ typeOf e ≠ .str := by
    unfold typeOf
    split
    · exact ⟨nofun, nofun⟩
    · simpa [isDomain] using hd
  revert h
  cases typeOf e <;> decide

theorem uploadValue_eq (s : State) (p : Path) (e : Ent) : s.uploadValue p e =
    if s.fenced islHost = true ∧ s.absent e = false then s.readEnt p e else s.windowRead p e := by
  simp only [State.uploadValue, Bool.and_eq_true, Bool.not_eq_true']

/-- The entries that a read clears (R682, R691). -/
def clearedBy (e : Ent) : List Nat := if e.name ∈ [.parErr, .qspiErr] then [e.key] else []

theorem readEffect_within {i j : Nat} {e : Ent} (h : lookup i j = .ok e) : (readEffect e).All (Op.within (clearedBy e) [.ports]) := by
  obtain ⟨n, x, y⟩ := e
  unfold readEffect
  split
  case h_1 hn =>
    obtain rfl : n = .parErr := hn
    obtain ⟨hx, hy, -, -⟩ := lookup_listed h nofun
    obtain rfl : x = 0 := Nat.lt_one_iff.mp hx
    obtain rfl : y = 0 := Nat.lt_one_iff.mp hy
    exact ⟨.head _, fun _ => by simp [Op.within, Op.touches]⟩
  case h_2 hn =>
    obtain rfl : n = .qspiErr := hn
    obtain ⟨hx, hy, -, -⟩ := lookup_listed h nofun
    obtain rfl : x = 0 := Nat.lt_one_iff.mp hx
    obtain rfl : y = 0 := Nat.lt_one_iff.mp hy
    exact .head _
  case h_3 => trivial

theorem readEffect_frame {i j : Nat} {e : Ent} (h : lookup i j = .ok e) (s : State) :
    Frame (clearedBy e) [.ports] s ((readEffect e).run s) := Prog.run_frame (readEffect_within h) s

theorem mem_clearedBy {i j k : Nat} {e : Ent} (h : lookup i j = .ok e) (hk : k ∈ clearedBy e) : k ∈ [keyOf .parErr 0 0, keyOf .qspiErr 0 0] := by
  obtain ⟨n, x, y⟩ := e
  unfold clearedBy at hk
  split at hk
  case isTrue hn =>
    simp only [List.mem_cons, List.not_mem_nil, or_false] at hn hk ⊢
    subst hk
    rcases hn with rfl | rfl
    all_goals
      obtain ⟨hx, hy, -, -⟩ := lookup_listed h nofun
      obtain rfl : x = 0 := Nat.lt_one_iff.mp hx
      obtain rfl : y = 0 := Nat.lt_one_iff.mp hy
    · exact .inl rfl
    · exact .inr rfl
  case isFalse => exact absurd hk List.not_mem_nil

theorem clearedBy_can {i j : Nat} {e : Ent} (h : lookup i j = .ok e) : keyOf .nodeIdNow 0 0 ∉ clearedBy e ∧ keyOf .busState 0 0 ∉ clearedBy e :=
  ⟨fun g => absurd (mem_clearedBy h g) (by decide), fun g => absurd (mem_clearedBy h g) (by decide)⟩

/-- An answer is sent after changes that leave what a controller needs to send. -/
theorem sdoSend_after {s u : State} {W : List Nat} {L : List Part} (hu : s.canUp 0 = true) (hf : Frame W L s u)
    (hW : keyOf .nodeIdNow 0 0 ∉ W ∧ keyOf .busState 0 0 ∉ W) (hi : .islands ∉ L) (hr : (u.ctrl 0).resume = (s.ctrl 0).resume)
    (b : List Byte) : (sdoSend b).run u = (Op.output (s.sdoFrame b)).apply u := by
  have hn := hf.1 .nodeIdNow 0 0 hW.1
  rw [sdoSend_run ((canUp_congr hn (hf.1 .busState 0 0 hW.2) (hf.2 .islands hi) hr).trans hu), State.sdoFrame, State.rdN, hn]
  rfl

theorem output_frame (o : Output) (s : State) : Frame [] [.out] s ((Op.output o).apply s) := Op.within_frame s fun _ h => h

/-! ### The rows of CAN-A -/

theorem uploadInit_run_error {s : State} {i j : Nat} {st : Status} (h : s.uploadOf .p3 i j = .error st) :
    (uploadInit i j).run s = (sdoRefuse i j st).run s := by simp only [uploadInit, run_ask, h]

theorem uploadInit_run_long {s : State} {i j pop : Nat} {e : Ent} {b : List Byte} (h : s.uploadOf .p3 i j = .ok (e, b, pop))
    (hb : ¬ (1 ≤ b.length ∧ b.length ≤ 4)) : (uploadInit i j).run s =
      (sdoSend (sdoHead 0x41 i j ++ leBytes 4 b.length)).run ((modCtrl 0 fun c => { c with xfer := some (.up i j b false pop) }).run s) := by
  simp only [uploadInit, run_ask, h, hb, if_false, run_seq]

theorem uploadInit_run_short {s : State} {i j : Nat} {e : Ent} {b : List Byte} (h : s.uploadOf .p3 i j = .ok (e, b, 0))
    (hb : 1 ≤ b.length ∧ b.length ≤ 4) : (uploadInit i j).run s =
      (readEffect e).run ((sdoSend (sdoHead (0x43 + 4 * (4 - b.length)) i j ++ b)).run ((endXfer 0).run s)) := by
  simp only [uploadInit, run_ask, h, hb, and_self, if_true, all_cons, all_nil, run_seq, run_nop, popUpload]

/-- The control byte of an upload segment that is not the last. -/
theorem segment_byte (tg : Bool) : 16 * bit01 tg + 2 * (7 - 7) + bit01 false = if tg then 0x10 else 0 := by cases tg <;> rfl

/-- A completion that has been uploaded whole is read: the state differs in the lists of completions alone. -/
def Popped (s t : State) (p pop : Nat) : Prop := (pop = 1 → t.unread p = (s.unread p).drop 1 ∧ t.fwdIns = s.fwdIns)
  ∧ (pop = 2 → t.fwdIn p = (s.fwdIn p).drop 1 ∧ t.unreads = s.unreads) ∧ (pop = 0 → t.unreads = s.unreads ∧ t.fwdIns = s.fwdIns)

theorem popUpload_popped (pop : Nat) (u : State) : Popped u ((popUpload .p3 pop).run u) 3 pop ∧ Frame [] [.unreads, .fwdIns] u ((popUpload .p3 pop).run u) := by
  unfold popUpload
  split
  · exact ⟨⟨fun _ => ⟨Store.get_put_same .., rfl⟩, nofun, nofun⟩, Op.within_frame (o := .unread ..) u fun _ h => List.mem_append_left (as := [Part.unreads]) [.fwdIns] h⟩
  · exact ⟨⟨nofun, fun _ => ⟨Store.get_put_same .., rfl⟩, nofun⟩, Op.within_frame (o := .fwdIn ..) u fun _ h => List.mem_cons_of_mem _ h⟩
  · next h1 h2 => exact ⟨⟨fun h => absurd h h1, fun h => absurd h h2, fun _ => ⟨rfl, rfl⟩⟩, Frame.refl ..⟩

theorem leBytes_one (x : Nat) : leBytes 1 x = [BitVec.ofNat 8 x] := by rw [leBytes_succ]; rfl

theorem leBytes_two (x : Nat) : leBytes 2 x = [BitVec.ofNat 8 x, BitVec.ofNat 8 (x / 256)] := by rw [leBytes_succ, leBytes_one]

theorem sdoHead_eq (cs i j : Nat) : sdoHead cs i j = [BitVec.ofNat 8 cs, BitVec.ofNat 8 i, BitVec.ofNat 8 (i / 256), BitVec.ofNat 8 j] := by
  simp only [sdoHead, leBytes_one, leBytes_two, List.cons_append, List.nil_append]

theorem leNat_pair {x : Nat} (h : x < 65536) : leNat [BitVec.ofNat 8 x, BitVec.ofNat 8 (x / 256)] = x := by
  rw [← leBytes_two]
  exact leNat_leBytes 2 x h

/-- The control byte of a block upload that begins. -/
theorem upload_control (crc : Bool) : let x := (BitVec.ofNat 8 (0xA0 + if crc then 4 else 0) : Byte).toNat
    x / 32 = 5 ∧ x % 4 = 0 ∧ bitAt x 2 = crc := by
  cases crc <;> decide

/-- An answer in several frames. -/
theorem sdoSends_run (l : List (List Byte)) {u : State} (h : u.canUp 0 = true) :
    ((each l sdoSend).run u).out = l.reverse.map u.sdoFrame ++ u.out ∧ Frame [] [.out] u ((each l sdoSend).run u) := by
  induction l generalizing u with
  | nil => exact ⟨rfl, Frame.refl ..⟩
  | cons b l ih =>
    rw [each_cons, run_seq, sdoSend_run h]
    obtain ⟨ho, hf⟩ := ih (u := (Op.output (u.sdoFrame b)).apply u) h
    refine ⟨?_, (output_frame _ u).trans hf⟩
    rw [ho, List.reverse_cons, List.map_append, List.append_assoc]
    rfl

/-- The frames of a block follow a change of the transfer. -/
theorem sdoBlock_sends {s : State} (hs : s.canServe 0 = true) (x : Xfer) (l : List (List Byte)) :
    let t := (each l sdoSend).run ((modCtrl 0 fun c => { c with xfer := some x }).run s)
    t.ctrl 0 = { s.ctrl 0 with xfer := some x } ∧ t.out = l.reverse.map s.sdoFrame ++ s.out ∧ Frame [] [.ctrls, .out] s t := by
  have hu : ((modCtrl 0 fun c => { c with xfer := some x }).run s).canUp 0 = true := by
    rw [← canUp_of_canServe hs]
    exact canUp_congr rfl rfl rfl (by rw [modCtrl_ctrl])
  obtain ⟨ho, hf⟩ := sdoSends_run l hu
  exact ⟨(hf.ctrl (by decide) 0).trans (modCtrl_ctrl 0 _ s), ho,
    ((modCtrl_frame 0 _ s).mono (fun _ h => h) (by decide)).trans (hf.mono (fun _ h => h) (by decide))⟩

section
variable {s : State} (hl : s.live = true) (hs : s.canServe 0 = true) (hn : NoHeld s)
include hl hs hn

theorem sdoUpload_refused (idx : BitVec 16) (sub : Byte) {st : Status} (h : lookup idx.toNat sub.toNat = .error st) :
    Answers (.sdoUploadInitiate idx sub) s fun t => (t.ctrl 0).xfer = none
      ∧ SdoSays s t (sdoHead 0x80 idx.toNat sub.toNat ++ leBytes 4 st.abort)
      ∧ t.rd .lastStatus 0 3 = u32 (st.code * 0x1000000 + idx.toNat * 0x100 + sub.toNat) ∧ Frame [keyOf .lastStatus 0 3] [.ctrls, .out] s t := by
  obtain ⟨hc, ho, hr, hf⟩ := sdoRefuse_answer (canUp_of_canServe hs) idx.toNat sub.toNat st
  rw [← uploadInit_run_error (uploadOf_error h)] at hc ho hr hf
  exact sdo_answers hl hs hn rfl hf (by decide) ⟨by rw [hc], ho, hr, hf⟩

theorem sdoUpload_windowed (idx : BitVec 16) (sub : Byte) {e : Ent} (h : lookup idx.toNat sub.toNat = .ok e) (hp : notForPath .p3 e = false)
    (hd : isDomain e = false) : Answers (.sdoUploadInitiate idx sub) s fun t => (t.ctrl 0).xfer = none
      ∧ SdoSays s t (sdoHead (0x43 + 4 * (4 - (typeOf e).bytes)) idx.toNat sub.toNat ++ leBytes (typeOf e).bytes (s.uploadValue .p3 e).toNat)
      ∧ Frame (clearedBy e) [.ctrls, .out, .ports] s t := by
  have hb : (bytesOf e (s.uploadValue .p3 e)).length = (typeOf e).bytes := leBytes_length _ _
  have hrun := uploadInit_run_short (uploadOf_windowed (p := .p3) h hp hd) (by rw [hb]; exact windowed_bytes hd)
  obtain ⟨hc, ho, hf⟩ := endXfer_answer (canUp_of_canServe hs)
    (sdoHead (0x43 + 4 * (4 - (bytesOf e (s.uploadValue .p3 e)).length)) idx.toNat sub.toNat ++ bytesOf e (s.uploadValue .p3 e))
  rw [hb] at hrun hc ho hf
  have hr := readEffect_frame h ((sdoSend (sdoHead (0x43 + 4 * (4 - (typeOf e).bytes)) idx.toNat sub.toNat
    ++ bytesOf e (s.uploadValue .p3 e))).run ((endXfer 0).run s))
  rw [← hrun] at hr
  have hall := (hf.mono (W' := clearedBy e) (L' := [.ctrls, .out, .ports]) (by simp) (by decide)).trans (hr.mono (fun _ h => h) (by decide))
  refine sdo_answers hl hs hn rfl hall (by decide) ⟨?_, ?_, hall⟩
  · rw [hr.ctrl (by decide) 0, hc]
  · exact (hr.2 .out (by decide)).trans ho

theorem sdoUpload_long (idx : BitVec 16) (sub : Byte) {e : Ent} {b : List Byte} {pop : Nat}
    (h : s.uploadOf .p3 idx.toNat sub.toNat = .ok (e, b, pop)) (hb : ¬ (1 ≤ b.length ∧ b.length ≤ 4)) :
    Answers (.sdoUploadInitiate idx sub) s fun t => t.ctrl 0 = { s.ctrl 0 with xfer := some (.up idx.toNat sub.toNat b false pop) }
      ∧ SdoSays s t (sdoHead 0x41 idx.toNat sub.toNat ++ leBytes 4 b.length) ∧ Frame [] [.ctrls, .out] s t := by
  have hx := sdoAnswer (canUp_of_canServe hs) (f := fun c => { c with xfer := some (.up idx.toNat sub.toNat b false pop) }) rfl
    (sdoHead 0x41 idx.toNat sub.toNat ++ leBytes 4 b.length)
  simp only [← uploadInit_run_long h hb] at hx
  exact sdo_answers hl hs hn rfl hx.2.2 (by decide) hx

/-- A request on the SDO channel, by the state that it leaves. -/
theorem sdo_runs {c : Instr} {p : Prog} {P : State → Prop} {W : List Nat} {L : List Part} {u : State} (hx : exec c s = .next ((inSdo p).run s))
    (hp : p.run s = u) (hf : Frame W L s u) (hL : .cmds ∉ L) (hP : P u) : Answers c s P := by
  subst hp
  exact sdo_answers hl hs hn hx hf hL hP

theorem sdoSegment_toggle {i j pop : Nat} {b : List Byte} {tg : Bool} (h : (s.ctrl 0).xfer = some (.up i j b tg pop)) :
    Answers (.sdoUploadSegment (!tg)) s fun t => (t.ctrl 0).xfer = none ∧ SdoSays s t (sdoHead 0x80 i j ++ leBytes 4 0x05030000)
      ∧ Frame [] [.ctrls, .out] s t := by
  obtain ⟨hc, ho, hf⟩ := endXfer_answer (canUp_of_canServe hs) (sdoHead 0x80 i j ++ leBytes 4 0x05030000)
  refine sdo_runs hl hs hn rfl ?_ hf (by decide) ⟨by rw [hc], ho, hf⟩
  have ht : (!tg) ≠ tg := by cases tg <;> decide
  simp only [run_ask, h, ht, ne_eq, not_false_eq_true, if_true]
  rfl

theorem sdoSegment_more {i j pop : Nat} {b : List Byte} {tg : Bool} (h : (s.ctrl 0).xfer = some (.up i j b tg pop)) (hb : 7 < b.length) :
    Answers (.sdoUploadSegment tg) s fun t => t.ctrl 0 = { s.ctrl 0 with xfer := some (.up i j (b.drop 7) (!tg) pop) }
      ∧ SdoSays s t (leBytes 1 (if tg then 0x10 else 0) ++ b.take 7) ∧ Frame [] [.ctrls, .out] s t := by
  have hrun := sdoSend_run (canUp_of_canServe hs) (leBytes 1 (if tg then 0x10 else 0) ++ b.take 7)
  let u := (Op.output (s.sdoFrame (leBytes 1 (if tg then 0x10 else 0) ++ b.take 7))).apply s
  have hf : Frame [] [.ctrls, .out] s ((modCtrl 0 fun r => { r with xfer := some (.up i j (b.drop 7) (!tg) pop) }).run u) :=
    ((output_frame _ s).mono (fun _ h => h) (by decide)).trans ((modCtrl_frame 0 _ u).mono (fun _ h => h) (by decide))
  refine sdo_runs hl hs hn rfl ?_ hf (by decide) ⟨modCtrl_ctrl 0 _ u, rfl, hf⟩
  have h7 : min 7 b.length = 7 := by omega
  have hc : decide (b.length ≤ 7) = false := by simpa using hb
  simp only [run_ask, h, ne_eq, not_true_eq_false, if_false, h7, hc, all_cons, all_nil, run_seq, run_nop, when_false,
    Bool.false_eq_true]
  rw [segment_byte, hrun]

theorem sdoSegment_last {i j pop : Nat} {b : List Byte} {tg : Bool} (h : (s.ctrl 0).xfer = some (.up i j b tg pop)) (hb : b.length ≤ 7) :
    Answers (.sdoUploadSegment tg) s fun t => t.ctrl 0 = { s.ctrl 0 with xfer := none } ∧ Popped s t 3 pop
      ∧ SdoSays s t (leBytes 1 ((if tg then 0x10 else 0) + 2 * (7 - b.length) + 1) ++ b) ∧ Frame [] [.ctrls, .out, .unreads, .fwdIns] s t := by
  let msg := leBytes 1 ((if tg then 0x10 else 0) + 2 * (7 - b.length) + 1) ++ b
  let u := (endXfer 0).run ((Op.output (s.sdoFrame msg)).apply s)
  have hrun := sdoSend_run (canUp_of_canServe hs) msg
  have hu : Frame [] [.ctrls, .out] s u :=
    ((output_frame _ s).mono (fun _ h => h) (by decide)).trans ((modCtrl_frame 0 _ _).mono (fun _ h => h) (by decide))
  obtain ⟨hp, hf⟩ := popUpload_popped pop u
  have hall := (hu.mono (W' := []) (L' := [.ctrls, .out, .unreads, .fwdIns]) (fun _ h => h) (by decide)).trans (hf.mono (fun _ h => h) (by decide))
  refine sdo_runs hl hs hn rfl ?_ hall (by decide) ⟨(hf.ctrl (by decide) 0).trans (modCtrl_ctrl 0 _ _), hp, hf.2 .out (by decide), hall⟩
  have h7 : min 7 b.length = b.length := by omega
  have hc : decide (b.length ≤ 7) = true := by simpa using hb
  have hby : 16 * bit01 tg + 2 * (7 - b.length) + bit01 true = (if tg then 0x10 else 0) + 2 * (7 - b.length) + 1 := by cases tg <;> rfl
  simp only [run_ask, h, ne_eq, not_true_eq_false, if_false, h7, hc, hby, List.take_length, all_cons, all_nil, run_seq, run_nop, when_true, if_true]
  rw [hrun]
  rfl

theorem sdoBlock_begins {i j : Nat} (hi : i < 65536) (hj : j < 256) (hx : (s.ctrl 0).xfer = none) (crc : Bool) (n : Fin 127)
    {e : Ent} {b : List Byte} {pop : Nat} (h : s.uploadOf .p3 i j = .ok (e, b, pop)) :
    Answers (.sdoBlockUpload (sdoHead (0xA0 + if crc then 4 else 0) i j ++ leBytes 1 (n + 1) ++ [0, 0, 0])) s fun t =>
      t.ctrl 0 = { s.ctrl 0 with xfer := some (.blockUp i j b crc (n + 1) 0 0 pop) }
      ∧ SdoSays s t (sdoHead 0xC6 i j ++ leBytes 4 b.length) ∧ Frame (clearedBy e) [.ctrls, .out, .ports] s t := by
  have he := uploadOf_ok h
  let f : Ctrl → Ctrl := fun c => { c with xfer := some (.blockUp i j b crc (n + 1) 0 0 pop) }
  let u := (readEffect e).run ((modCtrl 0 f).run s)
  have hr := readEffect_frame he ((modCtrl 0 f).run s)
  have hu : Frame (clearedBy e) [.ctrls, .ports] s u :=
    ((modCtrl_frame 0 f s).mono (by simp) (by decide)).trans (hr.mono (fun _ h => h) (by decide))
  have hc : u.ctrl 0 = f (s.ctrl 0) := (hr.ctrl (by decide) 0).trans (modCtrl_ctrl 0 f s)
  have hsend := sdoSend_after (canUp_of_canServe hs) hu (clearedBy_can he) (by decide) (by rw [hc]) (sdoHead 0xC6 i j ++ leBytes 4 b.length)
  have hall : Frame (clearedBy e) [.ctrls, .out, .ports] s ((Op.output (s.sdoFrame (sdoHead 0xC6 i j ++ leBytes 4 b.length))).apply u) :=
    (hu.mono (fun _ h => h) (by decide)).trans ((output_frame _ u).mono (by simp) (by decide))
  refine sdo_runs hl hs hn rfl ?_ hall (by decide) ⟨hc, congrArg (_ :: ·) (hu.2 .out (by decide)), hall⟩
  obtain ⟨h5, h4, h2⟩ := upload_control crc
  have hsize : (decide (1 ≤ n.val + 1) && decide (n.val + 1 ≤ 127)) = true := by
    rw [Bool.and_eq_true, decide_eq_true_eq, decide_eq_true_eq]
    omega
  have hn8 : (BitVec.ofNat 8 (n + 1) : Byte).toNat = n + 1 := by rw [BitVec.toNat_ofNat, Nat.mod_eq_of_lt (by omega)]
  have hj8 : (BitVec.ofNat 8 j : Byte).toNat = j := by rw [BitVec.toNat_ofNat, Nat.mod_eq_of_lt (by omega)]
  simp only [run_ask, hx, sdoHead_eq, leBytes_one, List.cons_append, List.nil_append, List.getD_cons_zero, List.getD_cons_succ,
    List.drop_succ_cons, List.drop_zero, List.take_succ_cons, List.take_zero, leNat_pair hi, h5, h4, h2, hn8, hj8, h, hsize, Bool.not_true, Bool.false_eq_true, ne_eq, not_true_eq_false,
    or_self, if_false, all_cons, all_nil, run_seq, run_nop]
  simpa only [sdoHead_eq, List.cons_append, List.nil_append] using hsend

theorem sdoBlock_starts {i j blk pos pop : Nat} {b : List Byte} {crc : Bool} (h : (s.ctrl 0).xfer = some (.blockUp i j b crc blk pos 0 pop)) :
    Answers (.sdoBlockUpload (0xA3 :: List.replicate 7 0)) s fun t => t.ctrl 0 = { s.ctrl 0 with xfer := some (.blockUp i j b crc blk pos 1 pop) }
      ∧ t.out = (blockSegments b pos blk).reverse.map s.sdoFrame ++ s.out ∧ Frame [] [.ctrls, .out] s t := by
  have hx := sdoBlock_sends hs (.blockUp i j b crc blk pos 1 pop) (blockSegments b pos blk)
  refine sdo_runs hl hs hn rfl ?_ hx.2.2 (by decide) hx
  simp only [run_ask, h]
  rfl

/-- A block has arrived: the transfer goes on behind the bytes that did, or ends where that is all of them. -/
theorem sdoBlock_confirmed {i j blk pos pop : Nat} {b : List Byte} {crc : Bool} (h : (s.ctrl 0).xfer = some (.blockUp i j b crc blk pos 1 pop))
    (got : Byte) (n : Fin 127) : Answers (.sdoBlockUpload ([0xA2, got] ++ leBytes 1 (n + 1) ++ List.replicate 5 0)) s fun t =>
      (b.length ≤ pos + 7 * got.toNat ∧ got ≠ 0 → t.ctrl 0 = { s.ctrl 0 with xfer := some (.blockUp i j b crc blk (pos + 7 * got.toNat) 2 pop) }
        ∧ SdoSays s t (leBytes 1 (0xC1 + 4 * (7 * max 1 ((b.length + 6) / 7) - b.length)) ++ (if crc then leBytes 2 (crc16 b).toNat else [])))
      ∧ (¬ (b.length ≤ pos + 7 * got.toNat ∧ got ≠ 0) →
        t.ctrl 0 = { s.ctrl 0 with xfer := some (.blockUp i j b crc (n + 1) (pos + 7 * got.toNat) 1 pop) }
        ∧ t.out = (blockSegments b (pos + 7 * got.toNat) (n + 1)).reverse.map s.sdoFrame ++ s.out)
      ∧ Frame [] [.ctrls, .out] s t := by
  have hn8 : (BitVec.ofNat 8 (n + 1) : Byte).toNat = n + 1 := by rw [BitVec.toNat_ofNat, Nat.mod_eq_of_lt (by omega)]
  have hsize : (decide (1 ≤ n.val + 1) && decide (n.val + 1 ≤ 127)) = true := by
    rw [Bool.and_eq_true, decide_eq_true_eq, decide_eq_true_eq]
    omega
  have hg : got ≠ 0 ↔ 1 ≤ got.toNat := by
    rw [Nat.one_le_iff_ne_zero]
    exact not_congr ⟨fun g => by rw [g]; rfl, fun g => BitVec.eq_of_toNat_eq g⟩
  by_cases hc : b.length ≤ pos + 7 * got.toNat ∧ 1 ≤ got.toNat
  · have hx := sdoAnswer (canUp_of_canServe hs) (f := fun c => { c with xfer := some (.blockUp i j b crc blk (pos + 7 * got.toNat) 2 pop) }) rfl
      (leBytes 1 (0xC1 + 4 * (7 * max 1 ((b.length + 6) / 7) - b.length)) ++ (if crc then leBytes 2 (crc16 b).toNat else []))
    obtain ⟨h1, h2, h3⟩ := hx
    refine sdo_runs hl hs hn rfl ?_ h3 (by decide) ⟨fun _ => ⟨h1, h2⟩, fun g => absurd ⟨hc.1, hg.mpr hc.2⟩ g, h3⟩
    simp only [run_ask, h, leBytes_one, List.cons_append, List.nil_append, List.getD_cons_zero, List.getD_cons_succ, hn8, hsize, hc,
      Bool.not_true, Bool.false_eq_true, if_false, and_self, if_true]
    rfl
  · have hx := sdoBlock_sends hs (.blockUp i j b crc (n + 1) (pos + 7 * got.toNat) 1 pop) (blockSegments b (pos + 7 * got.toNat) (n + 1))
    obtain ⟨h1, h2, h3⟩ := hx
    refine sdo_runs hl hs hn rfl ?_ h3 (by decide) ⟨fun g => absurd ⟨g.1, hg.mp g.2⟩ hc, fun _ => ⟨h1, h2⟩, h3⟩
    simp only [run_ask, h, leBytes_one, List.cons_append, List.nil_append, List.getD_cons_zero, List.getD_cons_succ, hn8, hsize, hc,
      Bool.not_true, Bool.false_eq_true, if_false]
    rfl

theorem sdoBlock_ends {i j blk pos pop : Nat} {b : List Byte} {crc : Bool} (h : (s.ctrl 0).xfer = some (.blockUp i j b crc blk pos 2 pop)) :
    Answers (.sdoBlockUpload (0xA1 :: List.replicate 7 0)) s fun t =>
      t.ctrl 0 = { s.ctrl 0 with xfer := none } ∧ Popped s t 3 pop ∧ Frame [] [.ctrls, .unreads, .fwdIns] s t := by
  obtain ⟨hp, hf⟩ := popUpload_popped pop ((endXfer 0).run s)
  have hall : Frame [] [.ctrls, .unreads, .fwdIns] s ((popUpload .p3 pop).run ((endXfer 0).run s)) :=
    ((modCtrl_frame 0 _ s).mono (fun _ h => h) (by decide)).trans (hf.mono (fun _ h => h) (by decide))
  refine sdo_runs hl hs hn rfl ?_ hall (by decide) ⟨(hf.ctrl (by decide) 0).trans (modCtrl_ctrl 0 _ s), hp, hall⟩
  simp only [run_ask, h]
  rfl

/-- The oldest completion of CAN-A's path, or the oldest returned one, is announced. -/
theorem channel_upload {c : Instr} {i j pop : Nat} {e : Ent} {b : List Byte} (hx : exec c s = .next ((inSdo (uploadInit i j)).run s))
    (h : s.uploadOf .p3 i j = .ok (e, b, pop)) (hb : b.length = 64) :
    Answers c s fun t => t.ctrl 0 = { s.ctrl 0 with xfer := some (.up i j b false pop) }
      ∧ SdoSays s t (sdoHead 0x41 i j ++ leBytes 4 64) ∧ Frame [] [.ctrls, .out] s t := by
  have hx' := sdoAnswer (canUp_of_canServe hs) (f := fun c => { c with xfer := some (.up i j b false pop) }) rfl
    (sdoHead 0x41 i j ++ leBytes 4 b.length)
  simp only [← uploadInit_run_long h (by omega)] at hx'
  rw [hb] at hx'
  exact sdo_answers hl hs hn hx hx'.2.2 (by decide) hx'

end

/-! ### The channels, the responses and CAN-B -/

/-- The channel of commands of P3 and P4 gives the oldest unread completion. -/
theorem uploadOf_command {s : State} {p : Path} (hp : p = .p3 ∨ p = .p4) {c : List Byte} {rest : List (List Byte)}
    (h : s.unread p.num = c :: rest) (hc : c ≠ []) : s.uploadOf p 0x2020 0 = .ok ({ name := .command }, c, 1) := by
  have hl : lookup 0x2020 0 = .ok { name := .command } := by decide +kernel
  have hn : notForPath p { name := .command } = false := by rcases hp with rfl | rfl <;> rfl
  have hd : s.domContent p { name := .command } = c := by simp only [State.domContent, hp, if_true, h, List.headD_cons]
  simp only [State.uploadOf, hl, hn, hd, hc]
  rfl

theorem uploadOf_fwdIn {s : State} {p : Path} {c : List Byte} {rest : List (List Byte)} (h : s.fwdIn p.num = c :: rest) (hc : c ≠ [])
    (hn : notForPath p { name := .fwdIn } = false) : s.uploadOf p 0x5E00 2 = .ok ({ name := .fwdIn }, c, 2) := by
  have hl : lookup 0x5E00 2 = .ok { name := .fwdIn } := by decide +kernel
  have hd : s.domContent p { name := .fwdIn } = c := by simp only [State.domContent, h, List.headD_cons]
  simp only [State.uploadOf, hl, hn, hd, hc]
  rfl

theorem usdoUpload_run_ok {s : State} {i j pop : Nat} {e : Ent} {b : List Byte} (h : s.uploadOf .p4 i j = .ok (e, b, pop)) :
    (usdoUpload i j).run s = (popUpload .p4 pop).run ((readEffect e).run ((Op.output (.usdo i j 0 b)).apply s)) := by
  simp only [usdoUpload, run_ask, h, all_cons, all_nil, run_seq, run_nop]
  rfl

/-- The response that waits longest on a controller that serves. -/
theorem sdoResponse_run (x : Fin 2) {s : State} (hl : s.live = true) (hs : s.canServe x = true) :
    exec (.sdoResponse x) s = .next ((respond x).run s) := by
  show done (live _) s = _
  simp only [done_eq, Prog.live, run_ask, run_when, hl, hs, if_true]

/-- What a download that was applied answers on the SDO channel, by its kind. -/
def appliedBytes (kind idx sub : Nat) : List Byte :=
  match kind with
  | 0 => sdoHead 0x60 idx sub
  | 1 => [0xA1]
  | 3 => [0x20]
  | _ => [0x30]

/-- The message of a response on the SDO channel. -/
def Reply.sdoBytes (r : Reply) : List Byte :=
  if r.abort ≠ 0 then sdoHead 0x80 r.index r.sub ++ leBytes 4 r.abort else appliedBytes r.kind r.index r.sub

theorem respond_run_sdo {s : State} {r : Reply} {rest : List Reply} (h : (s.ctrl 0).replies = r :: rest) (hk : r.kind ≠ 2) :
    (respond 0).run s = (sdoSend r.sdoBytes).run ((modCtrl 0 fun c => { c with replies := rest }).run s) := by
  simp only [respond, run_ask, h, hk, if_false, run_seq, Reply.sdoBytes]
  split
  · rfl
  · match r.kind with
    | 0 | 1 | 2 | 3 => rfl
    | _ + 4 => rfl

theorem sdoResponse_sends {s : State} (hl : s.live = true) (hs : s.canServe 0 = true) {r : Reply} {rest : List Reply}
    (h : (s.ctrl 0).replies = r :: rest) (hk : r.kind ≠ 2) : Answers (.sdoResponse 0) s fun t =>
      t.ctrl 0 = { s.ctrl 0 with replies := rest } ∧ SdoSays s t r.sdoBytes ∧ Frame [] [.ctrls, .out] s t := by
  refine ⟨_, sdoResponse_run 0 hl hs, ?_⟩
  show _ ∧ _
  rw [show (respond ↑(0 : Fin 2)).run s = _ from respond_run_sdo h hk]
  exact sdoAnswer (canUp_of_canServe hs) (f := fun c => { c with replies := rest }) rfl r.sdoBytes

theorem usdoResponse_sends {s : State} (hl : s.live = true) (hs : s.canServe 1 = true) {r : Reply} {rest : List Reply}
    (h : (s.ctrl 1).replies = r :: rest) (hk : r.kind = 2) : Answers (.sdoResponse 1) s fun t =>
      t.ctrl 1 = { s.ctrl 1 with replies := rest } ∧ t.out = .usdo r.index r.sub r.abort [] :: s.out ∧ Frame [] [.ctrls, .out] s t := by
  have hrun : (respond 1).run s = (Op.output (.usdo r.index r.sub r.abort [])).apply ((modCtrl 1 fun c => { c with replies := rest }).run s) := by
    simp only [respond, run_ask, h, hk, if_true, run_seq, run_when, canUp_of_canServe hs]
    rfl
  refine ⟨_, sdoResponse_run 1 hl hs, ?_⟩
  show _ ∧ _
  rw [show (respond ↑(1 : Fin 2)).run s = _ from hrun]
  exact ⟨modCtrl_ctrl 1 (fun c => { c with replies := rest }) s, rfl, ((modCtrl_frame 1 _ s).mono (fun _ h => h) (by decide)).trans ((output_frame _ _).mono (fun _ h => h) (by decide))⟩

section
variable {s : State} (hl : s.live = true) (hs : s.canServe 1 = true)
include hl hs

theorem usdoUpload_runs (dst : Fin 128) (idx : BitVec 16) (sub : Byte) (hn : NoHeld s) (hd : dst.val ≠ 0) (hi : s.rdN .nodeIdNow 1 = dst.val)
    {P : State → Prop} {W : List Nat} {L : List Part} {u : State} (hp : (usdoUpload idx.toNat sub.toNat).run s = u) (hf : Frame W L s u)
    (hL : .cmds ∉ L) (hP : P u) : Answers (.usdoUpload dst idx sub) s P := by
  subst hp
  refine ⟨_, ?_, hP⟩
  show done (inUsdo _ _) s = _
  rw [← settled_run_frame hn hf hL]
  simp only [done_eq, inUsdo, Prog.live, run_ask, run_when, hl, hs, hd, hi, ne_eq, not_false_eq_true, decide_true, Bool.and_self, if_true]

theorem usdoUpload_refused (dst : Fin 128) (idx : BitVec 16) (sub : Byte) (hn : NoHeld s) (hd : dst.val ≠ 0) (hi : s.rdN .nodeIdNow 1 = dst.val)
    {st : Status} (h : lookup idx.toNat sub.toNat = .error st) : Answers (.usdoUpload dst idx sub) s fun t =>
      t.out = .usdo idx.toNat sub.toNat st.abort [] :: s.out
      ∧ t.rd .lastStatus 0 4 = u32 (st.code * 0x1000000 + idx.toNat * 0x100 + sub.toNat) ∧ Frame [keyOf .lastStatus 0 4] [.out] s t := by
  have hr : Frame [keyOf .lastStatus 0 4] [] s ((refuse .p4 st idx.toNat sub.toNat).run s) := refuse_canPath_frame 1 st _ _ s
  have hd' := refuse_rd_lastStatus .p4 st idx.toNat sub.toNat s
  rw [show Path.p4.num = 4 from rfl] at hd'
  have ho := output_frame (.usdo idx.toNat sub.toNat st.abort []) ((refuse .p4 st idx.toNat sub.toNat).run s)
  have hall := (hr.mono (L' := [.out]) (fun _ h => h) (by simp)).trans (ho.mono (by simp) fun _ h => h)
  refine usdoUpload_runs hl hs dst idx sub hn hd hi ?_ hall (by decide)
    ⟨congrArg (_ :: ·) (hr.2 .out (by simp)), (ho.1 .lastStatus 0 4 (by simp)).trans hd', hall⟩
  simp only [usdoUpload, run_ask, uploadOf_error h, run_seq, run_output]

theorem usdoUpload_windowed (dst : Fin 128) (idx : BitVec 16) (sub : Byte) (hn : NoHeld s) (hd : dst.val ≠ 0) (hi : s.rdN .nodeIdNow 1 = dst.val)
    {e : Ent} (h : lookup idx.toNat sub.toNat = .ok e) (hp : notForPath .p4 e = false) (hw : isDomain e = false) :
    Answers (.usdoUpload dst idx sub) s fun t =>
      t.out = .usdo idx.toNat sub.toNat 0 (leBytes (typeOf e).bytes (s.uploadValue .p4 e).toNat) :: s.out ∧ Frame (clearedBy e) [.out, .ports] s t := by
  let u := (Op.output (.usdo idx.toNat sub.toNat 0 (bytesOf e (s.uploadValue .p4 e)))).apply s
  have hr := readEffect_frame h u
  have hall : Frame (clearedBy e) [.out, .ports] s ((readEffect e).run u) :=
    ((output_frame _ s).mono (by simp) (by decide)).trans (hr.mono (fun _ h => h) (by decide))
  exact usdoUpload_runs hl hs dst idx sub hn hd hi (usdoUpload_run_ok (uploadOf_windowed h hp hw)) hall (by decide)
    ⟨hr.2 .out (by decide), hall⟩

theorem uploadOn_can_b (i j : Nat) : (uploadOn 1 i j).run s = (usdoUpload i j).run s := by
  rw [uploadOn, if_neg (by decide)]
  simp only [Prog.live, run_ask, run_when, hl, hs, if_true]

end

/-- COMMAND_UPLOAD of CAN-B gives the oldest completion whole, and it counts as read. -/
theorem usdoCommand_gives {s : State} (hl : s.live = true) (hs : s.canServe 1 = true) {c : List Byte} {rest : List (List Byte)}
    (h : s.unread 4 = c :: rest) (hc : c ≠ []) : Answers (.commandUpload 1) s fun t =>
      t.out = .usdo 0x2020 0 0 c :: s.out ∧ t.unread 4 = rest ∧ Frame [] [.out, .unreads] s t := by
  refine ⟨_, congrArg Host.Outcome.next ((uploadOn_can_b hl hs 0x2020 0).trans (usdoUpload_run_ok (uploadOf_command (.inr rfl) h hc))), rfl, ?_, ?_⟩
  · exact (Store.get_put_same ..).trans (congrArg (List.drop 1) h)
  · exact ((output_frame _ s).mono (fun _ h => h) (by decide)).trans
      (Op.within_frame (o := .unread ..) _ fun _ h => List.mem_cons_of_mem .out h)

/-- FWD_IN of CAN-B gives the oldest returned completion whole, and it counts as read. -/
theorem usdoFwdIn_gives {s : State} (hl : s.live = true) (hs : s.canServe 1 = true) {c : List Byte} {rest : List (List Byte)}
    (h : s.fwdIn 4 = c :: rest) (hc : c ≠ []) : Answers (.fwdIn .p4) s fun t =>
      t.out = .usdo 0x5E00 2 0 c :: s.out ∧ t.fwdIn 4 = rest ∧ Frame [] [.out, .fwdIns] s t := by
  refine ⟨_, congrArg Host.Outcome.next ((uploadOn_can_b hl hs 0x5E00 2).trans (usdoUpload_run_ok (uploadOf_fwdIn (p := .p4) h hc rfl))), rfl, ?_, ?_⟩
  · exact (Store.get_put_same ..).trans (congrArg (List.drop 1) h)
  · exact ((output_frame _ s).mono (fun _ h => h) (by decide)).trans
      (Op.within_frame (o := .fwdIn ..) _ fun _ h => List.mem_cons_of_mem .out h)

end Sys2Proof.Machine
end

section
/-! PROOF. Uploads over SDO and USDO (O56). -/
namespace Sys2Proof.Proofs

-- One proof at a time: a thread for each would need more memory than a check has.
set_option Elab.async false

open Sys2Proof.Machine Prog

/-- Settles O56: each row is the run of its server, the answers of CAN-A read off `sdoSend` and those of CAN-B off `usdoUpload`. -/
theorem uploadsComplete : Obligations.UploadsComplete := by
  unfold Obligations.UploadsComplete
  intro s hl hn
  refine ⟨fun hs => ⟨fun idx sub => ⟨fun st h => sdoUpload_refused hl hs hn idx sub h, fun e h hp hd => ?_,
      fun e b pop h hb => sdoUpload_long hl hs hn idx sub h hb, fun hx e b pop crc n h => sdoBlock_begins hl hs hn idx.isLt sub.isLt hx crc n h⟩,
    fun i j pop b tg h => ⟨sdoSegment_toggle hl hs hn h, sdoSegment_more hl hs hn h, sdoSegment_last hl hs hn h⟩,
    fun i j blk pos pop b crc => ⟨fun h => sdoBlock_starts hl hs hn h, fun h got n => sdoBlock_confirmed hl hs hn h got n,
      fun h => sdoBlock_ends hl hs hn h⟩,
    fun c rest hc => ⟨fun h => ?_, fun h => ?_⟩, fun r rest h hk => sdoResponse_sends hl hs h hk⟩,
    fun hs => ⟨fun dst idx sub hd hi => ⟨fun st h => usdoUpload_refused hl hs dst idx sub hn hd hi h, fun e h hp hw => ?_⟩,
      fun c rest => ⟨fun h hc => usdoCommand_gives hl hs h hc, fun h hc => usdoFwdIn_gives hl hs h hc⟩,
      fun r rest h hk => usdoResponse_sends hl hs h hk⟩, ?_⟩
  · rw [← uploadValue_eq]
    exact sdoUpload_windowed hl hs hn idx sub h hp hd
  · have hne : c ≠ [] := fun g => by rw [g] at hc; exact absurd hc (by decide)
    exact channel_upload hl hs hn rfl (uploadOf_command (p := .p3) (.inl rfl) h hne) hc
  · have hne : c ≠ [] := fun g => by rw [g] at hc; exact absurd hc (by decide)
    exact channel_upload hl hs hn rfl (uploadOf_fwdIn (p := .p3) h hne rfl) hc
  · rw [← uploadValue_eq]
    exact usdoUpload_windowed hl hs dst idx sub hn hd hi h hp hw
  · intro p hp
    fin_cases hp <;> exact ⟨_, rfl, rfl⟩

end Sys2Proof.Proofs
end

section
/-! SUPPORT. The push to the mirror, and the digests. -/
namespace Sys2Proof.Machine

-- One proof at a time: a thread for each would need more memory than a check has.
set_option Elab.async false

open Prog

/-- What an entry reads in its island does not depend on the mirror. -/
theorem readEnt_mirror (s : State) (m : Store U32) (p : Path) (e : Ent) : ({ s with mirror := m } : State).readEnt p e = s.readEnt p e := rfl

/-- The mirror with the present value of an entry. -/
def State.reflected (s : State) (m : Store U32) (e : Ent) : Store U32 :=
  Store.put (dfltOf e.name e.inst e.item) m e.key (s.readEnt .p6 e)

/-- Entries pushed one after the other, each with the value that it has before any of them. -/
theorem reflects_run (l : List Ent) (s : State) (m : Store U32) :
    (each l reflectEnt).run { s with mirror := m } = { s with mirror := l.foldl s.reflected m } := by
  induction l generalizing m with
  | nil => rfl
  | cons e l ih => exact ih (s.reflected m e)

/-- Pushes leave in the mirror the value of an entry whose place no other of them has. -/
theorem foldl_reflected {s : State} {x : Ent} {l : List Ent} (h : ∀ y ∈ l, y.key = x.key → y = x) (m : Store U32)
    (hm : x ∈ l ∨ Store.get (dfltOf x.name x.inst x.item) m x.key = s.readEnt .p6 x) :
    Store.get (dfltOf x.name x.inst x.item) (l.foldl s.reflected m) x.key = s.readEnt .p6 x := by
  induction l generalizing m with
  | nil => exact hm.resolve_left List.not_mem_nil
  | cons y l ih =>
    refine ih (fun z hz => h z (List.mem_cons_of_mem _ hz)) _ ?_
    by_cases hk : y.key = x.key
    · exact .inr (by rw [h y List.mem_cons_self hk]; exact Store.get_put_same ..)
    · refine hm.imp (fun g => (List.mem_cons.mp g).resolve_left fun e => hk (congrArg Ent.key e.symm)) fun g => ?_
      exact (Store.get_put_dflt _ _ _ _ (Ne.symm hk)).trans g

theorem State.mirrored_eq {s : State} {m : Store U32} (h : s.mirror = m) (e : Ent) :
    s.mirrored e = Store.get (dfltOf e.name e.inst e.item) m e.key := by rw [State.mirrored, h]

theorem tpdoChange_within (j : Nat) : (tpdoChange j).All (Op.within [] [.pdos, .out]) := by
  have hsend : (tpdoSend j).All (Op.within [] [.pdos, .out]) := by simp [tpdoSend, canSend, output, modPdo, Op.within, Op.touches]
  intro s
  rw [Prog.all_when]
  intro _
  split
  · simp [modPdo, Op.within, Op.touches]
  · exact hsend

theorem tpdoChanges_frame (s : State) : Frame [] [.pdos, .out] s ((each (List.range 12) tpdoChange).run s) :=
  Prog.run_frame ((all_each _ _ _).mpr fun j _ => tpdoChange_within j) s

/-- What a push leaves in the mirror: the entry, or its unit's entries and then the unit's epoch. -/
def State.pushed (s : State) (e : Ent) : Store U32 :=
  match e.pushUnit with
  | some u => Store.put (dfltOf .epoch 0 (u - 1)) ((unitEnts u).foldl s.reflected s.mirror) (epochKey u) (u32 (s.epochOf u))
  | none => s.reflected s.mirror e

theorem pushEnt_run {s : State} {e : Ent} (hp : ∀ i, e.pusher = some i → s.fenced i = false) :
    (pushEnt e).run s = { s with mirror := s.pushed e } := by
  have hw : (match e.pusher with | some i => !s.fenced i | none => true) = true := by
    split
    · next i hi => rw [hp i hi]; rfl
    · rfl
  have hrun : (pushEnt e).run s = (match e.pushUnit with
      | some u => .seq (each (unitEnts u) reflectEnt) (.op (.reflect .epoch 0 (u - 1) (u32 (s.epochOf u))))
      | none => reflectEnt e : Prog).run s := by
    rw [pushEnt, run_ask, run_when]
    exact if_pos hw
  rw [hrun, State.pushed]
  cases e.pushUnit with
  | none => rfl
  | some u =>
    rw [run_seq]
    have h := reflects_run (unitEnts u) s s.mirror
    exact congrArg (Op.reflect .epoch 0 (u - 1) (u32 (s.epochOf u))).apply h

theorem pushEnt_frame {s : State} {e : Ent} (hp : ∀ i, e.pusher = some i → s.fenced i = false) :
    Frame [] [.mirror] s ((pushEnt e).run s) := by
  rw [pushEnt_run hp]
  exact ⟨fun _ _ _ _ => rfl, fun x hx => by cases x <;> first | rfl | exact absurd (.head _) hx⟩

/-- MIRROR_UPDATE pushes the entry, and the TPDOs follow. -/
theorem mirrorUpdate_run {idx : BitVec 16} {sub : Byte} {e : Ent} {s : State} (h : lookup idx.toNat sub.toNat = .ok e) (hl : s.live = true)
    (hf : s.fenced islHost = false) :
    exec (.mirrorUpdate idx sub) s = .next ((each (List.range 12) tpdoChange).run ((pushEnt e).run s)) := by
  show done (live _) s = _
  simp only [done_eq, Prog.live, run_ask, run_when, hl, if_true, h, run_seq, hf, Bool.not_false]

/-- What MIRROR_UPDATE leaves: the mirror as the push leaves it. -/
theorem mirrorUpdate_pushes {idx : BitVec 16} {sub : Byte} {e : Ent} {s : State} (h : lookup idx.toNat sub.toNat = .ok e) (hl : s.live = true)
    (hf : s.fenced islHost = false) (hp : ∀ i, e.pusher = some i → s.fenced i = false) :
    Answers (.mirrorUpdate idx sub) s fun t => t.mirror = s.pushed e ∧ Frame [] [.mirror, .pdos, .out] s t := by
  have hx := tpdoChanges_frame ((pushEnt e).run s)
  refine ⟨_, mirrorUpdate_run h hl hf, ?_, ((pushEnt_frame hp).mono (fun _ h => h) (by decide)).trans (hx.mono (fun _ h => h) (by decide))⟩
  rw [hx.2 .mirror (by decide), pushEnt_run hp]

theorem stateDigestUpdate_digests (g : Fin 16) {s : State} (h : Running s islHost) :
    Answers (.stateDigestUpdate g) s fun t => t.digest g = some (s.digestOf g)
      ∧ (∀ q, s.groupSeq g = some q → t.rd .digestSeq 0 g = q) ∧ Frame [keyOf .digestSeq 0 g] [.digests] s t := by
  have hd : Frame [keyOf .digestSeq 0 g] [.digests] s ((Op.digest g (some (s.digestOf g))).apply s) := Op.within_frame (o := .digest ..) s fun _ h => h
  have hrun : exec (.stateDigestUpdate g) s = .next ((match s.groupSeq g with | some q => wri .digestSeq 0 g q | none => .nop : Prog).run
      ((Op.digest g (some (s.digestOf g))).apply s)) := by
    show done (inIsland islHost _) s = _
    simp only [done_eq, inIsland, run_ask, run_when, h.1, h.2, Bool.not_false, Bool.and_self, if_true, run_seq, run_op] <;> rfl
  have hset : ((Op.digest g (some (s.digestOf g))).apply s).digest g = some (s.digestOf g) := by
    rw [State.digest_apply, if_pos rfl]
  refine ⟨_, hrun, ?_⟩
  cases hq : s.groupSeq g with
  | none => exact ⟨hset, nofun, hd⟩
  | some q =>
    refine ⟨hset, fun x hx => ?_, hd.trans (Op.within_frame (o := .put ..) _ (List.mem_singleton_self _))⟩
    cases hx
    exact State.rd_put ..

end Sys2Proof.Machine
end

section
/-! SUPPORT. No two entries share a place: the key of an entry names it. -/
namespace Sys2Proof.Machine

-- One proof at a time: a thread for each would need more memory than a check has.
set_option Elab.async false

open Prog

/-! ### Every name stands in a table -/

theorem allNames_order : allNames.map Name.ctorIdx = List.range' 1 385 ++ List.range' 443 14 ++ List.range' 386 57 := by decide +kernel

theorem ctorIdx_lt (n : Name) : n.ctorIdx < 457 := by cases n <;> decide

theorem ctorIdx_inj {n m : Name} (h : n.ctorIdx = m.ctorIdx) : n = m := by
  rw [← Name.ofNat_ctorIdx n, ← Name.ofNat_ctorIdx m, h]

theorem mem_allNames {n : Name} (h : n ≠ .highestSub) : n ∈ allNames := by
  have h0 : n.ctorIdx ≠ 0 := fun g => h (ctorIdx_inj (m := .highestSub) g)
  have hm : n.ctorIdx ∈ allNames.map Name.ctorIdx := by
    have := ctorIdx_lt n
    rw [allNames_order]
    simp only [List.mem_append, List.mem_range'_1]
    omega
  obtain ⟨m, hm, he⟩ := List.mem_map.mp hm
  exact ctorIdx_inj he ▸ hm

/-! ### Rows that share no place -/

/-- Two rows that share no place, by their indexes or by their sub-indexes. -/
def Row.apart (r x : Row) : Bool :=
  Nat.blt (r.base + r.stride * (r.count - 1)) x.base || Nat.blt (x.base + x.stride * (x.count - 1)) r.base
    || Nat.blt (r.subLo + r.subStep * (r.subCount - 1)) x.subLo || Nat.blt (x.subLo + x.subStep * (x.subCount - 1)) r.subLo
    || (Nat.beq r.stride x.stride && !Nat.beq (r.base % r.stride) (x.base % x.stride))
    || (Nat.beq r.subStep x.subStep && !Nat.beq (r.subLo % r.subStep) (x.subLo % x.subStep))

/-- The places of a row are told apart, and its sub-indexes are bytes. -/
def Row.proper (r : Row) : Bool :=
  Nat.blt 0 r.stride && Nat.blt 0 r.subStep && Nat.blt (r.subLo + r.subStep * (r.subCount - 1)) 256

/-- The last index of a row. -/
def Row.last (r : Row) : Nat := r.base + r.stride * (r.count - 1)

/-- The names in the order of their first indexes. -/
def sortedNames : List Name := allNames.insertionSort fun n m => (rowOf n).base ≤ (rowOf m).base

/-- Of names in the order of their first indexes, each is told apart from those that begin before its row ends. -/
def namesApart : List Name → Bool
  | [] => true
  | n :: l => (rowOf n).proper && (l.takeWhile fun m => Nat.ble (rowOf m).base (rowOf n).last).all (fun m => (rowOf n).apart (rowOf m)) && namesApart l

theorem sortedNames_apart : namesApart sortedNames = true := by decide +kernel

/-- The last of so many steps. -/
theorem step_le {a b k n : Nat} (h : k < n) : a + b * k ≤ a + b * (n - 1) :=
  Nat.add_le_add_left (Nat.mul_le_mul_left b (Nat.le_sub_one_of_lt h)) a

theorem Row.apart_sound {r x : Row} (h : r.apart x = true) {j i j' i' : Nat} (hj : j < r.count) (hi : i < r.subCount) (hj' : j' < x.count)
    (hi' : i' < x.subCount) : r.base + r.stride * j ≠ x.base + x.stride * j' ∨ r.subLo + r.subStep * i ≠ x.subLo + x.subStep * i' := by
  have h1 := step_le (a := r.base) (b := r.stride) hj
  have h2 := step_le (a := r.subLo) (b := r.subStep) hi
  have h3 := step_le (a := x.base) (b := x.stride) hj'
  have h4 := step_le (a := x.subLo) (b := x.subStep) hi'
  simp only [Row.apart, Bool.or_eq_true, Bool.and_eq_true, Nat.blt_eq, Nat.beq_eq, Bool.not_eq_true', Bool.eq_false_iff, ne_eq] at h
  rcases h with ((((h | h) | h) | h) | ⟨hs, hm⟩) | ⟨hs, hm⟩
  · exact .inl (by omega)
  · exact .inl (by omega)
  · exact .inr (by omega)
  · exact .inr (by omega)
  · refine .inl fun g => hm ?_
    have := congrArg (· % r.stride) g
    simpa only [Nat.add_mul_mod_self_left, hs] using this
  · refine .inr fun g => hm ?_
    have := congrArg (· % r.subStep) g
    simpa only [Nat.add_mul_mod_self_left, hs] using this

/-- Two names share no place. -/
def Name.Apart (n m : Name) : Prop := (rowOf n).apart (rowOf m) = true ∨ (rowOf m).apart (rowOf n) = true

/-- A row that begins behind the last index of another one. -/
theorem Row.apart_of_lt {r x : Row} (h : r.last < x.base) : r.apart x = true := by
  have hb : Nat.blt (r.base + r.stride * (r.count - 1)) x.base = true := Nat.blt_eq.mpr h
  simp only [Row.apart, hb, Bool.true_or]

/-- Of sorted names, those that begin by an index come first. -/
theorem mem_takeWhile_of_sorted {l : List Name} (h : l.Pairwise fun n m => (rowOf n).base ≤ (rowOf m).base) (b : Nat) {m : Name} (hm : m ∈ l) :
    m ∈ l.takeWhile (fun m => Nat.ble (rowOf m).base b) ∨ b < (rowOf m).base := by
  induction l with
  | nil => exact absurd hm List.not_mem_nil
  | cons n l ih =>
    obtain ⟨hn, hl⟩ := List.pairwise_cons.mp h
    by_cases hb : (rowOf n).base ≤ b
    · rw [List.takeWhile_cons, if_pos (Nat.ble_eq.mpr hb)]
      rcases List.mem_cons.mp hm with rfl | hm
      · exact .inl List.mem_cons_self
      · exact (ih hl hm).imp_left (List.mem_cons_of_mem _)
    · rcases List.mem_cons.mp hm with rfl | hm
      · exact .inr (Nat.lt_of_not_le hb)
      · exact .inr ((Nat.lt_of_not_le hb).trans_le (hn m hm))

theorem namesApart_sound {l : List Name} (hs : l.Pairwise fun n m => (rowOf n).base ≤ (rowOf m).base) (h : namesApart l = true) :
    (∀ n ∈ l, (rowOf n).proper = true) ∧ l.Pairwise Name.Apart := by
  induction l with
  | nil => exact ⟨nofun, .nil⟩
  | cons n l ih =>
    simp only [namesApart, Bool.and_eq_true, List.all_eq_true] at h
    obtain ⟨⟨hp, ha⟩, hl⟩ := h
    have hsl := (List.pairwise_cons.mp hs).2
    obtain ⟨h1, h2⟩ := ih hsl hl
    exact ⟨List.forall_mem_cons.mpr ⟨hp, h1⟩,
      .cons (fun m hm => .inl ((mem_takeWhile_of_sorted hsl _ hm).elim (ha m) Row.apart_of_lt)) h2⟩

theorem mem_sortedNames {n : Name} (h : n ≠ .highestSub) : n ∈ sortedNames := (List.mem_insertionSort _).mpr (mem_allNames h)

theorem sortedNames_sound : (∀ n ∈ sortedNames, (rowOf n).proper = true) ∧ sortedNames.Pairwise Name.Apart :=
  have : Std.Total fun n m : Name => (rowOf n).base ≤ (rowOf m).base := ⟨fun _ _ => Nat.le_total _ _⟩
  have : IsTrans Name fun n m => (rowOf n).base ≤ (rowOf m).base := ⟨fun _ _ _ => Nat.le_trans⟩
  namesApart_sound (List.pairwise_insertionSort _ _) sortedNames_apart

theorem names_apart {n m : Name} (hn : n ≠ .highestSub) (hm : m ≠ .highestSub) (h : n ≠ m) : n.Apart m :=
  have : Std.Symm Name.Apart := ⟨fun _ _ => Or.symm⟩
  sortedNames_sound.2.forall (mem_sortedNames hn) (mem_sortedNames hm) h

theorem row_proper {n : Name} (h : n ≠ .highestSub) :
    0 < (rowOf n).stride ∧ 0 < (rowOf n).subStep ∧ ∀ i < (rowOf n).subCount, subOf n i < 256 := by
  have hp := sortedNames_sound.1 n (mem_sortedNames h)
  simp only [Row.proper, Bool.and_eq_true, Nat.blt_eq] at hp
  obtain ⟨⟨h1, h2⟩, h3⟩ := hp
  exact ⟨h1, h2, fun i hi => (step_le hi).trans_lt h3⟩

/-! ### Keys -/

/-- The entry has a place in its row. -/
def Ent.Placed (e : Ent) : Prop := e.name ≠ .highestSub ∧ e.inst < (rowOf e.name).count ∧ e.item < (rowOf e.name).subCount

theorem lookup_placed {idx sub : Nat} {e : Ent} (h : lookup idx sub = .ok e) (hn : e.name ≠ .highestSub) : e.Placed :=
  have hl := lookup_listed h hn
  ⟨hn, hl.1, hl.2.1⟩

/-- Entries with one key are one entry. -/
theorem key_inj {e f : Ent} (he : e.Placed) (hf : f.Placed) (h : e.key = f.key) : e = f := by
  obtain ⟨n, j, i⟩ := e
  obtain ⟨m, y, x⟩ := f
  obtain ⟨hn, hj, hi⟩ := he
  obtain ⟨hm, hy, hx⟩ := hf
  dsimp only at hn hj hi hm hy hx
  obtain ⟨hst, hsu, hsb⟩ := row_proper hn
  have hi8 := hsb i hi
  have hx8 := (row_proper hm).2.2 x hx
  have hk : indexOf n j * 256 + subOf n i = indexOf m y * 256 + subOf m x := h
  have hsub : subOf n i = subOf m x := by omega
  have hidx : indexOf n j = indexOf m y := by omega
  rw [indexOf_listed hn, indexOf_listed hm] at hidx
  by_cases hnm : n = m
  · subst hnm
    have e1 : j = y := Nat.eq_of_mul_eq_mul_left hst (by omega)
    have e2 : i = x := Nat.eq_of_mul_eq_mul_left hsu (Nat.add_left_cancel hsub)
    rw [e1, e2]
  · rcases names_apart hn hm hnm with ha | ha
    · exact absurd (Row.apart_sound ha hj hi hy hx) (by simp only [not_or, ne_eq, not_not]; exact ⟨hidx, hsub⟩)
    · exact absurd (Row.apart_sound ha hy hx hj hi) (by simp only [not_or, ne_eq, not_not]; exact ⟨hidx.symm, hsub.symm⟩)

end Sys2Proof.Machine
end

section
/-! SUPPORT. What the effects of a write may do: they leave an entry that paths write as it is, the responses that wait at a controller, and
the command channels. -/
namespace Sys2Proof.Machine

-- One proof at a time: a thread for each would need more memory than a check has.
set_option Elab.async false

open Prog

/-! ### The responses that wait -/

/-- The responses of a controller that wait to be sent are the same. -/
def State.KeepsReplies (y : Nat) (s t : State) : Prop := (t.ctrl y).replies = (s.ctrl y).replies

theorem State.KeepsReplies.ite {y : Nat} {a b c : State} {p : Prop} [Decidable p] (h : a.KeepsReplies y b) (g : a.KeepsReplies y c) :
    a.KeepsReplies y (if p then b else c) := by split <;> assumption

theorem State.KeepsReplies.trans {y : Nat} {a b c : State} (h : a.KeepsReplies y b) (g : b.KeepsReplies y c) : a.KeepsReplies y c :=
  Eq.trans g h

/-- An EMCY waits in a queue of its own. -/
theorem State.sendEmcy_keepsReplies (y x code ev : Nat) (p1 q : U32) (t : U64) (s : State) :
    s.KeepsReplies y (s.sendEmcy x code ev p1 q t) := by
  have hput {c : Ctrl} (hc : c.replies = (s.ctrl x).replies) : (Store.get {} (Store.put {} s.ctrls x c) y).replies = (s.ctrl y).replies := by
    by_cases hy : y = x
    · subst hy
      rw [Store.get_put_same, hc]
    · rw [Store.get_put_other _ _ _ hy]
      rfl
  unfold State.sendEmcy
  refine .ite rfl (.ite ?_ ?_)
  · exact hput rfl
  · exact hput rfl

theorem State.signal_keepsReplies (y v : Nat) (s : State) : s.KeepsReplies y (s.signal v) := by
  obtain ⟨_, _, h⟩ := s.signal_frame v
  rw [h]
  exact rfl

theorem State.eventEmcy_keepsReplies (y : Nat) (ev : Event) (e : JEntry) (s : State) : s.KeepsReplies y (s.eventEmcy ev e) := by
  unfold State.eventEmcy
  split
  · exact rfl
  · dsimp only
    refine .ite (.trans ?_ (State.sendEmcy_keepsReplies ..)) ?_
    all_goals refine .ite (.trans ?_ (State.sendEmcy_keepsReplies ..)) ?_
    all_goals exact .ite rfl rfl

theorem State.number_keepsReplies (y : Nat) (e : JEntry) (s : State) : s.KeepsReplies y (s.number e) := by
  unfold State.number
  dsimp only
  split
  · exact .ite rfl rfl
  · refine .ite (.trans ?_ (State.signal_keepsReplies ..)) ?_
    all_goals refine .ite (.trans (.trans ?_ (State.sendEmcy_keepsReplies ..)) (State.sendEmcy_keepsReplies ..)) ?_
    all_goals refine .trans ?_ (State.eventEmcy_keepsReplies ..)
    all_goals exact .ite rfl rfl

theorem State.report_keepsReplies (y : Nat) (e : JEntry) (s : State) : s.KeepsReplies y (s.report e) := by
  have hc : s.KeepsReplies y (s.counted e) := .ite rfl rfl
  exact .ite (hc.trans rfl) (hc.trans (State.number_keepsReplies ..))

/-! ### Updates that spare an entry -/

/-- The entries of the name are written by paths, and keep what they are given. -/
def Name.writable (n : Name) : Bool := (rowOf n).access = .rw || (rowOf n).access = .rwp

/-- The update writes a place of the dictionary, other than that of `x` or with the value `v`; it leaves the record of controller `y`, the
command channels and the fences. -/
def Op.spares (x : Ent) (v : U32) (y : Nat) : Op → Prop
  | .put n j i w => Ent.Placed ⟨n, j, i⟩ ∧ (⟨n, j, i⟩ = x → w = v)
  | .ctrl k _ => k ≠ y
  | .cmd .. | .island .. | .clearState _ | .emcy .. | .numberWaiting _ => False
  | _ => True

/-- Between two states `x` keeps the value `v`; the responses that wait at controller `y`, the command channels and the fences are the same. -/
structure Spared (x : Ent) (v : U32) (y : Nat) (s t : State) : Prop where
  keeps : s.rd x.name x.inst x.item = v → t.rd x.name x.inst x.item = v
  replies : s.KeepsReplies y t
  cmds : t.cmds = s.cmds
  islands : t.islands = s.islands

theorem Spared.refl (x : Ent) (v : U32) (y : Nat) (s : State) : Spared x v y s s := ⟨id, rfl, rfl, rfl⟩

theorem Spared.trans {x : Ent} {v : U32} {y : Nat} {a b c : State} (h : Spared x v y a b) (g : Spared x v y b c) : Spared x v y a c :=
  ⟨fun e => g.keeps (h.keeps e), h.replies.trans g.replies, g.cmds.trans h.cmds, g.islands.trans h.islands⟩

abbrev Spares (x : Ent) (v : U32) (y : Nat) (p : Prog) : Prop := p.All (Op.spares x v y)

/-- CAL_ID, which the sequence point writes, is no entry that paths write. -/
theorem calId_key {x : Ent} (hx : x.Placed) (hw : x.name.writable = true) : x.key ≠ keyOf .calId 0 0 := fun h => by
  rw [key_inj hx (f := ⟨.calId, 0, 0⟩) ⟨by decide, by decide, by decide⟩ h] at hw
  exact absurd hw (by decide)

theorem Op.spares_spared {x : Ent} (hx : x.Placed) (hw : x.name.writable = true) {v : U32} {y : Nat} {o : Op} (h : o.spares x v y)
    (s : State) : Spared x v y s (o.apply s) := by
  cases o <;> simp only [Op.spares] at h
  case put n j i w =>
    refine ⟨fun e => ?_, rfl, rfl, rfl⟩
    by_cases hk : keyOf n j i = x.key
    · obtain rfl : (⟨n, j, i⟩ : Ent) = x := key_inj h.1 hx hk
      exact (State.rd_put ..).trans (h.2 rfl)
    · exact (State.rd_put_other _ _ hk).trans e
  case report e =>
    exact ⟨fun g => (State.rd_leaves (o := .report e) fun _ => calId_key hx hw).trans g, State.report_keepsReplies ..,
      Op.touches_same (o := .report e) (x := .cmds) (by simp [Op.touches, reporting]),
      Op.touches_same (o := .report e) (x := .islands) (by simp [Op.touches, reporting])⟩
  case signal k =>
    exact ⟨fun g => (State.rd_leaves (o := .signal k) trivial).trans g, State.signal_keepsReplies ..,
      Op.touches_same (o := .signal k) (x := .cmds) (by simp [Op.touches]),
      Op.touches_same (o := .signal k) (x := .islands) (by simp [Op.touches])⟩
  case ctrl k r => exact ⟨id, congrArg Ctrl.replies (Store.get_put_other _ _ _ (Ne.symm h)), rfl, rfl⟩
  all_goals exact ⟨id, rfl, rfl, rfl⟩

theorem Spares.run {x : Ent} (hx : x.Placed) (hw : x.name.writable = true) {v : U32} {y : Nat} {p : Prog} (h : Spares x v y p) (s : State) :
    Spared x v y s (p.run s) :=
  Prog.run_rel (Spared.refl x v y) Spared.trans (fun _ s ho => Op.spares_spared hx hw ho s) p h s

/-! ### Updates and their shorthands -/

section
variable {x : Ent} {v : U32} {y : Nat}

@[simp] theorem modHead_spares (k : Nat) (f : Head → Head) : Spares x v y (modHead k f) := fun _ => trivial
@[simp] theorem modLineUnit_spares (k : Nat) (f : LineUnit → LineUnit) : Spares x v y (modLineUnit k f) := fun _ => trivial
@[simp] theorem modChan_spares (k : Nat) (f : Chan → Chan) : Spares x v y (modChan k f) := fun _ => trivial
@[simp] theorem modWatch_spares (f : Watch → Watch) : Spares x v y (modWatch f) := fun _ => trivial
@[simp] theorem modAxis_spares (k : Nat) (f : Axis → Axis) : Spares x v y (modAxis k f) := fun _ => trivial
@[simp] theorem modLstr_spares (k : Nat) (f : LStr → LStr) : Spares x v y (modLstr k f) := fun _ => trivial
@[simp] theorem modConv_spares (k : Nat) (f : Conv → Conv) : Spares x v y (modConv k f) := fun _ => trivial
@[simp] theorem modTimer_spares (k : Nat) (f : Timer → Timer) : Spares x v y (modTimer k f) := fun _ => trivial
@[simp] theorem modBank_spares (k : Nat) (f : Bank → Bank) : Spares x v y (modBank k f) := fun _ => trivial
@[simp] theorem modStream_spares (k : Nat) (f : Stream → Stream) : Spares x v y (modStream k f) := fun _ => trivial
@[simp] theorem modRail_spares (k : Nat) (f : Rail → Rail) : Spares x v y (modRail k f) := fun _ => trivial
@[simp] theorem modPdo_spares (k : Nat) (f : Pdo → Pdo) : Spares x v y (modPdo k f) := fun _ => trivial
@[simp] theorem modModes_spares (f : Modes → Modes) : Spares x v y (modModes f) := fun _ => trivial
@[simp] theorem modHeath_spares (f : Heath → Heath) : Spares x v y (modHeath f) := fun _ => trivial
@[simp] theorem modRowTest_spares (f : RowTest → RowTest) : Spares x v y (modRowTest f) := fun _ => trivial
@[simp] theorem modSecure_spares (f : Secure → Secure) : Spares x v y (modSecure f) := fun _ => trivial
@[simp] theorem modSeqr_spares (f : Seqr → Seqr) : Spares x v y (modSeqr f) := fun _ => trivial
@[simp] theorem modRing_spares (f : Ring → Ring) : Spares x v y (modRing f) := fun _ => trivial
@[simp] theorem modLink_spares (f : Link → Link) : Spares x v y (modLink f) := fun _ => trivial
@[simp] theorem output_spares (o : Output) : Spares x v y (output o) := trivial
@[simp] theorem spares_free : Op.free.spares x v y = True := rfl
@[simp] theorem spares_report (e : JEntry) : (Op.report e).spares x v y = True := rfl
@[simp] theorem spares_signal (k : Nat) : (Op.signal k).spares x v y = True := rfl
@[simp] theorem spares_zero (a n : Nat) : (Op.zero a n).spares x v y = True := rfl
@[simp] theorem spares_calTime (r : Option Nat) : (Op.calTime r).spares x v y = True := rfl
@[simp] theorem spares_clearErrors : Op.clearErrors.spares x v y = True := rfl

@[simp] theorem emitBy_spares (p : Path) (ev : Event) (u isl : Nat) (p1 p2 : U32) : Spares x v y (emitBy p ev u isl p1 p2) := by
  simp [emitBy]

@[simp] theorem clearEvent_spares (ev : Event) (u isl : Nat) : Spares x v y (clearEvent ev u isl) := by simp [clearEvent]

@[simp] theorem journalWrite_spares (c : Ctx) (e : Ent) (u k : Nat) (w : U32) : Spares x v y (journalWrite c e u k w) := by simp [journalWrite]

@[simp] theorem headOnce_spares (h : Nat) (ev : Event) (isl : Nat) (p1 p2 : U32) : Spares x v y (headOnce h ev isl p1 p2) := by
  simp [headOnce]

/-! ### Entries that no path writes -/

/-- The X9 alone writes the entries of the name, and at least so many instances of it exist. -/
def Name.internal (n : Name) (c : Nat) : Bool := n ≠ .highestSub && !n.writable && decide (c ≤ (rowOf n).count)

variable (hw : x.name.writable = true)
include hw

theorem wri_spares {j c : Nat} (hj : j < c) {n : Name} (hn : n.internal c = true) {i : Nat} (hi : i < (rowOf n).subCount) (w : U32) :
    Spares x v y (wri n j i w) := by
  obtain ⟨⟨h1, h2⟩, h3⟩ : (n ≠ .highestSub ∧ n.writable = false) ∧ c ≤ (rowOf n).count := by simpa [Name.internal] using hn
  refine ⟨⟨h1, hj.trans_le h3, hi⟩, fun h => ?_⟩
  subst h
  exact absurd hw (by simp [h2])

theorem wr_spares {j c : Nat} (hj : j < c) {n : Name} (hn : n.internal c = true) (hi : 0 < (rowOf n).subCount) (w : U32) :
    Spares x v y (wr n j w) := wri_spares hw hj hn hi w

theorem wrN_spares {j c : Nat} (hj : j < c) {n : Name} (hn : n.internal c = true) (hi : 0 < (rowOf n).subCount) (w : Nat) :
    Spares x v y (wrN n j w) := wri_spares hw hj hn hi (u32 w)

theorem countUp_spares {j c : Nat} (hj : j < c) {n : Name} (hn : n.internal c = true) (hi : 0 < (rowOf n).subCount) :
    Spares x v y (countUp n j) := fun _ => wrN_spares hw hj hn hi _

theorem bump_spares {u : Nat} (hu : u ≤ 56) : Spares x v y (bump u) := fun _ =>
  wri_spares hw Nat.one_pos (n := .epoch) (by decide) (show u - 1 < 56 by omega) _

end

/-- An effect that gives one of its own entries the value `v`, or another entry than `x`. -/
theorem put_spares (n : Name) {x : Ent} {v : U32} {y j i : Nat} (hn : n ≠ .highestSub) (hj : j < (rowOf n).count)
    (hi : i < (rowOf n).subCount) {w : U32} (h : x.name = n → w = v) : Spares x v y (wri n j i w) :=
  ⟨⟨hn, hj, hi⟩, fun e => h (congrArg Ent.name e).symm⟩

end Sys2Proof.Machine
end

section
/-! SUPPORT. The effects of the writes of the heads, the axes and the strings spare the entries that paths write. -/
namespace Sys2Proof.Machine

-- One proof at a time: a thread for each would need more memory than a check has.
set_option Elab.async false

open Prog

section
variable {x : Ent} {v : U32} {y : Nat}

/-! ### Heads -/

@[simp] theorem drivePhases_spares (h : Nat) : Spares x v y (drivePhases h) := by simp [drivePhases]
@[simp] theorem expWritten_spares (h i : Nat) (old : U32) : Spares x v y (expWritten h i old) := by simp [expWritten]
@[simp] theorem closePage_spares (h : Nat) : Spares x v y (closePage h) := by simp [closePage]
@[simp] theorem enqueueLine_spares (h : Nat) (c : LineCap) : Spares x v y (enqueueLine h c) := by simp [enqueueLine]

@[simp] theorem settleLast_spares (h : Nat) : Spares x v y (settleLast h) := by
  simp only [settleLast, all_ask]
  intro s
  split <;> simp [modQueued]

@[simp] theorem truncateLine_spares (h : Nat) : Spares x v y (truncateLine h) := by
  simp only [truncateLine, all_ask]
  intro s
  split <;> simp

@[simp] theorem closeLanes_spares (h : Nat) : Spares x v y (closeLanes h) := by
  simp only [closeLanes, all_ask]
  intro s
  split <;> simp [shortEvent]

variable (hw : x.name.writable = true)
include hw

theorem headTo_spares {h : Nat} (hh : h < 4) (st : Nat) : Spares x v y (headTo h st) := by
  have hb : Spares x v y (bump (unitHead h)) := bump_spares hw (by simp only [unitHead]; omega)
  simp (disch := decide) [headTo, wrN_spares hw hh, hb]

theorem disarm_spares {h : Nat} (hh : h < 4) (st : Nat) : Spares x v y (disarm h st) := by simp [disarm, headTo_spares hw hh]

theorem abandonCal_spares {h : Nat} (hh : h < 4) : Spares x v y (abandonCal h) := by
  simp (disch := decide) [abandonCal, wr_spares hw hh]

theorem arm_spares {h : Nat} (hh : h < 4) : Spares x v y (arm h) := by
  simp (disch := decide) [arm, wr_spares hw hh, wrN_spares hw hh, headTo_spares hw hh]

theorem headEnable_spares {h : Nat} (hh : h < 4) : Spares x v y (headEnable h) := by
  simp [headEnable, headTo_spares hw hh, arm_spares hw hh]

theorem headDisable_spares {h : Nat} (hh : h < 4) : Spares x v y (headDisable h) := by
  simp [headDisable, disarm_spares hw hh, abandonCal_spares hw hh]

theorem headEffect_spares {n : Name} {h i : Nat} (hn : n.writable = true) (hh : h < (rowOf n).count) (w old : U32) :
    Spares x v y (headEffect n h i w old) := by
  unfold headEffect
  split
  case h_4 => simp [headEnable_spares hw hh, headDisable_spares hw hh]
  case h_5 => exact absurd hn (by decide)
  all_goals simp

theorem feEffect_spares (n : Name) (j : Nat) (w : U32) : Spares x v y (feEffect n j w) := by
  have hk (j : Nat) : ∀ s : State, ∀ k ∈ (List.range 12).filter fun k => s.rowOfConv k = j,
      Spares x v y (wrN .rangeNow k (s.rdN .rangeFixed j)) := fun s k hk =>
    wrN_spares hw (List.mem_range.mp (List.mem_of_mem_filter hk)) (by decide) (by decide) _
  unfold feEffect
  split
  · simp only [all_ask, all_when, all_each]
    exact fun s _ => hk j s
  · simp only [all_ask, all_when, all_each]
    exact fun s _ => hk j s
  · trivial

theorem coverEnWrite_spares {h : Nat} (hh : h < 4) (w : U32) : Spares x v y (coverEnWrite h w) := by
  simp (disch := decide) [coverEnWrite, wr_spares hw hh]

/-! ### Axes -/

omit hw in
@[simp] theorem axisPins_spares (a : Nat) : Spares x v y (axisPins a) := by simp [axisPins]

omit hw in
@[simp] theorem holdOutputs_spares (a : Nat) : Spares x v y (holdOutputs a) := by simp [holdOutputs]

omit hw in
@[simp] theorem homeFailed_spares (a : Nat) : Spares x v y (homeFailed a) := by simp [homeFailed]

theorem axisTo_spares {a : Nat} (ha : a < 6) (st : Nat) : Spares x v y (axisTo a st) := by
  have hb : Spares x v y (bump (unitAxis a)) := bump_spares hw (by simp only [unitAxis]; omega)
  simp (disch := decide) [axisTo, wrN_spares hw ha, hb]

theorem axisStatusTo_spares {a : Nat} (ha : a < 6) (b c : Nat) : Spares x v y (axisStatusTo a b c) := by
  simp (disch := decide) [axisStatusTo, wr_spares hw ha]

theorem immediateStop_spares {a : Nat} (ha : a < 6) : Spares x v y (immediateStop a) := by
  simp (disch := decide) [immediateStop, restPlan, setUncertain, wr_spares hw ha, axisStatusTo_spares hw ha]

theorem paceAbort_spares : Spares x v y paceAbort := by
  simp (disch := decide) [paceAbort, paceTo, wrN_spares hw Nat.one_pos]

theorem axisEnable_spares {a : Nat} (ha : a < 6) : Spares x v y (axisEnable a) := by simp [axisEnable, axisTo_spares hw ha]

theorem axisDisable_spares {a : Nat} (ha : a < 6) : Spares x v y (axisDisable a) := by
  simp [axisDisable, axisTo_spares hw ha, immediateStop_spares hw ha, paceAbort_spares hw]

/-- RETARGET alone sets another entry that paths write, TARGET. -/
theorem motionEffect_spares {n : Name} {a : Nat} (p : Path) (hn : n.writable = true) (ha : a < (rowOf n).count)
    (hx : n = .retarget → x.name ≠ .axisTarget) (w old : U32) : Spares x v y (motionEffect p n a w old) := by
  unfold motionEffect
  split
  case h_2 => simp [axisEnable_spares hw ha, axisDisable_spares hw ha]
  case h_3 =>
    have ht : Spares x v y (wr .axisTarget a w) := put_spares .axisTarget (by simp) ha Nat.one_pos fun h => absurd h (hx rfl)
    simp [ht]
  case h_6 => simp [axisStatusTo_spares hw ha]
  case h_8 => simp [paceAbort_spares hw]
  case h_1 | h_4 | h_5 => exact absurd hn (by decide)
  all_goals simp

/-! ### Strings -/

omit hw in
@[simp] theorem gateOff_spares (k : Nat) : Spares x v y (gateOff k) := by simp [gateOff]

omit hw in
@[simp] theorem fadeTo_spares (k a b : Nat) : Spares x v y (fadeTo k a b) := by simp [fadeTo]

omit hw in
@[simp] theorem lateWrite_spares (k a b : Nat) : Spares x v y (lateWrite k a b) := by simp [lateWrite]

theorem stringTo_spares {k : Nat} (hk : k < 8) (st : Nat) : Spares x v y (stringTo k st) := by
  have hb : Spares x v y (bump (unitString k)) := bump_spares hw (by simp only [unitString]; omega)
  simp (disch := decide) [stringTo, wrN_spares hw hk, hb]

theorem stringOffNow_spares {k : Nat} (hk : k < 8) : Spares x v y (stringOffNow k) := by simp [stringOffNow, stringTo_spares hw hk]

theorem stringOn_spares {k : Nat} (hk : k < 8) : Spares x v y (stringOn k) := by
  simp only [stringOn, all_ask]
  intro s
  split <;> simp [stringTo_spares hw hk]

theorem stringFade_spares {k : Nat} (hk : k < 8) : Spares x v y (stringFade k) := by simp [stringFade, stringTo_spares hw hk]

theorem groupRelease_spares : Spares x v y groupRelease := by
  simp only [groupRelease, all_ask, all_each, all_when, List.mem_range]
  exact fun s k hk _ => stringTo_spares hw hk _

theorem derateEntry_spares {k : Nat} (hk : k < 8) : Spares x v y (derateEntry k) := by
  simp (disch := decide) [derateEntry, wr_spares hw hk]

theorem lightEffect_spares {n : Name} {k i : Nat} (hn : n.writable = true) (hk : k < (rowOf n).count)
    {w : U32} (hx : n = .stringEn → x.name = .stringEn → v = 0 ∧ w = 0) (old : U32) : Spares x v y (lightEffect n k i w old) := by
  unfold lightEffect
  split
  case h_1 =>
    have hx := hx rfl
    have h0 : Spares x v y (wr .stringEn k 0) := put_spares .stringEn (by simp) hk Nat.one_pos fun h => (hx h).1.symm
    have hv : Spares x v y (wr .stringEn k (if w = 1 then 1 else 0)) := by
      split
      · next h1 => exact put_spares .stringEn (by simp) hk Nat.one_pos fun h => absurd ((hx h).2.symm.trans h1) (by decide)
      · exact h0
    simp only [all_all, List.forall_mem_cons, stringRejoin, all_ask, all_when, all_seq, modLstr_spares, h0, hv, stringOffNow_spares hw hk]
    refine ⟨by simp, trivial, ?_, by simp⟩
    split
    · exact stringOn_spares hw hk
    · exact stringFade_spares hw hk
    · simp [stringOffNow_spares hw hk]
  case h_2 => exact absurd hn (by decide)
  case h_7 => exact groupRelease_spares hw
  case h_8 | h_9 | h_10 | h_11 => exact derateEntry_spares hw hk
  case h_12 => simp [derateEntry_spares hw hk]
  all_goals simp

end

end Sys2Proof.Machine
end

section
/-! SUPPORT. The effects of the writes of the other chapters, and of every write, spare the entries that paths write. -/
namespace Sys2Proof.Machine

-- One proof at a time: a thread for each would need more memory than a check has.
set_option Elab.async false

open Prog

section
variable {x : Ent} {v : U32} {y : Nat}

@[simp] theorem timerBefore_spares (n : Name) (c : Nat) : Spares x v y (timerBefore n c) := by
  simp only [timerBefore, all_ask]
  intro s
  split <;> simp

@[simp] theorem streamBefore_spares (n : Name) (k : Nat) : Spares x v y (streamBefore n k) := by simp [streamBefore]

@[simp] theorem latchExc_spares (k : Nat) : Spares x v y (latchExc k) := by simp [latchExc]

@[simp] theorem startRouting_spares (k e : Nat) (u : Bool) : Spares x v y (startRouting k e u) := by simp [startRouting]

@[simp] theorem ringSettle_spares_idle : Spares x v y ringIdle := by simp [ringIdle]

variable (hw : x.name.writable = true)
include hw

theorem invalidateIf_spares (i : Nat) : Spares x v y (invalidateIf i) := by
  simp only [invalidateIf, invalidateCal, all_ask, all_when, all_seq, all_op, spares_calTime, all_each, List.mem_range]
  exact fun s _ => ⟨trivial, fun h hh => wr_spares hw hh (by decide) (by decide) _⟩

/-! ### Heath -/

theorem heathTo_spares (st : Nat) : Spares x v y (heathTo st) :=
  ⟨wrN_spares hw Nat.one_pos (by decide) (by decide) _, bump_spares hw (by decide)⟩

theorem startPass_spares (k : Nat) (b : Bool) : Spares x v y (startPass k b) := by
  simp only [startPass, all_ask]
  intro s
  split
  · trivial
  · simp (disch := decide) [countUp_spares hw Nat.one_pos]

theorem nextRouting_spares (k : Nat) : Spares x v y (nextRouting k) := by
  simp only [nextRouting, all_ask, all_when, all_all, List.forall_mem_cons]
  refine fun s _ => ⟨fun _ => startPass_spares hw _ _, fun t => ?_, by simp⟩
  split
  · simp
  · rw [all_when]
    intro _
    split <;> simp

theorem heathStopped_spares : Spares x v y heathStopped := by simp [heathStopped, heathTo_spares hw]

theorem heathStart_spares : Spares x v y heathStart := by
  simp (disch := decide) [heathStart, heathTo_spares hw, startPass_spares hw, nextRouting_spares hw, wr_spares hw Nat.one_pos]

theorem heathStop_spares : Spares x v y heathStop := by simp [heathStop, heathTo_spares hw, heathStopped_spares hw]

theorem heathEntEffect_spares (n : Name) (w : U32) : Spares x v y (heathEntEffect n w) := by
  unfold heathEntEffect
  split
  case h_1 => simp [heathStart_spares hw, heathStop_spares hw]
  case h_2 => simp [nextRouting_spares hw]
  case h_3 => simp [nextRouting_spares hw]
  case h_9 => simp [redischarge]
  case h_10 => simp
  case h_11 => trivial
  all_goals simp [relatch]

/-! ### Timers -/

theorem undoCapture_spares {c : Nat} (hc : c < 32) : Spares x v y (undoCapture c) := by
  have hn : ∀ z ∈ captureEntries, z.1.internal 32 = true ∧ z.2 < (rowOf z.1).subCount := by decide
  simp only [undoCapture, all_ask, all_when, all_seq, all_each, modTimer_spares, and_true]
  intro s _ z hz
  obtain ⟨h1, h2⟩ := hn z.1 (List.of_mem_zip hz).1
  exact wri_spares hw hc h1 h2 _

theorem timerTo_spares {c : Nat} (hc : c < 32) (st : Nat) : Spares x v y (timerTo c st) := by
  have hb : Spares x v y (bump (unitTimer c)) := bump_spares hw (by simp only [unitTimer]; omega)
  simp (disch := decide) [timerTo, wrN_spares hw hc, hb]

theorem timerEffect_spares {n : Name} {c : Nat} (hc : c < (rowOf n).count) (w : U32) : Spares x v y (timerEffect n c w) := by
  simp only [timerEffect, all_ask]
  intro s
  split
  case h_1 => simp [reanchor, anchorAt, countZero, loadPeriod, pinTo, undoCapture_spares hw hc, timerTo_spares hw hc]
  all_goals simp

/-! ### Banks -/

theorem abandonTest_spares (b : Nat) : Spares x v y (abandonTest b) := by
  simp only [abandonTest, all_ask]
  intro s
  split
  · simp only [all_when, all_seq, modRowTest_spares, decide_eq_true_eq, true_and]
    exact fun _ hb => wrN_spares hw hb (by decide) (by decide) _
  · trivial

theorem stageLost_spares (b : Nat) : Spares x v y (stageLost b) := by
  simp only [stageLost, all_each, List.mem_range, all_ask, all_when]
  intro k hk s _
  simp (disch := decide) [wrN_spares hw hk]

theorem bankTo_spares {b : Nat} (hb : b < 24) (st : Nat) : Spares x v y (bankTo b st) := by
  have hu : Spares x v y (bump (unitBank b)) := bump_spares hw (by simp only [unitBank]; omega)
  simp (disch := decide) [bankTo, abandonTest_spares hw, stageLost_spares hw, wrN_spares hw hb, hu]

/-- A bank that a BANK_POWER_REQ turns off is no one's. -/
theorem bankEffect_spares {n : Name} (hn : n = .owner ∨ n = .bankPowerReq) {b : Nat} (hb : b < (rowOf n).count)
    (hx : n = .bankPowerReq → x.name ≠ .owner) (w : Nat) : Spares x v y (bankEffect n b w) := by
  have h24 : b < 24 := by rcases hn with rfl | rfl <;> exact hb
  simp only [bankEffect, all_ask]
  intro s
  split
  · simp [bankTo_spares hw h24]
  · next h =>
    have ho : Spares x v y (wr .owner b 255#32) := put_spares .owner (by simp) h24 Nat.one_pos fun e => absurd e (hx (hn.resolve_left h))
    simp [bankTo_spares hw h24, bankLost, ho]

/-! ### SAFE -/

theorem wipe_spares (cause : Nat) : Spares x v y (wipe cause) := by
  simp (disch := decide) [wipe, wr_spares hw Nat.one_pos]

theorem safeEffect_spares {n : Name} (hn : n.writable = true) (w : U32) : Spares x v y (safeEffect n w) := by
  unfold safeEffect
  split
  case h_3 => simp (disch := decide) [tamperSet, emitSafe, Prog.live, wipe_spares hw, wrN_spares hw Nat.one_pos]
  case h_5 => trivial
  all_goals exact absurd hn (by decide)

/-! ### Streams -/

theorem sendFree_spares : Spares x v y sendFree := by
  simp only [sendFree, all_each, List.mem_range, all_ask]
  exact fun k hk s => wrN_spares hw hk (by decide) (by decide) _

theorem streamTo_spares {k : Nat} (hk : k < 8) (st : Nat) : Spares x v y (streamTo k st) := by
  have hb : Spares x v y (bump (unitStream k)) := bump_spares hw (by simp only [unitStream]; omega)
  simp (disch := decide) [streamTo, wrN_spares hw hk, sendFree_spares hw, hb]

theorem discardCount_spares {k : Nat} (hk : k < 8) (n : Nat) : Spares x v y (discardCount k n) := by
  simp (disch := decide) [discardCount, wrN_spares hw hk]

theorem streamStop_spares {k : Nat} (hk : k < 8) : Spares x v y (streamStop k) := by
  simp [streamStop, streamStopped, discardCount_spares hw hk, streamTo_spares hw hk]

/-- A new buffer begins with both of its pointers at 0. -/
theorem streamEffect_spares {n : Name} {k : Nat} (hk : k < (rowOf n).count) (hx : n ∈ [.bufBase, .bufLog2] → x.name = .rdPtr → v = 0)
    (w : U32) : Spares x v y (streamEffect n k w) := by
  have hp (hk : k < 8) (hx : x.name = .rdPtr → v = 0) : Spares x v y (.seq (wr .wrPtr k 0) (wr .rdPtr k 0)) :=
    ⟨wr_spares hw hk (by decide) (by decide) _, put_spares .rdPtr (by simp) hk Nat.one_pos fun e => (hx e).symm⟩
  unfold streamEffect
  split
  case h_1 => simp [streamStop_spares hw hk, streamTo_spares hw hk]
  case h_2 => exact hp hk (hx (by simp))
  case h_3 => exact hp hk (hx (by simp))
  case h_4 => exact sendFree_spares hw
  case h_5 => simp [streamCount, streamSignal]
  case h_6 => trivial

/-! ### The command ring, the network and the sequencer -/

/-- A ring that starts has its tails at 0. -/
theorem hostEffect_spares {n : Name} (hn : n.writable = true) (hx : n = .cmdEn → x.name ∉ [.cmdTail, .cplTail]) (w : U32) :
    Spares x v y (hostEffect n w) := by
  unfold hostEffect
  split
  case h_1 =>
    obtain ⟨h1, h2⟩ : x.name ≠ .cmdTail ∧ x.name ≠ .cplTail := by simpa using hx rfl
    have ht : Spares x v y (wr .cmdTail 0 0#32) := put_spares .cmdTail (by simp) Nat.one_pos Nat.one_pos fun e => absurd e h1
    have hc : Spares x v y (wr .cplTail 0 0#32) := put_spares .cplTail (by simp) Nat.one_pos Nat.one_pos fun e => absurd e h2
    simp (disch := decide) [cmdEnable, ringSettle, wr_spares hw Nat.one_pos, wrN_spares hw Nat.one_pos, ht, hc]
  case h_4 => trivial
  all_goals exact absurd hn (by decide)

theorem setGrant_spares (p : Path) (on : Bool) : Spares x v y (setGrant p on) := by
  simp (disch := decide) [setGrant, wrN_spares hw Nat.one_pos]

omit hw in
/-- The defaults of the PDOs of a controller are entries of PDOs. -/
theorem commDefaults_spares (j : Nat) (hx : x.name ∉ pdoNames) : Spares x v y (commDefaults j) := by
  have hrow : ∀ n ∈ pdoNames, n ≠ .highestSub ∧ (rowOf n).count = 12 := by decide
  have hput {n : Name} (hn : n ∈ pdoNames) {k : Nat} (hk : k < 12) {i : Nat} (hi : i < (rowOf n).subCount) (w : U32) :
      Spares x v y (wri n k i w) :=
    put_spares n (hrow n hn).1 ((hrow n hn).2 ▸ hk) hi fun e => absurd (e ▸ hn) hx
  simp only [commDefaults, all_each, all_ask, all_all, List.forall_mem_cons, all_seq, modPdo_spares, List.mem_range, List.not_mem_nil,
    false_imp_iff, implies_true, and_true]
  intro k hk s
  have hk := pdosOf_lt hk
  have hone (n : Name) (w : U32) (hn : n ∈ pdoNames) (hi : 0 < (rowOf n).subCount) : Spares x v y (wr n k w) := hput hn hk hi w
  refine ⟨hone _ _ (by decide) (by decide), hone _ _ (by decide) (by decide), ?_,
    fun i hi => ⟨hput (by decide) hk hi _, hput (by decide) hk hi _⟩⟩
  simp (disch := decide) only [hone, and_self]

theorem setClaim_spares (c : Option Ctx) {k : Nat} (hk : k < 56) (hx : x.name ≠ .claim) (w who : Nat) :
    Spares x v y (setClaim c (k + 1) w who) := by
  have hb : Spares x v y (bump (k + 1)) := bump_spares hw (by omega)
  have hp : Spares x v y (wri .claim 0 k (u32 w)) := put_spares .claim (by simp) Nat.one_pos hk fun e => absurd e hx
  simp only [setClaim, all_all, List.forall_mem_cons, Nat.add_sub_cancel, hb, hp, emitBy_spares]
  refine ⟨trivial, trivial, ?_, by simp⟩
  split
  · exact journalWrite_spares _ _ _ _ _
  · trivial

/-- The reset of a path releases its units. -/
theorem pathReset_spares {p : Path} (hp : p ≠ .p6) (hx : x.name ≠ .claim) : Spares x v y (pathReset p) := by
  have hl : Spares x v y (wri .lastHostSeq 0 p.num 0xFFFF) := wri_spares hw Nat.one_pos (by decide) (by revert hp; cases p <;> decide) _
  simp only [pathReset, all_ask, all_all, List.forall_mem_cons, setGrant_spares hw, all_each, List.mem_range, all_when, hl, emitBy_spares,
    true_and]
  exact fun s => ⟨fun k hk _ => setClaim_spares hw none hk hx _ _, by simp⟩

/-- A Reset Communication sets the entries of the controller's PDOs, its path and its state. -/
theorem resetComm_spares {j : Nat} (hj : j < 2) (hy : j ≠ y) (hx : x.name ∉ .claim :: pdoNames) : Spares x v y (resetComm j false) := by
  obtain ⟨hc, hp⟩ : x.name ≠ .claim ∧ x.name ∉ pdoNames := by simpa only [List.mem_cons, not_or] using hx
  have hctrl (f : Ctrl → Ctrl) : Spares x v y (modCtrl j f) := fun _ => hy
  simp (disch := decide) [resetComm, bootMessage, pathReset_spares hw (canPath_ne_p6 j) hc, commDefaults_spares j hp, hctrl, wr_spares hw hj, wrN_spares hw hj]

/-- A NODE_ID resets its controller only where it comes over another path. -/
theorem netEffect_spares {p : Path} {n : Name} {j : Nat} (hj : j < (rowOf n).count) (hy : n = .nodeId → p ≠ canPath j → j ≠ y)
    (hx : n = .nodeId → x.name ∉ .claim :: pdoNames) : Spares x v y (netEffect p n j) := by
  unfold netEffect
  split
  case h_2 =>
    simp only [nodeIdWritten, all_ask, all_when, Bool.and_eq_true, decide_eq_true_eq]
    exact fun s h => resetComm_spares hw hj (hy rfl h.2) (hx rfl)
  all_goals simp

theorem linkEffect_spares {n : Name} (hn : n.writable = true) (w : U32) : Spares x v y (linkEffect n w) := by
  unfold linkEffect
  split
  case h_1 => simp (disch := decide) [memberOut, toRepeat, frame, wrN_spares hw Nat.one_pos]
  case h_2 => exact absurd hn (by decide)
  case h_3 => trivial

theorem seqAdvance_spares : Spares x v y seqAdvance := by
  have hb : Spares x v y (bump unitSeq) := bump_spares hw (by decide)
  simp (disch := decide) [seqAdvance, upStart, downStart, seqTo, enSet, lossEnd, seqAtZero, seqEmit, seqClear, Prog.live,
    wrN_spares hw Nat.one_pos, hb]

theorem powerEffect_spares {n : Name} (hn : n.writable = true) : Spares x v y (powerEffect n) := by
  unfold powerEffect
  split
  case h_4 | h_5 => exact absurd hn (by decide)
  case h_6 => trivial
  all_goals exact seqAdvance_spares hw

end

/-! ### A write -/

/-- The entries that the effect of a write gives another value than 0. -/
def Name.sets : Name → List Name
  | .retarget => [.axisTarget]
  | .bankPowerReq => [.owner]
  | .cmdEn => [.cmdTail, .cplTail]
  | .nodeId => .claim :: pdoNames
  | _ => []

/-- The entries that the effect of a write of 0 gives the value 0. -/
def Name.zeroes : Name → List Name
  | .stringEn => [.stringEn]
  | .bufBase | .bufLog2 => [.rdPtr]
  | _ => []

/-- The effect of a write of an entry `e` other than FENCE_REQ leaves the entries that paths write. -/
theorem writeEffect_spares {x e : Ent} {v : U32} {y : Nat} {p : Path} {w : U32} (hw : x.name.writable = true) (hp : e.Placed) (hn : e.name.writable = true)
    (hf : e.name ≠ .fenceReq) (hy : e.name = .nodeId → p ≠ canPath e.inst → e.inst ≠ y) (hs : x.name ∉ e.name.sets) (hz : x.name ∈ e.name.zeroes → v = 0 ∧ w = 0)
    (old : U32) : Spares x v y (writeEffect p e w old) := by
  obtain ⟨n, j, i⟩ := e
  obtain ⟨-, hj, -⟩ := hp
  dsimp only at hn hf hy hs hz hj
  have hbank : n = .owner ∨ n = .bankPowerReq → Spares x v y (bankEffect n j w.toNat) := fun h =>
    bankEffect_spares hw h hj (by rintro rfl; simpa [Name.sets] using hs) _
  have hcover : n = .coverEn → Spares x v y (coverEnWrite j w) := by rintro rfl; exact coverEnWrite_spares hw hj w
  have hcal : n ≠ .calCmd := by rintro rfl; exact absurd hn (by decide)
  simp only [writeEffect, all_all, List.forall_mem_cons, all_ite, hcal, false_imp_iff, all_all_nop, implies_true, and_true, Bool.or_eq_true, decide_eq_true_eq]
  refine ⟨headEffect_spares hw hn hj w old, feEffect_spares hw n j w, trivial, hcover,
    motionEffect_spares hw p hn hj (by rintro rfl; simpa [Name.sets] using hs) w old,
    lightEffect_spares hw hn hj (by rintro rfl; simpa [Name.zeroes] using hz) old, heathEntEffect_spares hw n w, timerEffect_spares hw hj w,
    hbank, safeEffect_spares hw hn w, streamEffect_spares hw hj ?_ w, hostEffect_spares hw hn (by rintro rfl; simpa [Name.sets] using hs) w,
    netEffect_spares hw hj hy (by rintro rfl; exact hs), linkEffect_spares hw hn w, powerEffect_spares hw hn, by simp [hf]⟩
  simp only [List.mem_cons, List.not_mem_nil, or_false]
  rintro (rfl | rfl) h
  · exact (hz (by simp [h, Name.zeroes])).1
  · exact (hz (by simp [h, Name.zeroes])).1

end Sys2Proof.Machine
end

section
/-! SUPPORT. An accepted write of an entry that keeps its value gives it the value. -/
namespace Sys2Proof.Machine

-- One proof at a time: a thread for each would need more memory than a check has.
set_option Elab.async false

open Prog

def unitsSmall (r : Row) : Bool :=
  (List.range r.count).all fun j => (List.range r.subCount).all fun i => (unitAt r.base j i).all (Nat.ble · 56)

theorem allNames_unitsSmall : (allNames.map rowOf).all unitsSmall = true := by decide +kernel

theorem unit_le {e : Ent} (he : e.Placed) {u : Nat} (h : e.unit = some u) : u ≤ 56 := by
  obtain ⟨n, j, i⟩ := e
  obtain ⟨hn, hj, hi⟩ := he
  dsimp only at hn hj hi
  have hr := List.all_eq_true.mp allNames_unitsSmall _ (List.mem_map_of_mem (mem_allNames hn))
  have hu : Ent.unit ⟨n, j, i⟩ = unitAt (rowOf n).base j i := by
    unfold Ent.unit
    split
    · next g => exact absurd g hn
    · rfl
  have hb := List.all_eq_true.mp (List.all_eq_true.mp hr j (List.mem_range.mpr hj)) i (List.mem_range.mpr hi)
  rw [← hu, h] at hb
  exact Nat.le_of_ble_eq_true hb

theorem placed_of_lookup {idx sub : Nat} {e : Ent} (h : lookup idx sub = .ok e) (ha : accessOf e = .rw ∨ accessOf e = .rwp) :
    e.Placed ∧ e.name.writable = true := by
  have hn : e.name ≠ .highestSub := fun g => by rw [accessOf, if_pos g] at ha; simp at ha
  rw [accessOf, if_neg hn] at ha
  exact ⟨lookup_placed h hn, by simpa [Name.writable, Ent.row] using ha⟩

/-- The entry has the value, the responses at controller `y` wait as before, and the command channels are as before. -/
def Given (e : Ent) (v : U32) (y : Nat) (s t : State) : Prop :=
  t.rd e.name e.inst e.item = v ∧ s.KeepsReplies y t ∧ t.cmds = s.cmds

theorem Given.spared {e : Ent} {v : U32} {y : Nat} {s t u : State} (h : Given e v y s t) (g : Spared e v y t u) : Given e v y s u :=
  ⟨g.keeps h.1, h.2.1.trans g.replies, g.cmds.trans h.2.2⟩

theorem Spared.given {e : Ent} {v w : U32} {y : Nat} {s t u : State} (h : Spared e v y s t) (g : Given e w y t u) : Given e w y s u :=
  ⟨g.1, h.replies.trans g.2.1, g.2.2.trans h.cmds⟩

/-- A FENCE_REQ does nothing but tell the fence logic. -/
theorem Given.fenceReq {e : Ent} {v w old : U32} {y j i : Nat} {p : Path} {s t : State} (h : Given e v y s t) :
    Given e v y s ((writeEffect p ⟨.fenceReq, j, i⟩ w old).run t) := by
  have hrun : (writeEffect p ⟨.fenceReq, j, i⟩ w old).run t = (if w ≠ old then fenceRequest i w.toNat else .nop : Prog).run t := by
    by_cases hw : w = old <;> simp [writeEffect, headEffect, feEffect, motionEffect, lightEffect, heathEntEffect, timerEffect, safeEffect,
      streamEffect, hostEffect, netEffect, linkEffect, powerEffect, hw]
  rw [hrun]
  split
  · exact h
  · exact h

section
variable {e : Ent} (he : e.Placed) (hw : e.name.writable = true)
include he hw

/-- What follows the value of an accepted write: the epoch of its unit, the journal entry, and the calibration that it invalidates. -/
theorem commit_gives (c : Ctx) (w : U32) (y : Nat) (s : State) :
    Given e (masked e.name w) y s ((commit c e.name e.inst e.item w).run s) := by
  have hput : Given e (masked e.name w) y s ((Op.put e.name e.inst e.item (masked e.name w)).apply s) := ⟨State.rd_put .., rfl, rfl⟩
  refine hput.spared (Spares.run he hw (p := .seq _ (.seq _ (.seq _ .nop))) ⟨?_, journalWrite_spares _ _ _ _ _, invalidateIf_spares hw _, trivial⟩ _)
  split
  · next u hu => exact bump_spares hw (unit_le he hu)
  · trivial

theorem takeValue_gives (c : Ctx) (hc : e.name ≠ .claim) (w : U32) (y : Nat) (s : State) :
    Given e (masked e.name w) y s ((takeValue c e w).run s) := by
  have hn := he.1
  have hwo : accessOf e ≠ .wo := fun g => by
    rw [accessOf, if_neg hn] at g
    simp [Name.writable, show (rowOf e.name).access = .wo from g] at hw
  rw [takeValue, if_neg hc, if_neg hwo, run_seq]
  refine (commit_gives he hw c w y s).spared (Spares.run he hw ?_ _)
  simp only [all_when, Bool.and_eq_true, decide_eq_true_eq]
  rintro ⟨hp, -⟩
  obtain ⟨n, j, i⟩ := e
  obtain ⟨-, -, hi⟩ := he
  dsimp only at hp hi
  subst hp
  have hi : i < 6 := hi
  exact bump_spares hw (by simp only [pairSecondUnit, unitHead]; omega)

/-- An accepted write gives an entry that paths write its value, whatever else the write does. -/
theorem applyWrite_gives {p : Path} {w : U32} {s : State} {y : Nat} (hn : e.name ∉ [.claim, .stringEn]) (hi : idleWrite s e w = false)
    (hy : e.name = .nodeId → p ≠ canPath e.inst → e.inst ≠ y) :
    Given e (masked e.name w) y s ((applyWrite { path := p, ents := [(e, w)] }).run s) := by
  obtain ⟨hc, hst⟩ : e.name ≠ .claim ∧ e.name ≠ .stringEn := by simpa using hn
  have hl : e.name ≠ .levelKey ∧ e.name ≠ .restoreDefaults := by
    constructor <;> intro g <;> rw [g] at hw <;> exact absurd hw (by decide)
  have hs : e.name ∉ e.name.sets := by
    unfold Name.sets
    split <;> simp_all [pdoNames]
  have hz : e.name ∈ e.name.zeroes → masked e.name w = 0 ∧ masked e.name w = 0 := fun h => by
    unfold Name.zeroes at h
    split at h <;> simp_all
  rw [applyWrite_plain p e w s hi ⟨hc, hl⟩]
  have h1 := Spares.run he hw (v := masked e.name w) (y := y) (timerBefore_spares e.name e.inst) s
  have h2 := Spares.run he hw (v := masked e.name w) (y := y) (streamBefore_spares e.name e.inst) ((timerBefore e.name e.inst).run s)
  have h3 := (h1.trans h2).given (takeValue_gives he hw { path := p } hc w y _)
  by_cases hf : e.name = .fenceReq
  · obtain ⟨n, j, i⟩ := e
    obtain rfl : n = .fenceReq := hf
    exact h3.fenceReq
  · exact h3.spared (Spares.run he hw (writeEffect_spares hw he hw hf hy hs hz _) _)
end

/-- A write of an entry by its index that passes is applied, and then answered. -/
theorem writeAt_takes {s : State} {p : Path} {o : Origin} {idx sub : Nat} {w : U32} (k : Verdict → Prog) {l : Status} {e : Ent}
    (he : lookup idx sub = .ok e) (hp : notForPath p e = false) (hm : e.name ≠ .modeReq) (hd : e.name ≠ .deviceReset)
    (h : (verdict s { path := p, origin := o, lenSt := l, ents := [(e, w)] }).st = .ok) :
    (writeAt p o idx sub w k l).run s = (k (verdict s { path := p, origin := o, lenSt := l, ents := [(e, w)] })).run
      ((applyWrite { path := p, ents := [(e, w)] }).run s) := by
  simp only [writeAt, he, hp, Bool.false_eq_true, if_false]
  rw [submit_ok h (by intro e' w' g; simp at g; rw [← g.1]; exact hm) (by simpa using hd), run_seq, noteRefusal, run_when, h, if_neg (by simp)]
  rfl

/-- A DICTIONARY_WRITE that passes gives its entry the value. -/
theorem dictionaryWrite_gives {s : State} {p : Path} {idx : BitVec 16} {sub : Byte} {w : U32} {e : Ent}
    (he : lookup idx.toNat sub.toNat = .ok e) (hp : notForPath p e = false) (ha : accessOf e = .rw ∨ accessOf e = .rwp)
    (hn : e.name ∉ [.modeReq, .claim, .stringEn]) (hf : ¬ (p ∈ [.p1, .p2] ∧ idx = 0x2020 ∧ sub = 0)) (hi : idleWrite s e w = false)
    (h : Takes s p e w) : Answers (.dictionaryWrite p idx sub w 0xF) s fun t => t.rd e.name e.inst e.item = masked e.name w := by
  obtain ⟨hpl, hw⟩ := placed_of_lookup he ha
  obtain ⟨hm, hn⟩ : e.name ≠ .modeReq ∧ e.name ∉ [.claim, .stringEn] := by simpa using hn
  have hd : e.name ≠ .deviceReset := fun g => by rw [g] at hw; exact absurd hw (by decide)
  have hy : e.name = .nodeId → p ≠ canPath e.inst → e.inst ≠ 2 := fun g _ g2 => by
    have := hpl.2.1
    rw [g, g2] at this
    exact absurd this (by decide)
  obtain ⟨hv, -, hc⟩ := applyWrite_gives hpl hw hn hi hy
  have hrun := writeAt_takes (o := .plain) (l := need (decide ((0xF : BitVec 4) = 0xF)) .length) (fun _ => .nop) he hp hm hd h.ok
  rw [run_nop] at hrun
  have hn : NoHeld s := ⟨h.held3, h.held4, h.held5⟩
  refine ⟨_, dictionaryWrite_run h.live h.up hf, ?_⟩
  rw [settled_run_noHeld (by rw [hrun]; exact hn.of_cmds hc), hrun]
  exact hv

end Sys2Proof.Machine
end

section
/-! PROOF. O11: what a write of an entry, of the level key, of a claim and of the error field does. -/
namespace Sys2Proof.Machine

-- One proof at a time: a thread for each would need more memory than a check has.
set_option Elab.async false

open Prog

theorem Takes.noHeld {s : State} {p : Path} {e : Ent} {w : U32} (h : Takes s p e w) : NoHeld s := ⟨h.held3, h.held4, h.held5⟩

/-- A write that passes answers with what its application leaves. -/
theorem writeRow_answers {c : Instr} {s : State} {p : Path} {e : Ent} {w : U32} {P : State → Prop} {W : List Nat} {L : List Part}
    (hx : exec c s = .next ((writeRow p e w).run s)) (h : Takes s p e w) (hm : e.name ≠ .modeReq) (hr : e.name ≠ .deviceReset)
    (hf : Frame W L s ((applyWrite { path := p, ents := [(e, w)] }).run s)) (hL : .cmds ∉ L)
    (hP : P ((applyWrite { path := p, ents := [(e, w)] }).run s)) : Answers c s P := by
  refine ⟨_, hx, ?_⟩
  rw [writeRow_takes h hm hr fun k => congrArg (fun c => Store.get ({} : CmdPath) c k) (hf.cmds hL)]
  exact hP

/-! ### The level key -/

theorem setGrant_grants {p : Path} (hp : p ≠ .p6) (s : State) : ((setGrant p true).run s).granted p = true := by
  rw [setGrant, run_ask, run_when]
  split
  · next h =>
    have hb : (s.rdN .levelGranted).testBit p.num = false := by
      simpa [State.granted, bitAt] using (Bool.and_eq_true _ _ ▸ h : (s.granted p != true) = true ∧ decide (p ≠ .p6) = true).1
    have he := (emitBy_frame p (ev := .levelChanged) (by decide) (by decide) 0 islHost (pack [(8, p.num), (8, bit01 true)]) 0
      ((wrN .levelGranted 0 (s.rdN .levelGranted + 2 ^ p.num)).run s)).1 .levelGranted 0 0 (by simp)
    have h32 : p.num < 32 := by cases p <;> decide
    have hset : (2 ^ p.num + s.rdN .levelGranted).testBit p.num = true := by rw [Nat.testBit_two_pow_add_eq, hb, Bool.not_false]
    rw [State.granted, bitAt, State.rdN, if_pos (Eq.refl true), run_seq, he, run_wrN, State.rd_put, u32, BitVec.toNat_ofNat,
      Nat.testBit_mod_two_pow, decide_eq_true h32, Bool.true_and, Nat.add_comm, hset]
  · next h => simpa [hp] using h

theorem takeValue_levelKey (c : Ctx) (w : U32) (s : State) : (takeValue c { name := .levelKey } w).run s = s := by
  have h : calEntry (Ent.index { name := .levelKey }) = false := by decide
  have ha : accessOf { name := .levelKey } = .wo := by decide
  rw [takeValue, if_neg (by simp), if_pos ha, invalidateIf, h]
  rfl

theorem levelKey_applies (p : Path) (w : U32) (s : State) :
    (applyWrite { path := p, ents := [({ name := .levelKey }, w)] }).run s = (setGrant p (decide (w ≠ 0))).run s := by
  simp only [applyWrite, run_ask, List.filter, idleWrite, Bool.not_false, all_cons, all_nil, each_cons, each_nil, run_seq, run_nop,
    takeValue_levelKey]
  rfl

/-! ### Claims -/

theorem claim_applies (p : Path) (u : Nat) (w : U32) (s : State) :
    (applyWrite { path := p, ents := [({ name := .claim, item := u }, w)] }).run s = (claimAct { path := p } (u + 1) w).run s := rfl

theorem journalWrite_frame (c : Ctx) (e : Ent) (u k : Nat) (w : U32) (s : State) : Frame [] reporting s ((journalWrite c e u k w).run s) :=
  Prog.run_frame (journalWrite_within [] (fun _ h => h) c e u k w) s

theorem epoch_ne_claim (u k : Fin 56) : keyOf .epoch 0 u ≠ keyOf .claim 0 k := by
  simp only [keyOf, indexOf, subOf, rowOf]
  omega

theorem epochOf_congr {s t : State} {u : Nat} (h : t.rd .epoch 0 u = s.rd .epoch 0 u) : t.epochOf (u + 1) = s.epochOf (u + 1) := by
  simp only [State.epochOf, State.rdN, Nat.add_sub_cancel, h]

/-- A write of a claim gives it its value and moves the unit's epoch on. -/
theorem setClaim_effect (c : Ctx) (u : Fin 56) (w who : Nat) (s : State) :
    let t := (setClaim (some c) (u + 1) w who).run s
    t.rd .claim 0 u = u32 w ∧ t.epochOf (u + 1) = (s.epochOf (u + 1) + 1) % 65536 ∧ Frame [keyOf .claim 0 u, keyOf .epoch 0 u] reporting s t := by
  let s1 := (Op.put .claim 0 u (u32 w)).apply s
  let s2 := (Op.put .epoch 0 u (u32 ((s1.epochOf (u + 1) + 1) % 65536))).apply s1
  have hrep : Frame [] reporting s2 ((setClaim (some c) (u + 1) w who).run s) :=
    (journalWrite_frame c { name := .claim, item := u } (u + 1) 2 (u32 w) s2).trans
      (emitBy_frame c.path (ev := .claimChanged) (by decide) (by decide) (u + 1) islHost (pack [(8, u + 1), (8, who)]) 0 _)
  have hput : Frame [keyOf .claim 0 u, keyOf .epoch 0 u] reporting s s2 :=
    (Op.within_frame (o := .put ..) s (.head _)).trans (Op.within_frame (o := .put ..) s1 (.tail _ (.head _)))
  refine ⟨?_, ?_, hput.trans (hrep.mono (by simp) fun _ h => h)⟩
  · rw [hrep.1 _ _ _ (by simp), State.rd_put_other _ _ (epoch_ne_claim u u), State.rd_put]
  · have h1 : s1.rd .epoch 0 u = s.rd .epoch 0 u := State.rd_put_other _ _ (epoch_ne_claim u u).symm
    have hs : s1.epochOf (u + 1) = s.epochOf (u + 1) := epochOf_congr h1
    have h2 : s2.rd .epoch 0 u = u32 ((s1.epochOf (u + 1) + 1) % 65536) := State.rd_put ..
    show BitVec.toNat (State.rd _ .epoch 0 u) = _
    rw [hrep.1 _ _ _ (by simp), h2, hs, u32, BitVec.toNat_ofNat, Nat.mod_eq_of_lt]
    exact (Nat.mod_lt _ (by decide)).trans (by decide)

/-- A claim of another value is set, and a unit that another path held is reported as broken. -/
theorem claimAct_run {p : Path} {u : Fin 56} {w : U32} {s : State} (h : w.toNat ≠ s.rdN .claim 0 u) :
    (claimAct { path := p } (u + 1) w).run s =
      (when (s.rdN .claim 0 u ≠ 0xFF && s.rdN .claim 0 u ≠ p.num)
        (emitBy p .claimBroken (u + 1) islHost (pack [(8, u + 1), (8, s.rdN .claim 0 u), (8, p.num)]))).run
        ((setClaim (some { path := p }) (u + 1) w.toNat p.num).run s) := by
  simp only [claimAct, run_ask, State.holderOf, Nat.add_sub_cancel, if_neg h, run_seq]

/-- Where nobody's claim is broken, a claim write sets the claim. -/
theorem claim_sets {c : Instr} {s : State} {p : Path} {u : Fin 56} {w : U32} (hx : exec c s = .next ((writeRow p { name := .claim, item := u } w).run s))
    (h : Takes s p { name := .claim, item := u } w) (hne : w.toNat ≠ s.rdN .claim 0 u)
    (hq : (decide (s.rdN .claim 0 u ≠ 0xFF) && decide (s.rdN .claim 0 u ≠ p.num)) = false) :
    Answers c s fun t => t.rd .claim 0 u = w ∧ t.epochOf (u + 1) = (s.epochOf (u + 1) + 1) % 65536
      ∧ Frame [keyOf .claim 0 u, keyOf .epoch 0 u] reporting s t := by
  obtain ⟨h1, h2, h3⟩ := setClaim_effect { path := p } u w.toNat p.num s
  have hrun := claim_applies p u w s
  rw [claimAct_run hne, run_when, if_neg (by rw [hq]; simp)] at hrun
  refine writeRow_answers hx h (by simp) (by simp) (by rw [hrun]; exact h3) (by decide) ?_
  rw [hrun]
  exact ⟨h1.trans (BitVec.ofNat_toNat ..), h2, h3⟩

theorem Frame.fenced {W : List Nat} {L : List Part} {s t : State} (h : Frame W L s t) (hL : .islands ∉ L) (i : Nat) :
    t.fenced i = s.fenced i :=
  congrArg (fun l => decide ((Store.get ({} : Island) l i).st ≠ .running)) (h.2 .islands hL)

theorem claim_breaks {c : Instr} {s : State} {p : Path} {u : Fin 56} {w : U32} (hx : exec c s = .next ((writeRow p { name := .claim, item := u } w).run s))
    (h : Takes s p { name := .claim, item := u } w) (hne : w.toNat ≠ s.rdN .claim 0 u)
    (hq : s.rdN .claim 0 u ≠ 0xFF) (hp : s.rdN .claim 0 u ≠ p.num) (hf : s.fenced islHost = false) :
    Answers c s fun t => t.rd .claim 0 u = w ∧ t.epochOf (u + 1) = (s.epochOf (u + 1) + 1) % 65536
      ∧ t.newest = some (Event.claimBroken, u.val + 1, pack [(8, u.val + 1), (8, s.rdN .claim 0 u), (8, p.num)])
      ∧ Frame [keyOf .claim 0 u, keyOf .epoch 0 u] reporting s t := by
  obtain ⟨h1, h2, h3⟩ := setClaim_effect { path := p } u w.toNat p.num s
  have hrun := claim_applies p u w s
  rw [claimAct_run hne, run_when, if_pos (by simp [hq, hp])] at hrun
  have hem := emitBy_frame p (ev := .claimBroken) (by decide) (by decide) (u + 1) islHost (pack [(8, u + 1), (8, s.rdN .claim 0 u), (8, p.num)]) 0
    ((setClaim (some { path := p }) (u + 1) w.toNat p.num).run s)
  have hfr := h3.trans (hem.mono (by simp) fun _ h => h)
  refine writeRow_answers hx h (by simp) (by simp) (by rw [hrun]; exact hfr) (by decide) ?_
  rw [hrun]
  refine ⟨(hem.1 _ _ _ (by simp)).trans (h1.trans (BitVec.ofNat_toNat ..)), (epochOf_congr (hem.1 .epoch 0 u (by simp))).trans h2, ?_, hfr⟩
  exact emitBy_newest p .claimBroken _ _ _ _ ((h3.fenced (by decide) islHost).trans hf)

/-! ### The error field -/

theorem errorCount_applies (p : Path) (s : State) :
    (applyWrite { path := p, ents := [({ name := .errorCount }, 0)] }).run s =
      Op.clearErrors.apply ((journalWrite { path := p } { name := .errorCount } 0 2 0).run ((Op.put .errorCount 0 0 0).apply s)) := rfl

end Sys2Proof.Machine

namespace Sys2Proof.Proofs

-- One proof at a time: a thread for each would need more memory than a check has.
set_option Elab.async false

open Sys2Proof.Machine Prog

/-- Settles O11: the effects of a write spare its entry; claims, the level key and the error field by what their writes run. -/
theorem dictionaryAndClaimWritesComplete : Obligations.DictionaryAndClaimWritesComplete := by
  refine ⟨?_, ?_, ?_, ?_, ?_, ?_⟩
  · intro p idx sub v e s he hp ha hn hf hi h
    exact dictionaryWrite_gives he hp ha hn hf hi h
  · intro p v s hp h
    have hfr : Frame [keyOf .levelGranted 0 0] reporting s ((applyWrite { path := p, ents := [({ name := .levelKey }, v)] }).run s) := by
      rw [levelKey_applies]
      exact setGrant_frame ..
    refine writeRow_answers rfl h (by simp) (by simp) hfr (by decide) ⟨?_, hfr⟩
    rw [levelKey_applies]
    by_cases h0 : v ≠ 0
    · rw [decide_eq_true h0]
      exact setGrant_grants hp s
    · rw [decide_eq_false h0]
      exact setGrant_clears hp s
  · intro p u v s h hfree hv
    have hold : s.rdN .claim 0 u = 0xFF := congrArg BitVec.toNat hfree
    refine claim_sets rfl h (fun g => hv (BitVec.eq_of_toNat_eq ?_)) (by rw [hold]; rfl)
    rw [hold, BitVec.toNat_setWidth, Nat.mod_eq_of_lt (v.isLt.trans (by decide))] at g
    exact g
  · intro p u s h hown
    refine claim_sets rfl h ?_ (by rw [hown]; simp)
    rw [hown]
    cases p <;> decide
  · intro p u s h hother hheld hf
    exact claim_breaks rfl h (Ne.symm hheld) hheld hother hf
  · intro p s h
    have hj := journalWrite_frame { path := p } { name := .errorCount } 0 2 0 ((Op.put .errorCount 0 0 0).apply s)
    have hfr : Frame [keyOf .errorCount 0 0] reporting s ((applyWrite { path := p, ents := [({ name := .errorCount }, 0)] }).run s) := by
      rw [errorCount_applies]
      exact ((Op.within_frame (o := .put ..) s (.head _)).trans (hj.mono (by simp) fun _ h => h)).trans
        (Op.within_frame (o := .clearErrors) _ (by simp [Op.within, Op.touches, reporting]))
    refine writeRow_answers rfl h (by simp) (by simp) hfr (by decide) ⟨?_, ?_, hfr⟩
    · rw [errorCount_applies]
      rfl
    · rw [errorCount_applies]
      exact (hj.1 .errorCount 0 0 (by simp)).trans (State.rd_put ..)

end Sys2Proof.Proofs
end

section
/-! SUPPORT. A restore of defaults gives every entry that it restores its default. -/
namespace Sys2Proof.Machine

-- One proof at a time: a thread for each would need more memory than a check has.
set_option Elab.async false

open Prog

/-! ### The names that a restore sets -/

/-- What a restore needs of a name: its effects set no entry that a restore sets, and a DOMAIN object of it has a table. -/
def restorable (n : Name) : Bool :=
  n.writable && n ≠ .highestSub && n ≠ .fenceReq && n ≠ .nodeId && (n = .retarget || n.sets.isEmpty) && (n = .stringEn || n.zeroes.isEmpty)
    && (!isDomain { name := n } || n ∈ [.pattern, .scanList, .userCurves, .ntcCoef, .polySets])

theorem restoredNames_restorable : restoredNames.all restorable = true := by decide +kernel

/-- The entry is one that a restore sets. -/
def Ent.Restored (e : Ent) : Prop := e.name ∈ restoredNames ∧ e.inst < (rowOf e.name).count ∧ e.item < (rowOf e.name).subCount

/-- Its default. -/
def Ent.dflt (e : Ent) : U32 := dfltOf e.name e.inst e.item

section
variable {e : Ent} (h : e.Restored)
include h

theorem Ent.Restored.restorable : restorable e.name = true := List.all_eq_true.mp restoredNames_restorable _ h.1

theorem Ent.Restored.writable : e.name.writable = true := by
  have := h.restorable
  simp only [Machine.restorable, Bool.and_eq_true] at this
  exact this.1.1.1.1.1.1

theorem Ent.Restored.placed : e.Placed := by
  have := h.restorable
  simp only [Machine.restorable, Bool.and_eq_true, decide_eq_true_eq] at this
  exact ⟨this.1.1.1.1.1.2, h.2⟩

/-- The effect of a restored default spares the other restored entries, and gives the entry no other value. -/
theorem restoredEffect_spares {x : Ent} (hx : x.Restored) (y : Nat) (old : U32) :
    Spares x x.dflt y (when (e.name ≠ .retarget && e.name ≠ .modeReq) (writeEffect .p6 e e.dflt old)) := by
  have hr := h.restorable
  simp only [Machine.restorable, Bool.and_eq_true, decide_eq_true_eq, Bool.or_eq_true, List.isEmpty_iff] at hr
  obtain ⟨⟨⟨⟨⟨-, hf⟩, hid⟩, hsets⟩, hzero⟩, -⟩ := hr
  have hstring {z : Ent} (hz : z.name = .stringEn) : z.dflt = 0 := by
    rw [Ent.dflt, hz]
    rfl
  simp only [all_when, Bool.and_eq_true, decide_eq_true_eq]
  rintro ⟨hre, -⟩
  refine writeEffect_spares hx.writable h.placed h.writable hf (fun g => absurd g hid) ?_ (fun hz => ?_) _
  · rw [hsets.resolve_left hre]
    exact List.not_mem_nil
  · rcases hzero with he | he
    · rw [he] at hz
      exact ⟨hstring (List.mem_singleton.mp hz), hstring he⟩
    · rw [he] at hz
      exact absurd hz List.not_mem_nil

/-- The action of a restore at one entry spares the others, and gives the entry no other value than its default. -/
theorem restoreEnt_spares {x : Ent} (hx : x.Restored) (y : Nat) : Spares x x.dflt y (restoreEnt e) := by
  have hput : Spares x x.dflt y (wri e.name e.inst e.item e.dflt) := ⟨h.placed, fun g => congrArg Ent.dflt (g : e = x)⟩
  simp only [restoreEnt, all_ask]
  intro s
  split
  · split
    · exact ⟨trivial, hput⟩
    · trivial
  · simp only [all_when (P := Op.spares x x.dflt y) (decide _), all_all, List.forall_mem_cons]
    exact fun _ => ⟨hput, invalidateIf_spares hx.writable _, restoredEffect_spares h hx y _, by simp⟩

/-- A restored DOMAIN object has a table. -/
theorem Ent.Restored.table (hd : isDomain e = true) (s : State) : ∃ a n, s.table e.name e.inst = some (a, n) := by
  have hr := h.restorable
  simp only [Machine.restorable, Bool.and_eq_true, Bool.or_eq_true, Bool.not_eq_true', decide_eq_true_eq] at hr
  have hn := hr.2.resolve_left (by rw [show isDomain { name := e.name } = isDomain e from rfl, hd]; simp)
  simp only [List.mem_cons, List.not_mem_nil, or_false] at hn
  rcases hn with hn | hn | hn | hn | hn <;> rw [hn] <;> exact ⟨_, _, rfl⟩

theorem restoreEnt_sets (s : State) : ((restoreEnt e).run s).rd e.name e.inst e.item = e.dflt := by
  rw [restoreEnt, run_ask]
  split
  · next hd =>
    obtain ⟨a, n, ht⟩ := h.table hd s
    rw [ht]
    exact State.rd_put ..
  · rw [run_when]
    split
    · refine (Spares.run h.placed h.writable (y := 0) (p := .seq _ (.seq _ .nop))
        ⟨invalidateIf_spares h.writable _, restoredEffect_spares h h 0 _, trivial⟩ _).keeps (State.rd_put ..)
    · next hq => exact not_not.mp fun g => hq (decide_eq_true g)

end

/-! ### The whole restore -/

/-- Programs one after the other leave what one of them brings about and the others keep. -/
theorem each_brings {α : Type} {R : State → Prop} {f : α → Prog} {a : α} {l : List α} (ha : a ∈ l) (hset : ∀ s, R ((f a).run s))
    (hkeep : ∀ b ∈ l, ∀ s, R s → R ((f b).run s)) (s : State) : R ((each l f).run s) := by
  have hall (l : List α) (hl : ∀ b ∈ l, ∀ s, R s → R ((f b).run s)) (s : State) (hs : R s) : R ((each l f).run s) := by
    induction l generalizing s with
    | nil => exact hs
    | cons b l ih => exact ih (fun c hc => hl c (List.mem_cons_of_mem _ hc)) _ (hl b List.mem_cons_self s hs)
  induction l generalizing s with
  | nil => exact absurd ha List.not_mem_nil
  | cons b l ih =>
    by_cases hb : a = b
    · subst hb
      exact hall l (fun c hc => hkeep c (List.mem_cons_of_mem _ hc)) _ (hset s)
    · exact ih ((List.mem_cons.mp ha).resolve_left hb) (fun c hc => hkeep c (List.mem_cons_of_mem _ hc)) _

/-- The entries of a name, of an instance, of all names that a restore sets. -/
def restoreName (n : Name) : Prog :=
  each (List.range (rowOf n).count) fun j => each (List.range (rowOf n).subCount) fun i => restoreEnt { name := n, inst := j, item := i }

theorem restoreName_spares {n : Name} (hn : n ∈ restoredNames) {x : Ent} (hx : x.Restored) (y : Nat) : Spares x x.dflt y (restoreName n) := by
  simp only [restoreName, all_each, List.mem_range]
  exact fun j hj i hi => restoreEnt_spares ⟨hn, hj, hi⟩ hx y

theorem restoreNames_sets {x : Ent} (hx : x.Restored) (s : State) :
    ((each restoredNames restoreName).run s).rd x.name x.inst x.item = x.dflt := by
  have hkeep {e : Ent} (he : e.Restored) (s : State) (hs : s.rd x.name x.inst x.item = x.dflt) :
      ((restoreEnt e).run s).rd x.name x.inst x.item = x.dflt :=
    (Spares.run hx.placed hx.writable (restoreEnt_spares he hx 0) s).keeps hs
  refine each_brings (R := fun s => s.rd x.name x.inst x.item = x.dflt) hx.1 (fun s => ?_)
    (fun n hn s hs => (Spares.run hx.placed hx.writable (restoreName_spares hn hx 0) s).keeps hs) s
  refine each_brings (R := fun s => s.rd x.name x.inst x.item = x.dflt) (List.mem_range.mpr hx.2.1) (fun s => ?_) (fun j hj s hs => ?_) s
  · exact each_brings (R := fun s => s.rd x.name x.inst x.item = x.dflt) (List.mem_range.mpr hx.2.2) (restoreEnt_sets hx)
      (fun i hi s hs => hkeep (e := ⟨x.name, x.inst, i⟩) ⟨hx.1, hx.2.1, List.mem_range.mp hi⟩ s hs) s
  · refine (Spares.run hx.placed hx.writable (y := 0) ?_ s).keeps hs
    simp only [all_each, List.mem_range]
    exact fun i hi => restoreEnt_spares (e := ⟨x.name, j, i⟩) ⟨hx.1, List.mem_range.mp hj, hi⟩ hx 0

theorem restoreFirst_spares {x : Ent} (hx : x.Restored) (y : Nat) : Spares x x.dflt y restoreFirst := by
  have hn : ∀ n ∈ [Name.headEn, .axisEn, .stringEn, .tmrRun, .heathEn], n ∈ restoredNames ∧ 0 < (rowOf n).subCount := by decide +kernel
  have hw := hx.writable
  have hent (n : Name) (hm : n ∈ [Name.headEn, .axisEn, .stringEn, .tmrRun, .heathEn]) (j : Nat) (hj : j < (rowOf n).count) :
      Spares x x.dflt y (restoreEnt { name := n, inst := j }) := restoreEnt_spares ⟨(hn n hm).1, hj, (hn n hm).2⟩ hx y
  simp only [restoreFirst, all_all, List.forall_mem_cons, all_each, List.mem_range, all_seq]
  exact ⟨fun h hh => ⟨headDisable_spares hw hh, hent _ (by decide) h hh⟩, fun a ha => ⟨axisDisable_spares hw ha, hent _ (by decide) a ha⟩,
    fun k hk => ⟨stringOffNow_spares hw hk, hent _ (by decide) k hk⟩, fun c hc => hent _ (by decide) c hc,
    hent _ (by decide) 0 (by decide), by simp⟩

/-- What a restore does before it reports. -/
def restoreEnts : Prog := .seq restoreFirst (.seq (each restoredNames restoreName) (each (List.range 56) fun k => bump (k + 1)))

theorem restoreEnts_run (s : State) :
    restoreEnts.run s = (each (List.range 56) fun k => bump (k + 1)).run ((each restoredNames restoreName).run (restoreFirst.run s)) := by
  rw [restoreEnts, run_seq, run_seq]

theorem all_four_run (a b c d : Prog) (s : State) : (all [a, b, c, d]).run s = d.run (c.run (b.run (a.run s))) := by
  simp only [all_cons, all_nil, run_seq, run_nop]

theorem restoreAll_run (p : Path) (s : State) :
    (restoreAll p).run s = (emitBy p .defaultsRestored 0 islHost (pack [(8, p.num)])).run (restoreEnts.run s) := by
  have hn : (fun n => each (List.range (rowOf n).count) fun j => each (List.range (rowOf n).subCount) fun i =>
      restoreEnt { name := n, inst := j, item := i }) = restoreName := funext fun _ => rfl
  rw [restoreAll, hn, all_four_run, restoreEnts_run]

theorem bumps_spares {x : Ent} (hx : x.Restored) (y : Nat) : Spares x x.dflt y (each (List.range 56) fun k => bump (k + 1)) :=
  (all_each _ _ _).mpr fun k hk => bump_spares hx.writable (by have := List.mem_range.mp hk; omega)

theorem restoreEnts_spares {x : Ent} (hx : x.Restored) (y : Nat) : Spares x x.dflt y restoreEnts :=
  ⟨restoreFirst_spares hx y, (all_each _ _ _).mpr fun _ hn => restoreName_spares hn hx y, bumps_spares hx y⟩

theorem restoreEnts_sets {x : Ent} (hx : x.Restored) (s : State) : (restoreEnts.run s).rd x.name x.inst x.item = x.dflt := by
  rw [restoreEnts_run]
  exact (Spares.run hx.placed hx.writable (bumps_spares hx 0) _).keeps (restoreNames_sets hx _)

end Sys2Proof.Machine
end

section
/-! PROOF. O14: RESTORE_DEFAULTS, MIRROR_UPDATE and STATE_DIGEST_UPDATE. -/
namespace Sys2Proof.Machine

-- One proof at a time: a thread for each would need more memory than a check has.
set_option Elab.async false

open Prog

/-! ### RESTORE_DEFAULTS -/

theorem takeValue_restoreDefaults (c : Ctx) (w : U32) (s : State) : (takeValue c { name := .restoreDefaults } w).run s = s := by
  have h : calEntry (Ent.index { name := .restoreDefaults }) = false := by decide
  have ha : accessOf { name := .restoreDefaults } = .wo := by decide
  rw [takeValue, if_neg (by simp), if_pos ha, invalidateIf, h]
  rfl

/-- A write of RESTORE_DEFAULTS takes no value; then the restore runs. -/
theorem applyWrite_restore {p : Path} {e : Ent} (h : e.name = .restoreDefaults) (w : U32) (s : State) :
    (applyWrite { path := p, ents := [(e, w)] }).run s =
      (restoreAll p).run ((takeValue { path := p } e w).run ((streamBefore e.name e.inst).run ((timerBefore e.name e.inst).run s))) := by
  have hi : idleWrite s e w = false := by rw [idleWrite, h]
  simp only [applyWrite, run_ask, List.filter, hi, Bool.not_false, all_cons, all_nil, each_cons, each_nil, run_seq, run_nop]
  split
  · next g => exact absurd (h.symm.trans g) (by simp)
  · next g => exact absurd (h.symm.trans g) (by simp)
  · rfl
  · next g => exact absurd h g

theorem restoreDefaults_applies (p : Path) (w : U32) (s : State) :
    (applyWrite { path := p, ents := [({ name := .restoreDefaults }, w)] }).run s = (restoreAll p).run s := by
  have ht : (timerBefore .restoreDefaults 0).run s = s := rfl
  have hb : (streamBefore .restoreDefaults 0).run s = s := rfl
  rw [applyWrite_restore rfl, ht, hb, takeValue_restoreDefaults]

theorem headEn_restored : Ent.Restored { name := .headEn } := by
  refine ⟨?_, by decide, by decide⟩
  decide +kernel

/-- A restore leaves the defaults, and its event as the newest report. -/
theorem restoreAll_restores (p : Path) {s : State} (hf : s.fenced islHost = false) :
    let t := (restoreAll p).run s
    t.newest = some (Event.defaultsRestored, 0, pack [(8, p.num)]) ∧ t.cmds = s.cmds
      ∧ ∀ x : Ent, x.Restored → t.rd x.name x.inst x.item = x.dflt := by
  have hsp := Spares.run headEn_restored.placed headEn_restored.writable (restoreEnts_spares headEn_restored 0) s
  have hem := emitBy_frame p (ev := .defaultsRestored) (by decide) (by decide) 0 islHost (pack [(8, p.num)]) 0 (restoreEnts.run s)
  have hfen : (restoreEnts.run s).fenced islHost = false :=
    (congrArg (fun l => decide ((Store.get ({} : Island) l islHost).st ≠ .running)) hsp.islands).trans hf
  rw [restoreAll_run]
  refine ⟨emitBy_newest p .defaultsRestored 0 islHost _ _ hfen, (hem.cmds (by decide)).trans hsp.cmds, fun x hx => ?_⟩
  exact (hem.1 _ _ _ (by simp)).trans (restoreEnts_sets hx s)

/-! ### MIRROR_UPDATE -/

theorem pushed_none {s : State} {e : Ent} (h : e.pushUnit = none) :
    Store.get (dfltOf e.name e.inst e.item) (s.pushed e) e.key = s.readEnt .p6 e := by
  rw [State.pushed, h]
  exact Store.get_put_same ..

/-- After the push of a unit the mirror holds the values of its entries, beside its epoch. -/
theorem pushed_unit {s : State} {e x : Ent} {u : Nat} (h : e.pushUnit = some u) (hx : x ∈ unitEnts u)
    (hone : ∀ y ∈ unitEnts u, y.key = x.key → y = x) (hk : x.key ≠ epochKey u) :
    Store.get (dfltOf x.name x.inst x.item) (s.pushed e) x.key = s.readEnt .p6 x := by
  rw [State.pushed, h]
  exact (Store.get_put_dflt _ _ _ _ hk).trans (foldl_reflected hone _ (.inl hx))

theorem pushed_epoch {s : State} {e : Ent} {u : Nat} (h : e.pushUnit = some u) :
    Store.get (dfltOf .epoch 0 (u - 1)) (s.pushed e) (epochKey u) = u32 (s.epochOf u) := by
  rw [State.pushed, h]
  exact Store.get_put_same ..

end Sys2Proof.Machine

namespace Sys2Proof.Proofs

-- One proof at a time: a thread for each would need more memory than a check has.
set_option Elab.async false

open Sys2Proof.Machine Prog

/-- Settles O14: no effect of a restored entry disturbs another one; the pushes and the digests by what they run. -/
theorem restoresAndMirrorsComplete : Obligations.RestoresAndMirrorsComplete := by
  refine ⟨?_, ?_, ?_⟩
  · intro p v s h hf
    obtain ⟨hnew, hcmd, hrd⟩ := restoreAll_restores p hf
    have hrun := restoreDefaults_applies p v s
    refine ⟨_, rfl, ?_⟩
    rw [writeRow_takes h (by simp) (by simp) fun k => ?_, hrun]
    · exact ⟨hnew, fun n hn j hj i hi => hrd ⟨n, j, i⟩ ⟨hn, hj, hi⟩⟩
    · rw [hrun]
      exact congrArg (fun c => Store.get ({} : CmdPath) c k) hcmd
  · intro idx sub e s h hl hf hp
    obtain ⟨t, hx, hm, hfr⟩ := mirrorUpdate_pushes h hl hf hp
    refine ⟨t, hx, fun hu => ?_, fun u hu => ⟨?_, fun x hxm hone hk => ?_⟩, hfr⟩
    · exact (State.mirrored_eq hm e).trans (pushed_none hu)
    · exact (State.mirrored_eq hm _).trans (pushed_epoch hu)
    · exact (State.mirrored_eq hm x).trans (pushed_unit hu hxm hone hk)
  · intro g s h
    exact stateDigestUpdate_digests g h

end Sys2Proof.Proofs
end

section
/-! SUPPORT. A whole download: what it writes, and the response that then waits. -/
namespace Sys2Proof.Machine

-- One proof at a time: a thread for each would need more memory than a check has.
set_option Elab.async false

open Prog

/-! ### The checks do not look at the controllers -/

section
variable (s : State) (k : Nat) (r : Ctrl)

theorem domVerdict_ctrl (q : DomReq) : domVerdict ((Op.ctrl k r).apply s) q = domVerdict s q := rfl

theorem withValues_ctrl (l : List (Ent × U32)) : ((Op.ctrl k r).apply s).withValues l = (Op.ctrl k r).apply (s.withValues l) := by
  unfold State.withValues
  induction l generalizing s with
  | nil => rfl
  | cons x l ih =>
    rw [List.foldl_cons, List.foldl_cons, ← ih]
    split <;> rfl

theorem stepState_ctrl (s' : State) (q : WriteReq) (e : Ent) (w : U32) :
    stepState ((Op.ctrl k r).apply s) ((Op.ctrl k r).apply s') q e w = stepState s s' q e w := by
  have h1 : bankWriteStatus ((Op.ctrl k r).apply s) = bankWriteStatus s := rfl
  have h2 : bothChange ((Op.ctrl k r).apply s) = bothChange s := rfl
  have h3 : coreState ((Op.ctrl k r).apply s) = coreState s := rfl
  have h4 : headStateCheck ((Op.ctrl k r).apply s') = headStateCheck s' := rfl
  have h5 : calCheck ((Op.ctrl k r).apply s) = calCheck s := rfl
  have h6 : motionState ((Op.ctrl k r).apply s') = motionState s' := rfl
  have h7 : lightState ((Op.ctrl k r).apply s') = lightState s' := rfl
  have h8 : heathEntState ((Op.ctrl k r).apply s) = heathEntState s := rfl
  have h9 : timerState ((Op.ctrl k r).apply s) = timerState s := rfl
  have h10 : safeState ((Op.ctrl k r).apply s) = safeState s := rfl
  have h11 (c : Prop) [Decidable c] : streamState (if c then (Op.ctrl k r).apply s else (Op.ctrl k r).apply s') = streamState (if c then s else s') := by
    split <;> rfl
  have h12 : hostState ((Op.ctrl k r).apply s) = hostState s := rfl
  have h13 : mapState ((Op.ctrl k r).apply s) = mapState s := rfl
  have h14 : linkState ((Op.ctrl k r).apply s) = linkState s := rfl
  have h15 : powerState ((Op.ctrl k r).apply s) = powerState s := rfl
  simp only [stepState, h1, h2, h3, h4, h5, h6, h7, h8, h9, h10, h11, h12, h13, h14, h15]

theorem verdict_ctrl (q : WriteReq) : verdict ((Op.ctrl k r).apply s) q = verdict s q := by
  have h1 : hostSteps ((Op.ctrl k r).apply s) q = hostSteps s q := rfl
  have h2 : stepEpoch ((Op.ctrl k r).apply s) = stepEpoch s := rfl
  have h3 : stepValue ((Op.ctrl k r).apply (s.withValues q.ents)) = stepValue (s.withValues q.ents) := rfl
  have h4 : stepState ((Op.ctrl k r).apply s) ((Op.ctrl k r).apply (s.withValues q.ents)) q = stepState s (s.withValues q.ents) q :=
    funext fun e => funext fun w => stepState_ctrl ..
  simp only [verdict, h1, h2, withValues_ctrl, h3, h4]

end

/-! ### The state in which a download begins -/

/-- On controller `x` the transfer in progress has ended, where it is that of the SDO channel, and nothing else. -/
structure Ready (x : Nat) (s u : State) : Prop where
  same : u = s ∨ ∃ r, u = (Op.ctrl x r).apply s
  ctrl : u.ctrl x = { s.ctrl x with xfer := if x = 0 then none else (s.ctrl x).xfer }

theorem Ready.ended (s : State) : Ready 0 s ((endXfer 0).run s) := ⟨.inr ⟨_, rfl⟩, modCtrl_ctrl 0 _ s⟩

theorem Ready.whole (s : State) : Ready 1 s s := ⟨.inl rfl, rfl⟩

section
variable {x : Nat} {s u : State} (h : Ready x s u)
include h

theorem Ready.frame : Frame [] [.ctrls] s u := by
  rcases h.same with rfl | ⟨r, rfl⟩
  · exact Frame.refl _ _ _
  · exact Op.within_frame s fun _ h => h

theorem Ready.verdict (q : WriteReq) : verdict u q = Machine.verdict s q := by
  rcases h.same with rfl | ⟨r, rfl⟩
  · rfl
  · exact verdict_ctrl ..

theorem Ready.domVerdict (q : DomReq) : domVerdict u q = Machine.domVerdict s q := by
  rcases h.same with rfl | ⟨r, rfl⟩
  · rfl
  · exact domVerdict_ctrl ..

theorem Ready.idleWrite (e : Ent) (w : U32) : idleWrite u e w = Machine.idleWrite s e w := by
  rcases h.same with rfl | ⟨r, rfl⟩
  · rfl
  · rfl

theorem Ready.replies : (u.ctrl x).replies = (s.ctrl x).replies := by rw [h.ctrl]

end

/-! ### Responses -/

/-- The response of a download waits behind the others. -/
theorem addReply_waits (x : Nat) (r : Reply) (v : State) :
    ((addReply x r).run v).ctrl x = { v.ctrl x with applying := none, replies := (v.ctrl x).replies ++ [r] } := modCtrl_ctrl x _ v

theorem addReply_frame (x : Nat) (r : Reply) (v : State) : Frame [] [.ctrls] v ((addReply x r).run v) := modCtrl_frame x _ v

section
variable (x : Nat) (r : Reply) (v : State)

theorem addReply_replies : (((addReply x r).run v).ctrl x).replies = (v.ctrl x).replies ++ [r] := by rw [addReply_waits]

theorem addReply_rd (n : Name) (j i : Nat) : ((addReply x r).run v).rd n j i = v.rd n j i := (addReply_frame x r v).1 n j i (by simp)

theorem addReply_byteAt (y : Nat) : ((addReply x r).run v).byteAt y = v.byteAt y :=
  congrArg (fun m => Store.get 0 m y) ((addReply_frame x r v).2 .mem (by decide))

theorem addReply_cmds : ((addReply x r).run v).cmds = v.cmds := (addReply_frame x r v).cmds (by decide)

end

/-- A download that is refused: LAST_STATUS of the controller's path, and the response. -/
theorem refuse_addReply {x : Nat} {s u : State} (h : Frame [] [.ctrls] s u) (st : Status) (i j : Nat) (r : Reply) :
    let t := (addReply x r).run ((refuse (canPath x) st i j).run u)
    t.ctrl x = { u.ctrl x with applying := none, replies := (u.ctrl x).replies ++ [r] }
      ∧ t.rd .lastStatus 0 (canPath x).num = u32 (st.code * 0x1000000 + i * 0x100 + j)
      ∧ Frame [keyOf .lastStatus 0 (canPath x).num] [.ctrls] s t := by
  have hr := refuse_canPath_frame x st i j u
  have hc : ((refuse (canPath x) st i j).run u).ctrl x = u.ctrl x := hr.ctrl (by simp) x
  have ha := addReply_frame x r ((refuse (canPath x) st i j).run u)
  refine ⟨?_, (ha.1 .lastStatus 0 (canPath x).num (by simp)).trans (refuse_rd_lastStatus ..), ?_⟩
  · rw [addReply_waits, hc]
  · exact ((h.mono (by simp) fun _ h => h).trans (hr.mono (fun _ h => h) (by simp))).trans (ha.mono (by simp) fun _ h => h)

/-! ### Windowed entries -/

/-- The write that a download of a windowed entry makes. -/
def downloadReq (x : Nat) (e : Ent) (bytes : List Byte) : WriteReq :=
  { path := canPath x, lenSt := need (decide (bytes.length = (typeOf e).bytes)) .length, origin := .sdo x, ents := [(e, valueOf e bytes)] }

theorem isCommand_of_windowed {e : Ent} (hd : isDomain e = false) : isCommand e = false := by
  have hne : e.name ≠ .command := fun g => by
    rw [isDomain, Ent.row, g] at hd
    exact absurd hd (by decide)
  simpa [isCommand] using hne

/-- A download under way is the one that the controller applies. -/
def downloading (x kind idx sub : Nat) : Prog :=
  modCtrl x fun c => { c with applying := some { kind := kind, index := idx, sub := sub, abort := 0 } }

theorem download_run_windowed {x kind idx sub : Nat} {e : Ent} (he : lookup idx sub = .ok e) (hp : notForPath (canPath x) e = false)
    (hd : isDomain e = false) (bytes : List Byte) (u : State) :
    (download x kind idx sub bytes).run u = (submit (downloadReq x e bytes) fun v => .seq (noteRefusal (canPath x) v)
      (addReply x { kind := kind, index := idx, sub := sub, abort := v.st.abort })).run ((downloading x kind idx sub).run u) := by
  simp only [download, he, hp, hd, isCommand_of_windowed hd, Bool.false_eq_true, if_false, run_seq]
  rfl

theorem download_run_error {x kind idx sub : Nat} {st : Status} (he : lookup idx sub = .error st) (bytes : List Byte) (u : State) :
    (download x kind idx sub bytes).run u =
      (addReply x { kind := kind, index := idx, sub := sub, abort := st.abort }).run ((refuse (canPath x) st idx sub).run u) := by
  simp only [download, he, run_seq]

section
variable {x kind idx sub : Nat} {e : Ent} {bytes : List Byte} {s u : State}
variable (h : Ready x s u) (he : lookup idx sub = .ok e) (hp : notForPath (canPath x) e = false) (hd : isDomain e = false)
include h he hp hd

theorem download_refused (hv : (verdict s (downloadReq x e bytes)).st ∉ notPlain) :
    let v := verdict s (downloadReq x e bytes)
    let t := (download x kind idx sub bytes).run u
    (t.ctrl x).replies = (s.ctrl x).replies ++ [{ kind := kind, index := idx, sub := sub, abort := v.st.abort }]
      ∧ t.rd .lastStatus 0 (canPath x).num = u32 (v.st.code * 0x1000000 + v.ent.index * 0x100 + v.ent.sub)
      ∧ Frame [keyOf .lastStatus 0 (canPath x).num] [.ctrls] s t := by
  have hver : verdict ((downloading x kind idx sub).run u) (downloadReq x e bytes) = verdict s (downloadReq x e bytes) :=
    (verdict_ctrl ..).trans (h.verdict _)
  have hfr : Frame [] [.ctrls] s ((downloading x kind idx sub).run u) := h.frame.trans (modCtrl_frame ..)
  obtain ⟨hc, hl, hf⟩ := refuse_addReply hfr (x := x) (verdict s (downloadReq x e bytes)).st (verdict s (downloadReq x e bytes)).ent.index
    (verdict s (downloadReq x e bytes)).ent.sub { kind := kind, index := idx, sub := sub, abort := (verdict s (downloadReq x e bytes)).st.abort }
  have hrep : (((downloading x kind idx sub).run u).ctrl x).replies = (s.ctrl x).replies := by
    rw [downloading, modCtrl_ctrl]
    exact h.replies
  simp only [download_run_windowed he hp hd]
  rw [submit_refused _ (by rw [hver]; exact hv), hver, run_seq, noteRefusal_run (plain_ne_ok hv)]
  exact ⟨by rw [hc, hrep], hl, hf⟩

theorem download_takes (hv : (verdict s (downloadReq x e bytes)).st = .ok) (ha : accessOf e = .rw ∨ accessOf e = .rwp)
    (hn : e.name ∉ [.modeReq, .claim, .stringEn]) (hi : idleWrite s e (valueOf e bytes) = false) :
    let t := (download x kind idx sub bytes).run u
    t.rd e.name e.inst e.item = masked e.name (valueOf e bytes)
      ∧ (t.ctrl x).replies = (s.ctrl x).replies ++ [{ kind := kind, index := idx, sub := sub, abort := 0 }] ∧ t.cmds = s.cmds := by
  obtain ⟨hpl, hw⟩ := placed_of_lookup he ha
  obtain ⟨hm, hn⟩ : e.name ≠ .modeReq ∧ e.name ∉ [.claim, .stringEn] := by simpa using hn
  have hdr : e.name ≠ .deviceReset := fun g => by rw [g] at hw; exact absurd hw (by decide)
  have hver : verdict ((downloading x kind idx sub).run u) (downloadReq x e bytes) = verdict s (downloadReq x e bytes) :=
    (verdict_ctrl ..).trans (h.verdict _)
  have hidle : idleWrite ((downloading x kind idx sub).run u) e (valueOf e bytes) = false := (h.idleWrite e _).trans hi
  obtain ⟨hg, hrep, hcm⟩ := applyWrite_gives (p := canPath x) (y := x) (w := valueOf e bytes) hpl hw hn hidle (fun _ g hx => g (by rw [hx]))
  have hrep0 : (((downloading x kind idx sub).run u).ctrl x).replies = (s.ctrl x).replies := by
    rw [downloading, modCtrl_ctrl]
    exact h.replies
  have hcm0 : ((downloading x kind idx sub).run u).cmds = s.cmds := (h.frame.trans (modCtrl_frame ..)).cmds (by decide)
  simp only [download_run_windowed he hp hd]
  rw [submit_ok (by rw [hver]; exact hv) (by intro e' w' g; simp [downloadReq] at g; rw [← g.1]; exact hm) (by simpa [downloadReq] using hdr),
    hver, hv, run_seq, noteRefusal, run_when, hv, if_neg (by simp)]
  rw [addReply_rd, addReply_replies, addReply_cmds]
  exact ⟨hg, congrArg (· ++ _) (Eq.trans hrep hrep0), hcm.trans hcm0⟩

end

end Sys2Proof.Machine
end

section
/-! SUPPORT. A whole download of a DOMAIN object, and what all whole downloads do. -/
namespace Sys2Proof.Machine

-- One proof at a time: a thread for each would need more memory than a check has.
set_option Elab.async false

open Prog

/-! ### Objects with a table -/

def tableNames : List Name :=
  [.pattern, .darkTable, .gainTable, .tempCoef, .defectMap, .scanList, .resultRing, .userCurves, .ntcCoef, .polySets]

theorem table_some {s : State} {n : Name} {j : Nat} {r : Nat × Nat} (h : s.table n j = some r) : n ∈ tableNames := by
  unfold State.table at h
  split at h
  case h_11 => exact nomatch h
  all_goals decide

theorem tableNames_plain : ∀ n ∈ tableNames, isDomain { name := n } = true ∧ n ∉ [.command, .highestSub, .fwdOut, .keyLoad] ∧ n ∉ pdoNames
    ∧ (accessOf { name := n } ∈ [.rw, .rwp, .wo] → n.writable = true) := by decide

theorem firstBad_ok {l : List Status} (h : firstBad l = .ok) : ∀ st ∈ l, st = .ok := by
  induction l with
  | nil => exact nofun
  | cons a l ih =>
    rw [firstBad_cons] at h
    split at h
    · next ha => exact List.forall_mem_cons.mpr ⟨ha, ih h⟩
    · next ha => exact absurd h ha

/-- A DOMAIN write that passes names an object that is written. -/
theorem domVerdict_access {s : State} {q : DomReq} (h : (domVerdict s q).st = .ok) : accessOf q.ent ∈ [.rw, .rwp, .wo] := by
  have ha : stepAccess q.ent = .ok := by
    unfold domVerdict at h
    dsimp only at h
    split at h
    · next hh => exact firstBad_ok hh _ (by simp)
    · next st hne => exact absurd h hne
  by_contra hn
  exact absurd ha (by simp [stepAccess, need, hn])

theorem domVerdict_ent (s : State) (q : DomReq) : (domVerdict s q).ent = q.ent := by
  unfold domVerdict
  dsimp only
  split <;> rfl

/-- The DOMAIN write that a download makes. -/
def downloadDom (x : Nat) (e : Ent) (bytes : List Byte) : DomReq :=
  { path := canPath x, ent := e, size := bytes.length, data := bytes }

theorem downloadDom_ent (s : State) (x : Nat) (e : Ent) (bytes : List Byte) : (domVerdict s (downloadDom x e bytes)).ent = e :=
  domVerdict_ent ..

section
variable {x kind idx sub a n : Nat} {e : Ent} {bytes : List Byte} {s u : State}
variable (h : Ready x s u) (he : lookup idx sub = .ok e) (ht : s.table e.name e.inst = some (a, n))

include ht in
theorem table_ready (h : Ready x s u) : u.table e.name e.inst = some (a, n) := by
  rcases h.same with rfl | ⟨r, rfl⟩
  · exact ht
  · exact ht

include he ht in
theorem download_run_domain (v : State) : (download x kind idx sub bytes).run v =
    (addReply x { kind := kind, index := idx, sub := sub, abort := (domVerdict v (downloadDom x e bytes)).st.abort }).run
      ((noteRefusal (canPath x) (domVerdict v (downloadDom x e bytes))).run
        ((when ((domVerdict v (downloadDom x e bytes)).st = .ok) (applyDomain (downloadDom x e bytes))).run v)) := by
  obtain ⟨hd, hn, hpdo, -⟩ := tableNames_plain _ (table_some ht)
  simp only [List.mem_cons, List.not_mem_nil, or_false, not_or] at hn
  obtain ⟨hcmd, hhigh, -, -⟩ := hn
  have hp : notForPath (canPath x) e = false := by simp [notForPath, hhigh, hpdo]
  have hc : isCommand e = false := by simpa [isCommand] using hcmd
  have hd : isDomain e = true := hd
  simp only [download, he, hp, hc, hd, Bool.false_eq_true, if_false, if_true]
  rfl

include h he ht

theorem download_refused_domain (hv : (domVerdict s (downloadDom x e bytes)).st ≠ .ok) :
    let v := domVerdict s (downloadDom x e bytes)
    let t := (download x kind idx sub bytes).run u
    (t.ctrl x).replies = (s.ctrl x).replies ++ [{ kind := kind, index := idx, sub := sub, abort := v.st.abort }]
      ∧ t.rd .lastStatus 0 (canPath x).num = u32 (v.st.code * 0x1000000 + e.index * 0x100 + e.sub)
      ∧ Frame [keyOf .lastStatus 0 (canPath x).num] [.ctrls] s t := by
  obtain ⟨hc, hl, hf⟩ := refuse_addReply h.frame (x := x) (domVerdict s (downloadDom x e bytes)).st e.index e.sub
    { kind := kind, index := idx, sub := sub, abort := (domVerdict s (downloadDom x e bytes)).st.abort }
  simp only [download_run_domain he ht]
  rw [h.domVerdict, run_when, if_neg (by simpa using hv), noteRefusal_run hv, downloadDom_ent]
  exact ⟨(congrArg Ctrl.replies hc).trans (congrArg (· ++ _) h.replies), hl, hf⟩

/-- What follows the length of an accepted DOMAIN write. -/
def domainRest (c : Ctx) (e : Ent) (len : U32) : Prog :=
  .seq (match e.unit with | some u => bump u | none => .nop) (.seq (journalWrite c e (e.unit.getD 0) 3 len) (invalidateIf e.index))

omit h he ht in
theorem domainRest_spares {e : Ent} (he : e.Placed) (hw : e.name.writable = true) (c : Ctx) (len v : U32) (y : Nat) :
    Spares e v y (domainRest c e len) := by
  refine ⟨?_, journalWrite_spares _ _ _ _ _, invalidateIf_spares hw _⟩
  split
  · next u hu => exact bump_spares hw (unit_le he hu)
  · trivial

omit h he ht in
theorem domainRest_byte (c : Ctx) (e : Ent) (len : U32) (y : Nat) : (domainRest c e len).All (Op.leavesByte y) := by
  refine ⟨?_, ?_, ?_⟩
  · split
    · exact fun _ => trivial
    · trivial
  · simp [journalWrite, Op.leavesByte]
  · simp [invalidateIf, invalidateCal, wr, Op.leavesByte]

omit h he in
theorem applyDomain_run (hu : u.table e.name e.inst = some (a, n)) : (applyDomain (downloadDom x e bytes)).run u =
    (domainRest { path := canPath x } e (u32 bytes.length)).run ((Op.put e.name e.inst e.item (u32 bytes.length)).apply
      ((when (e.name = .pattern) (drivePhases e.inst)).run ((Op.bytes a (storedAs e.name bytes)).apply u))) := by
  obtain ⟨-, hn, -, -⟩ := tableNames_plain _ (table_some ht)
  simp only [List.mem_cons, List.not_mem_nil, or_false, not_or] at hn
  obtain ⟨-, -, hfwd, hkey⟩ := hn
  simp only [applyDomain, downloadDom, run_ask, hfwd, hkey, if_false, hu, all_cons, all_nil, run_seq, run_nop, when_false, decide_false,
    domainRest, run_op, run_wri]
  rfl

omit h he ht in
theorem storedAs_length (n : Name) (data : List Byte) : (storedAs n data).length = data.length := by
  unfold storedAs
  split
  · exact List.length_mapIdx
  · rfl

/-- A download of a table stores its bytes and their count. -/
theorem download_takes_domain (hv : (domVerdict s (downloadDom x e bytes)).st = .ok) :
    let t := (download x kind idx sub bytes).run u
    t.rdN e.name e.inst e.item = bytes.length % 4294967296
      ∧ (∀ k : Nat, k < bytes.length → t.byteAt (a + k) = (storedAs e.name bytes).getD k 0)
      ∧ (∀ y, ¬ (a ≤ y ∧ y < a + bytes.length) → t.byteAt y = s.byteAt y)
      ∧ (t.ctrl x).replies = (s.ctrl x).replies ++ [{ kind := kind, index := idx, sub := sub, abort := 0 }] ∧ t.cmds = s.cmds := by
  obtain ⟨-, hn, -, hwr⟩ := tableNames_plain _ (table_some ht)
  have hacc := domVerdict_access hv
  have hhigh : e.name ≠ .highestSub := fun g => hn (by simp [g])
  have hpl := lookup_placed he hhigh
  have hw : e.name.writable = true := hwr hacc
  let u1 := (when (e.name = .pattern) (drivePhases e.inst)).run ((Op.bytes a (storedAs e.name bytes)).apply u)
  let u2 := (domainRest { path := canPath x } e (u32 bytes.length)).run ((Op.put e.name e.inst e.item (u32 bytes.length)).apply u1)
  have hsp : Spared e (u32 bytes.length) x u u1 :=
    Spares.run hpl hw (p := .seq (.op (.bytes a (storedAs e.name bytes))) (when (e.name = .pattern) (drivePhases e.inst)))
      ⟨trivial, by simp⟩ u
  have hgiv : Given e (u32 bytes.length) x u u2 :=
    hsp.given (Given.spared ⟨State.rd_put .., rfl, rfl⟩ (Spares.run hpl hw (domainRest_spares hpl hw _ _ _ _) _))
  have hbyte (y : Nat) : u2.byteAt y = ((Op.bytes a (storedAs e.name bytes)).apply u).byteAt y :=
    (Prog.run_byteAt (domainRest_byte _ _ _ y) _).trans
      (Prog.run_byteAt (p := .seq (when (e.name = .pattern) (drivePhases e.inst)) (.op (.put e.name e.inst e.item (u32 bytes.length))))
        ⟨by simp [drivePhases, modHead, Op.leavesByte], trivial⟩ _)
  have hmem (y : Nat) : u.byteAt y = s.byteAt y := congrArg (fun m => Store.get 0 m y) (h.frame.2 .mem (by decide))
  simp only [download_run_domain he ht]
  rw [h.domVerdict, hv, run_when, if_pos (by simp), applyDomain_run ht (table_ready ht h), noteRefusal, hv, run_when, if_neg (by simp)]
  simp only [State.rdN, addReply_rd, addReply_byteAt, addReply_replies, addReply_cmds]
  refine ⟨?_, fun k hk => ?_, fun y hy => ?_, congrArg (· ++ _) (Eq.trans hgiv.2.1 h.replies), hgiv.2.2.trans (h.frame.cmds (by decide))⟩
  · exact (congrArg BitVec.toNat hgiv.1).trans (BitVec.toNat_ofNat ..)
  · refine (hbyte (a + k)).trans ?_
    rw [State.byteAt_bytes, storedAs_length, if_pos ⟨by omega, by omega⟩, Nat.add_sub_cancel_left]
  · refine (hbyte y).trans ?_
    rw [State.byteAt_bytes, storedAs_length, if_neg hy, hmem]

end

end Sys2Proof.Machine
end

section
/-! SUPPORT. The whole downloads of every row, and the rows of CAN-A that begin, carry on and end a download. -/
namespace Sys2Proof.Machine

-- One proof at a time: a thread for each would need more memory than a check has.
set_option Elab.async false

open Prog

/-! ### Whole downloads -/

theorem settled_congr {p q : Prog} {s u : State} (h : p.run s = q.run u) : (settled p).run s = (settled q).run u := by
  simp only [settled, run_seq, h]

/-- A request that leaves the command records as they were has nothing to settle. -/
theorem settled_answers {c : Instr} {p : Prog} {s u : State} {P : State → Prop} (hn : NoHeld s)
    (hx : exec c s = .next ((settled p).run u)) (hc : (p.run u).cmds = s.cmds) (hP : P (p.run u)) : Answers c s P :=
  ⟨_, hx.trans (congrArg _ (settled_run_noHeld (hn.of_cmds hc))), hP⟩

/-- The bytes of a whole download are written to its entry, and its response waits (R722, R724). -/
def DownloadsWhole (s : State) (c : Instr) (x kind idx sub : Nat) (bytes : List Byte) : Prop :=
  (∀ st : Status, lookup idx sub = .error st → Answers c s fun t =>
    t.ctrl x = { s.ctrl x with xfer := if x = 0 then none else (s.ctrl x).xfer, applying := none,
                               replies := (s.ctrl x).replies ++ [{ kind := kind, index := idx, sub := sub, abort := st.abort }] }
    ∧ t.rd .lastStatus 0 (canPath x).num = u32 (st.code * 0x1000000 + idx * 0x100 + sub) ∧ Frame [keyOf .lastStatus 0 (canPath x).num] [.ctrls] s t)
  ∧ (∀ e : Ent, lookup idx sub = .ok e → notForPath (canPath x) e = false → isDomain e = false →
    let v := verdict s (downloadReq x e bytes)
    (v.st = .ok → (accessOf e = .rw ∨ accessOf e = .rwp) → e.name ∉ [.modeReq, .claim, .stringEn] → idleWrite s e (valueOf e bytes) = false →
      Answers c s fun t => t.rd e.name e.inst e.item = masked e.name (valueOf e bytes)
        ∧ (t.ctrl x).replies = (s.ctrl x).replies ++ [{ kind := kind, index := idx, sub := sub, abort := 0 }])
    ∧ (v.st ∉ notPlain → Answers c s fun t =>
      (t.ctrl x).replies = (s.ctrl x).replies ++ [{ kind := kind, index := idx, sub := sub, abort := v.st.abort }]
      ∧ t.rd .lastStatus 0 (canPath x).num = u32 (v.st.code * 0x1000000 + v.ent.index * 0x100 + v.ent.sub)
      ∧ Frame [keyOf .lastStatus 0 (canPath x).num] [.ctrls] s t))
  ∧ (∀ (e : Ent) (a n : Nat), lookup idx sub = .ok e → s.table e.name e.inst = some (a, n) →
    let v := domVerdict s (downloadDom x e bytes)
    (v.st = .ok → Answers c s fun t => t.rdN e.name e.inst e.item = bytes.length % 4294967296
      ∧ (∀ k : Nat, k < bytes.length → t.byteAt (a + k) = (storedAs e.name bytes).getD k 0)
      ∧ (∀ y, ¬ (a ≤ y ∧ y < a + bytes.length) → t.byteAt y = s.byteAt y)
      ∧ (t.ctrl x).replies = (s.ctrl x).replies ++ [{ kind := kind, index := idx, sub := sub, abort := 0 }])
    ∧ (v.st ≠ .ok → Answers c s fun t =>
      (t.ctrl x).replies = (s.ctrl x).replies ++ [{ kind := kind, index := idx, sub := sub, abort := v.st.abort }]
      ∧ t.rd .lastStatus 0 (canPath x).num = u32 (v.st.code * 0x1000000 + e.index * 0x100 + e.sub)
      ∧ Frame [keyOf .lastStatus 0 (canPath x).num] [.ctrls] s t))

theorem downloadsWhole {c : Instr} {x kind idx sub : Nat} {bytes : List Byte} {s u : State} (h : Ready x s u) (hn : NoHeld s)
    (hx : exec c s = .next ((settled (download x kind idx sub bytes)).run u)) : DownloadsWhole s c x kind idx sub bytes := by
  refine ⟨fun st he => ?error, fun e he hp hd => ⟨fun hv ha hne hi => ?takes, fun hv => ?refused⟩,
    fun e a n he ht => ⟨fun hv => ?takesDomain, fun hv => ?refusedDomain⟩⟩
  case error =>
    obtain ⟨hc, hl, hf⟩ := refuse_addReply h.frame st idx sub { kind := kind, index := idx, sub := sub, abort := st.abort }
    rw [h.ctrl] at hc
    rw [← download_run_error he] at hc hl hf
    exact settled_answers hn hx (hf.cmds (by decide)) ⟨hc, hl, hf⟩
  case takes =>
    obtain ⟨hr, hrep, hc⟩ := download_takes (kind := kind) h he hp hd hv ha hne hi
    exact settled_answers hn hx hc ⟨hr, hrep⟩
  case refused =>
    have ht := download_refused (kind := kind) h he hp hd hv
    exact settled_answers hn hx (ht.2.2.cmds (by decide)) ht
  case takesDomain =>
    obtain ⟨hr, hin, hout, hrep, hc⟩ := download_takes_domain (kind := kind) h he ht hv
    exact settled_answers hn hx hc ⟨hr, hin, hout, hrep⟩
  case refusedDomain =>
    have ht := download_refused_domain (kind := kind) h he ht hv
    exact settled_answers hn hx (ht.2.2.cmds (by decide)) ht

/-! ### Sizes beyond a table -/

/-- An indicated or reached size lies within the object's table. -/
def Fits (idx sub n : Nat) : Prop := ∀ e : Ent, lookup idx sub = .ok e → isDomain e = true → n ≤ domMax e.name

theorem excess_fits {s : State} {i j n : Nat} (h : Fits i j n) : s.excess i j n = none := by
  unfold State.excess
  split
  · next e he =>
    refine if_neg fun g => ?_
    obtain ⟨hd, hm⟩ := Bool.and_eq_true_iff.mp g
    exact absurd (h e he hd) (Nat.not_le.mpr (of_decide_eq_true hm))
  · rfl

theorem excess_beyond (s : State) {i j n : Nat} {e : Ent} (he : lookup i j = .ok e) (hd : isDomain e = true) (hm : domMax e.name < n) :
    s.excess i j n = some (domVerdict s { path := .p3, ent := e, size := n, data := [] }).st := by
  simp only [State.excess, he, hd, hm, decide_true, Bool.and_self, if_true]

section
variable (s : State) {i j : Nat} {size : Option Nat} {k : Prog}

theorem initiate_run_error {st : Status} (h : lookup i j = .error st) : (initiate i j size k).run s = (sdoRefuse i j st).run s := by
  simp only [initiate, h]

theorem initiate_run_exceeds {st : Status} {e : Ent} (he : lookup i j = .ok e) (hp : notForPath .p3 e = false)
    (hx : s.excess i j (size.getD 0) = some st) : (initiate i j size k).run s = (sdoRefuse i j st).run s := by
  simp only [initiate, he, hp, Bool.false_eq_true, if_false, run_ask, hx]

theorem initiate_run_ok {e : Ent} (he : lookup i j = .ok e) (hp : notForPath .p3 e = false) (hf : Fits i j (size.getD 0)) :
    (initiate i j size k).run s = k.run s := by
  simp only [initiate, he, hp, Bool.false_eq_true, if_false, run_ask, excess_fits hf]

end

/-! ### Aborts -/

/-- The transfer has ended, with an abort. -/
def Aborts (s t : State) (idx sub code : Nat) : Prop := (t.ctrl 0).xfer = none ∧ SdoSays s t (sdoHead 0x80 idx sub ++ leBytes 4 code)

/-- A size beyond the object's table is refused with the first check that a write of that size fails. -/
def Exceeds (s : State) (c : Instr) (idx sub n : Nat) : Prop :=
  ∀ e : Ent, lookup idx sub = .ok e → isDomain e = true → domMax e.name < n →
    let st := (domVerdict s { path := .p3, ent := e, size := n, data := [] }).st
    Answers c s fun t => Aborts s t idx sub st.abort ∧ t.rd .lastStatus 0 3 = u32 (st.code * 0x1000000 + idx * 0x100 + sub)
      ∧ Frame [keyOf .lastStatus 0 3] [.ctrls, .out] s t

/-- A download is not begun where its object does not exist or its indicated size exceeds it. -/
def Opens (s : State) (c : Instr) (idx sub : Nat) (size : Option Nat) : Prop :=
  (∀ st : Status, lookup idx sub = .error st → Answers c s fun t => Aborts s t idx sub st.abort ∧ Frame [keyOf .lastStatus 0 3] [.ctrls, .out] s t)
    ∧ ((∀ e, lookup idx sub = .ok e → notForPath .p3 e = false) → Exceeds s c idx sub (size.getD 0))

section
variable {s : State} (hl : s.live = true) (hs : s.canServe 0 = true) (hn : NoHeld s)
variable {c : Instr} {p : Prog} (hx : exec c s = .next ((inSdo p).run s))
include hl hs hx

theorem sdo_downloads {kind i j : Nat} {bytes : List Byte} (hn : NoHeld s)
    (hp : p.run s = (Prog.seq (endXfer 0) (download 0 kind i j bytes)).run s) : DownloadsWhole s c 0 kind i j bytes := by
  have hrun : (inSdo p).run s = (settled p).run s := by
    simp only [inSdo, Prog.live, run_ask, run_when, hl, hs, if_true]
  refine downloadsWhole (Ready.ended s) hn (hx.trans (congrArg _ (hrun.trans (settled_congr ?_))))
  rw [hp, run_seq]

include hn

theorem sdo_refuses {i j : Nat} {st : Status} (hp : p.run s = (sdoRefuse i j st).run s) : Answers c s fun t =>
    Aborts s t i j st.abort ∧ t.rd .lastStatus 0 3 = u32 (st.code * 0x1000000 + i * 0x100 + j) ∧ Frame [keyOf .lastStatus 0 3] [.ctrls, .out] s t := by
  obtain ⟨hc, ho, hr, hf⟩ := sdoRefuse_answer (canUp_of_canServe hs) i j st
  exact sdo_runs hl hs hn hx hp hf (by decide) ⟨⟨by rw [hc], ho⟩, hr, hf⟩

theorem sdo_fails {i j code : Nat} (hp : p.run s = (sdoFail i j code).run s) : Answers c s fun t =>
    Aborts s t i j code ∧ Frame [] [.ctrls, .out] s t := by
  obtain ⟨hc, ho, hf⟩ := endXfer_answer (canUp_of_canServe hs) (sdoHead 0x80 i j ++ leBytes 4 code)
  exact sdo_runs hl hs hn hx hp hf (by decide) ⟨⟨congrArg Ctrl.xfer hc, ho⟩, hf⟩

/-- The transfer in progress becomes another, and an answer is sent. -/
theorem sdo_carries_on {x : Xfer} {b : List Byte}
    (hp : p.run s = (Prog.seq (modCtrl 0 fun r => { r with xfer := some x }) (sdoSend b)).run s) : Answers c s fun t =>
      t.ctrl 0 = { s.ctrl 0 with xfer := some x } ∧ SdoSays s t b ∧ Frame [] [.ctrls, .out] s t := by
  have h := sdoAnswer (canUp_of_canServe hs) (f := fun r => { r with xfer := some x }) rfl b
  exact sdo_runs hl hs hn hx (hp.trans (run_seq ..)) h.2.2 (by decide) h

theorem sdo_opens {i j : Nat} {size : Option Nat} {k : Prog} (hp : p.run s = (initiate i j size k).run s) : Opens s c i j size := by
  refine ⟨fun st he => ?_, fun hall e he hd hm => ?_⟩
  · obtain ⟨t, ht, ha, -, hf⟩ := sdo_refuses hl hs hn hx (hp.trans (initiate_run_error s he))
    exact ⟨t, ht, ha, hf⟩
  · exact sdo_refuses hl hs hn hx (hp.trans (initiate_run_exceeds s he (hall e he) (excess_beyond s he hd hm)))

end

/-- The block size is of the server's own choice, and the transfer goes on with it. -/
theorem withBlockSize_answer {s : State} (h : s.canUp 0 = true) (x : Nat → Xfer) (b : Nat → List Byte) :
    let n := 1 + s.freeBelow 127
    let t := (withBlockSize fun n => .seq (modCtrl 0 fun r => { r with xfer := some (x n) }) (sdoSend (b n))).run s
    t.ctrl 0 = { s.ctrl 0 with xfer := some (x n) } ∧ SdoSays s t (b n) ∧ Frame [] [.ctrls, .out, .fresh] s t := by
  obtain ⟨hc, ho, hf⟩ := sdoAnswer (s := (Op.free).apply s) h (f := fun r => { r with xfer := some (x (1 + s.freeBelow 127)) }) rfl
    (b (1 + s.freeBelow 127))
  have h0 : Frame [] [.ctrls, .out, .fresh] s ((Op.free).apply s) :=
    Op.within_frame s fun y hy => List.mem_cons_of_mem _ (List.mem_cons_of_mem _ hy)
  simp only [withBlockSize, run_ask, run_seq, run_op]
  exact ⟨hc, ho, h0.trans (hf.mono (fun _ h => h) (by decide))⟩

end Sys2Proof.Machine
end

section
/-! SUPPORT. The rows of CAN-A and CAN-B that download. -/
namespace Sys2Proof.Machine

-- One proof at a time: a thread for each would need more memory than a check has.
set_option Elab.async false

open Prog

/-! ### Control bytes -/

theorem leNat_take_two {x : Nat} (h : x < 65536) (l : List Byte) :
    leNat ((BitVec.ofNat 8 x :: BitVec.ofNat 8 (x / 256) :: l).take 2) = x := leNat_pair h

theorem leNat_take_four {x : Nat} (h : x < 4294967296) : leNat ((leBytes 4 x).take 4) = x := by
  rw [List.take_of_length_le (Nat.le_of_eq (leBytes_length 4 x))]
  exact leNat_leBytes 4 x h

/-- The control byte of a block download that begins. -/
theorem download_control (crc sized : Bool) :
    let x := (BitVec.ofNat 8 (0xC0 + (if crc then 4 else 0) + (if sized then 2 else 0)) : Byte).toNat
    x / 32 = 6 ∧ bitAt x 0 = false ∧ bitAt x 1 = sized ∧ bitAt x 2 = crc := by
  revert crc sized
  decide

/-- The control byte of a block download that ends. -/
theorem download_end_control (free : Fin 7) : let x := (BitVec.ofNat 8 (0xC1 + 4 * free) : Byte).toNat
    x / 32 = 6 ∧ x % 4 = 1 ∧ bits x 2 3 = free := by
  revert free
  decide

/-- The control byte of a segment of a block. -/
theorem segment_control {sq : Nat} (h : sq + 1 ≤ 127) (last : Bool) :
    let x := (BitVec.ofNat 8 (sq + 1 + if last then 128 else 0) : Byte).toNat
    x % 128 = sq + 1 ∧ decide (128 ≤ x) = last := by
  have hx : (BitVec.ofNat 8 (sq + 1 + if last then 128 else 0) : Byte).toNat = sq + 1 + if last then 128 else 0 := by
    rw [BitVec.toNat_ofNat]
    split <;> omega
  simp only [hx]
  cases last <;> simp <;> omega

section
variable {s : State} (hl : s.live = true) (hs : s.canServe 0 = true) (hn : NoHeld s)
include hl hs hn

/-! ### Expedited -/

theorem sdoExpedited_sized (idx : BitVec 16) (sub : Byte) (n : Fin 4) (d : U32) :
    DownloadsWhole s (.sdoExpeditedDownload idx sub (some n) d) 0 0 idx.toNat sub.toNat (leBytes (n + 1) d.toNat) :=
  sdo_downloads hl hs rfl hn rfl

theorem sdoExpedited_unsized (idx : BitVec 16) (sub : Byte) (d : U32) {e : Ent} (he : lookup idx.toNat sub.toNat = .ok e) :
    DownloadsWhole s (.sdoExpeditedDownload idx sub none d) 0 0 idx.toNat sub.toNat (leBytes (typeOf e).bytes d.toNat) :=
  sdo_downloads hl hs rfl hn (by simp only [he])

/-! ### In segments -/

theorem sdoSegmented_opens (idx : BitVec 16) (sub : Byte) (size : Option (BitVec 32)) :
    Opens s (.sdoSegmentedDownloadInit idx sub size) idx.toNat sub.toNat (size.map (·.toNat)) := sdo_opens hl hs hn rfl rfl

theorem sdoSegmented_begins (idx : BitVec 16) (sub : Byte) (size : Option (BitVec 32)) {e : Ent} (he : lookup idx.toNat sub.toNat = .ok e)
    (hp : notForPath .p3 e = false) (hf : Fits idx.toNat sub.toNat ((size.map (·.toNat)).getD 0)) :
    Answers (.sdoSegmentedDownloadInit idx sub size) s fun t =>
      t.ctrl 0 = { s.ctrl 0 with xfer := some (.down idx.toNat sub.toNat (size.map (·.toNat)) [] false) }
      ∧ SdoSays s t (sdoHead 0x60 idx.toNat sub.toNat) ∧ Frame [] [.ctrls, .out] s t :=
  sdo_carries_on hl hs hn rfl (initiate_run_ok s he hp hf)

section
variable {i j : Nat} {size : Option Nat} {got data : List Byte} {tg : Bool} (h : (s.ctrl 0).xfer = some (.down i j size got tg))
include h

theorem sdoDownload_toggle (last : Bool) : Answers (.sdoDownloadSegment (!tg) data last) s fun t =>
    Aborts s t i j 0x05030000 ∧ Frame [] [.ctrls, .out] s t := by
  refine sdo_fails hl hs hn rfl ?_
  have ht : (!tg) ≠ tg := by cases tg <;> decide
  simp only [run_ask, h, ht, ne_eq, not_false_eq_true, if_true]

variable (hd : data.length ≤ 7)
include hd

theorem sdoDownload_exceeds (last : Bool) : Exceeds s (.sdoDownloadSegment tg data last) i j (got ++ data).length := by
  intro e he hdom hm
  refine sdo_refuses hl hs hn rfl ?_
  simp only [run_ask, h, List.take_of_length_le hd, ne_eq, not_true_eq_false, if_false, excess_beyond s he hdom hm]

variable (hf : Fits i j (got ++ data).length)
include hf

theorem sdoDownload_more : Answers (.sdoDownloadSegment tg data false) s fun t =>
    t.ctrl 0 = { s.ctrl 0 with xfer := some (.down i j size (got ++ data) (!tg)) }
      ∧ SdoSays s t (leBytes 1 (if tg then 0x30 else 0x20)) ∧ Frame [] [.ctrls, .out] s t := by
  refine sdo_carries_on hl hs hn rfl ?_
  have hb : 0x20 + 16 * bit01 tg = if tg then 0x30 else 0x20 := by cases tg <;> rfl
  simp only [run_ask, h, List.take_of_length_le hd, ne_eq, not_true_eq_false, if_false, excess_fits hf, Bool.false_eq_true, hb]

theorem sdoDownload_last (hz : size = none ∨ size = some (got ++ data).length) :
    DownloadsWhole s (.sdoDownloadSegment tg data true) 0 (if tg then 4 else 3) i j (got ++ data) := by
  refine sdo_downloads hl hs rfl hn ?_
  have hk : 3 + bit01 tg = if tg then 4 else 3 := by cases tg <;> rfl
  have hg : ¬ (size.isSome = true ∧ size ≠ some (got ++ data).length) := by
    rcases hz with rfl | rfl <;> simp
  simp only [run_ask, h, List.take_of_length_le hd, ne_eq, not_true_eq_false, if_false, excess_fits hf, if_true, hk]
  rw [if_neg hg]

theorem sdoDownload_wrong_size (hz : size ≠ none) (hz' : size ≠ some (got ++ data).length) :
    Answers (.sdoDownloadSegment tg data true) s fun t => Aborts s t i j Status.length.abort
      ∧ t.rd .lastStatus 0 3 = u32 (Status.length.code * 0x1000000 + i * 0x100 + j) ∧ Frame [keyOf .lastStatus 0 3] [.ctrls, .out] s t := by
  refine sdo_refuses hl hs hn rfl ?_
  have hg : size.isSome = true ∧ size ≠ some (got ++ data).length := ⟨Option.isSome_iff_ne_none.mpr hz, hz'⟩
  simp only [run_ask, h, List.take_of_length_le hd, ne_eq, not_true_eq_false, if_false, excess_fits hf, if_true]
  rw [if_pos hg]

end

/-! ### In blocks -/

/-- The first frame of a block download. -/
def blockFirst (idx : BitVec 16) (sub : Byte) (size : Option (BitVec 32)) (crc : Bool) : List Byte :=
  leBytes 1 (0xC0 + (if crc then 4 else 0) + (if size.isSome then 2 else 0)) ++ leBytes 2 idx.toNat ++ [sub] ++ leBytes 4 (size.getD 0).toNat

/-- The last frame of a block download. -/
def blockEnd (free : Fin 7) (w : List Byte) : List Byte := leBytes 1 (0xC1 + 4 * free) ++ w

omit hl hs hn in
theorem indicated_size (size : Option (BitVec 32)) :
    (if size.isSome then some (leNat ((leBytes 4 (size.getD 0).toNat).take 4)) else none) = size.map (·.toNat) := by
  rw [leNat_take_four (size.getD 0).isLt]
  cases size <;> rfl

omit hl hs hn in
/-- A frame on an idle channel begins a block download. -/
theorem blockFirst_runs (hx : (s.ctrl 0).xfer = none) (idx : BitVec 16) (sub : Byte) (size : Option (BitVec 32)) (crc : Bool) :
    ∃ p, exec (.sdoBlockDownload (blockFirst idx sub size crc)) s = .next ((inSdo p).run s) ∧
      p.run s = (initiate idx.toNat sub.toNat (size.map (·.toNat)) (withBlockSize fun n => .seq
        (modCtrl 0 fun c => { c with xfer := some (.blockDown idx.toNat sub.toNat (size.map (·.toNat)) crc [] n 0 false) })
        (sdoSend (sdoHead 0xA4 idx.toNat sub.toNat ++ leBytes 1 n)))).run s := by
  refine ⟨_, rfl, ?_⟩
  obtain ⟨h6, h0, h1, h2⟩ := download_control crc size.isSome
  simp only [run_ask, hx, blockFirst, leBytes_one, leBytes_two, List.cons_append, List.nil_append, List.getD_cons_zero, List.getD_cons_succ,
    List.drop_succ_cons, List.drop_zero, leNat_take_two idx.isLt, h6, h0, h1, h2, indicated_size, Bool.false_eq_true, ne_eq,
    not_true_eq_false, or_self, if_false]

theorem sdoBlock_opens (hx : (s.ctrl 0).xfer = none) (idx : BitVec 16) (sub : Byte) (size : Option (BitVec 32)) (crc : Bool) :
    Opens s (.sdoBlockDownload (blockFirst idx sub size crc)) idx.toNat sub.toNat (size.map (·.toNat)) := by
  obtain ⟨p, hc, hp⟩ := blockFirst_runs hx idx sub size crc
  exact sdo_opens hl hs hn hc hp

theorem sdoBlockDownload_begins (hx : (s.ctrl 0).xfer = none) (idx : BitVec 16) (sub : Byte) (size : Option (BitVec 32)) (crc : Bool) {e : Ent}
    (he : lookup idx.toNat sub.toNat = .ok e) (hp : notForPath .p3 e = false) (hf : Fits idx.toNat sub.toNat ((size.map (·.toNat)).getD 0)) :
    Answers (.sdoBlockDownload (blockFirst idx sub size crc)) s fun t =>
      let n := 1 + s.freeBelow 127
      t.ctrl 0 = { s.ctrl 0 with xfer := some (.blockDown idx.toNat sub.toNat (size.map (·.toNat)) crc [] n 0 false) }
      ∧ SdoSays s t (sdoHead 0xA4 idx.toNat sub.toNat ++ leBytes 1 n) ∧ Frame [] [.ctrls, .out, .fresh] s t := by
  obtain ⟨p, hc, hrun⟩ := blockFirst_runs hx idx sub size crc
  have h := withBlockSize_answer (canUp_of_canServe hs) (fun n => .blockDown idx.toNat sub.toNat (size.map (·.toNat)) crc [] n 0 false)
    fun n => sdoHead 0xA4 idx.toNat sub.toNat ++ leBytes 1 n
  exact sdo_runs hl hs hn hc (hrun.trans (initiate_run_ok s he hp hf)) h.2.2 (by decide) h

section
variable {i j blk sq : Nat} {size : Option Nat} {crc : Bool} {got data : List Byte} (hd : data.length = 7)
include hd

theorem sdoBlock_segment (h : (s.ctrl 0).xfer = some (.blockDown i j size crc got blk sq false)) (hq : sq < blk) (hb : blk ≤ 127) (last : Bool) :
    Answers (.sdoBlockDownload (leBytes 1 (sq + 1 + if last then 128 else 0) ++ data)) s fun t =>
      (last = false → sq + 1 ≠ blk → t.ctrl 0 = { s.ctrl 0 with xfer := some (.blockDown i j size crc (got ++ data) blk (sq + 1) false) } ∧ t.out = s.out)
      ∧ (last = true ∨ sq + 1 = blk → let n := 1 + s.freeBelow 127
        t.ctrl 0 = { s.ctrl 0 with xfer := some (.blockDown i j size crc (got ++ data) n 0 last) }
        ∧ SdoSays s t (0xA2 :: leBytes 1 (sq + 1) ++ leBytes 1 n)) ∧ Frame [] [.ctrls, .out, .fresh] s t := by
  obtain ⟨hsq, hlast⟩ := segment_control (sq := sq) (by omega) last
  have hdata : (data ++ List.replicate 7 0).take 7 = data := List.take_left' hd
  by_cases hg : last = true ∨ sq + 1 = blk
  · have hx := withBlockSize_answer (canUp_of_canServe hs) (fun n => .blockDown i j size crc (got ++ data) n 0 last)
      fun n => [0xA2] ++ leBytes 1 (sq + 1) ++ leBytes 1 n
    obtain ⟨hc, ho, hf⟩ := hx
    refine sdo_runs hl hs hn rfl ?_ hf (by decide)
      ⟨fun h1 h2 => absurd hg (by simp [h1, h2]), fun _ => ⟨hc, ho⟩, hf⟩
    simp only [run_ask, h, leBytes_one, List.cons_append, List.nil_append, List.getD_cons_zero, List.drop_succ_cons, List.drop_zero, hsq, hlast,
      hdata, decide_true, if_true, Bool.and_true]
    rw [if_pos (by simpa using hg)]
  · have hf := (modCtrl_frame 0 (fun c => { c with xfer := some (.blockDown i j size crc (got ++ data) blk (sq + 1) false) }) s).mono
      (W' := []) (L' := [.ctrls, .out, .fresh]) (fun _ h => h) (by decide)
    refine sdo_runs hl hs hn rfl ?_ hf (by decide) ⟨fun _ _ => ⟨modCtrl_ctrl 0 _ s, rfl⟩, fun g => absurd g hg, hf⟩
    simp only [run_ask, h, leBytes_one, List.cons_append, List.nil_append, List.getD_cons_zero, List.drop_succ_cons, List.drop_zero, hsq, hlast,
      hdata, decide_true, if_true, Bool.and_true]
    rw [if_neg (by simpa using hg)]

variable (h : (s.ctrl 0).xfer = some (.blockDown i j size crc (got ++ data) blk sq true)) (free : Fin 7)

omit hl hs hn in
theorem taken_bytes : (got ++ data).take ((got ++ data).length - free) = got ++ data.take (7 - free) := by
  rw [List.take_append, List.length_append, hd, List.take_of_length_le (by omega)]
  congr 2
  omega

include h

theorem sdoBlock_whole (hz : size = none ∨ size = some (got ++ data.take (7 - free)).length) :
    DownloadsWhole s (.sdoBlockDownload (blockEnd free (leBytes 2 (crc16 (got ++ data.take (7 - free))).toNat))) 0 1 i j
      (got ++ data.take (7 - free)) := by
  refine sdo_downloads hl hs rfl hn ?_
  obtain ⟨h6, h4, hb⟩ := download_end_control free
  have hg : ¬ (size.isSome = true ∧ size ≠ some (got ++ data.take (7 - free)).length) := by
    rcases hz with rfl | rfl <;> simp
  simp only [run_ask, h, blockEnd, leBytes_one, leBytes_two, List.cons_append, List.nil_append, List.getD_cons_zero, List.drop_succ_cons,
    List.drop_zero, leNat_take_two (crc16 _).isLt, h6, h4, hb, taken_bytes hd, ne_eq, not_true_eq_false, or_self, and_false, if_false]
  rw [if_neg hg]

theorem sdoBlock_wrong_crc (hc : crc = true) {w : BitVec 16} (hw : w ≠ crc16 (got ++ data.take (7 - free))) :
    Answers (.sdoBlockDownload (blockEnd free (leBytes 2 w.toNat))) s fun t => Aborts s t i j 0x05040004 ∧ Frame [] [.ctrls, .out] s t := by
  refine sdo_fails hl hs hn rfl ?_
  obtain ⟨h6, h4, hb⟩ := download_end_control free
  have hne : (crc16 (got ++ data.take (7 - free))).toNat ≠ w.toNat := fun g => hw (BitVec.eq_of_toNat_eq g.symm)
  simp only [run_ask, h, blockEnd, leBytes_one, leBytes_two, List.cons_append, List.nil_append, List.getD_cons_zero, List.drop_succ_cons,
    List.drop_zero, leNat_take_two w.isLt, h6, h4, hb, taken_bytes hd, ne_eq, not_true_eq_false, or_self, if_false, hc, hne,
    not_false_eq_true, and_self, if_true]

end

/-! ### Aborts and time-outs -/

theorem sdoAbort_ends : Answers .sdoAbortReceived s fun t => t.ctrl 0 = { s.ctrl 0 with xfer := none } ∧ Frame [] [.ctrls] s t :=
  have hf : Frame [] [.ctrls] s ((endXfer 0).run s) := modCtrl_frame 0 _ s
  sdo_runs hl hs hn rfl rfl hf (by decide) ⟨modCtrl_ctrl 0 _ s, hf⟩

omit hn in
theorem sdoTimeout_ends {x : Xfer} (h : (s.ctrl 0).xfer = some x) : Answers (.sdoTimeout 0) s fun t =>
    Aborts s t (Xfer.entry x).1 (Xfer.entry x).2 0x05040000 ∧ Frame [] [.ctrls, .out] s t := by
  obtain ⟨hc, ho, hf⟩ := endXfer_answer (canUp_of_canServe hs) (sdoHead 0x80 (Xfer.entry x).1 (Xfer.entry x).2 ++ leBytes 4 0x05040000)
  refine ⟨_, ?_, ⟨congrArg Ctrl.xfer hc, ho⟩, hf⟩
  show done _ s = _
  have h0 : ((0 : Fin 2) : Nat) = 0 := rfl
  simp only [done_eq, Prog.live, run_ask, run_when, hl, h0, hs, h, if_true, run_seq, abortOn, sdoAbort]

end

/-! ### CAN-B -/

theorem usdoDownload_whole {s : State} (hl : s.live = true) (hs : s.canServe 1 = true) (hn : NoHeld s) (dst : Fin 128) (idx : BitVec 16)
    (sub : Byte) (data : List Byte) (hd : dst.val ≠ 0) (hi : s.rdN .nodeIdNow 1 = dst.val) :
    DownloadsWhole s (.usdoDownload dst idx sub data) 1 2 idx.toNat sub.toNat data := by
  refine downloadsWhole (Ready.whole s) hn ?_
  show done (inUsdo _ _) s = _
  simp only [done_eq, inUsdo, Prog.live, run_ask, run_when, hl, hs, hd, hi, ne_eq, not_false_eq_true, decide_true, Bool.and_self, if_true]

end Sys2Proof.Machine
end

section
/-! PROOF. Downloads over SDO and USDO (O55). -/
namespace Sys2Proof.Proofs

-- One proof at a time: a thread for each would need more memory than a check has.
set_option Elab.async false

open Sys2Proof.Machine Prog

/-- Settles O55: each row is the run of its server; a whole download is `downloadsWhole`, whatever row brings it. -/
theorem downloadsComplete : Obligations.DownloadsComplete := by
  unfold Obligations.DownloadsComplete
  intro s hl hn
  refine ⟨fun hs => ⟨fun idx sub n d => (sdoExpedited_sized hl hs hn idx sub n d),
      fun idx sub d e he => (sdoExpedited_unsized hl hs hn idx sub d he),
      fun idx sub size => ⟨sdoSegmented_opens hl hs hn idx sub size, fun ⟨e, he, hp⟩ hf => sdoSegmented_begins hl hs hn idx sub size he hp hf⟩,
      fun i j size got data tg h hd => ⟨sdoDownload_toggle hl hs hn h, sdoDownload_exceeds hl hs hn h hd,
        fun hf => ⟨sdoDownload_more hl hs hn h hd hf, fun hz => (sdoDownload_last hl hs hn h hd hf hz),
          sdoDownload_wrong_size hl hs hn h hd hf⟩⟩,
      fun hx idx sub size crc => ⟨sdoBlock_opens hl hs hn hx idx sub size crc,
        fun ⟨e, he, hp⟩ hf => sdoBlockDownload_begins hl hs hn hx idx sub size crc he hp hf⟩,
      fun i j size crc got data blk sq hd => ⟨fun h hq hb last => sdoBlock_segment hl hs hn hd h hq hb last,
        fun h free => ⟨fun hz => (sdoBlock_whole hl hs hn hd h free hz), fun hc w hw => sdoBlock_wrong_crc hl hs hn hd h free hc hw⟩⟩,
      sdoAbort_ends hl hs hn, fun x h => sdoTimeout_ends hl hs h⟩,
    fun hs dst idx sub data hd hi => (usdoDownload_whole hl hs hn dst idx sub data hd hi)⟩

end Sys2Proof.Proofs
end

section
/-! SUPPORT. The invariant of the state: each update of the report system keeps its bounds, and each primitive update keeps the canonical
forms of the stores. -/
namespace Sys2Proof.Machine

/-! ### The bounds of the report system -/

/-- The part of the invariant that speaks of the report system. -/
structure Reports.Bounded (r : Reports) : Prop where
  journal : r.journal.length ≤ 1024
  waiting : r.waiting.length ≤ 256
  errors : r.errors.length ≤ 8
  count : r.eventCount ≤ 4294967295
  nodup : r.uncleared.Nodup
  severe : ∀ x ∈ r.uncleared, x.1.severity = .fault ∨ x.1.severity = .halt

theorem State.inv_iff (s : State) : s.Inv ↔
    Memory.wf s.mem = true ∧ Store.rising s.dict = true ∧ Store.rising s.mirror = true ∧ s.rep.Bounded :=
  ⟨fun ⟨hm, hd, hi, h1, h2, h3, h4, h5, h6⟩ => ⟨hm, hd, hi, h1, h2, h3, h4, h5, h6⟩,
    fun ⟨hm, hd, hi, h1, h2, h3, h4, h5, h6⟩ => ⟨hm, hd, hi, h1, h2, h3, h4, h5, h6⟩⟩

/-- The report system at power-on. -/
theorem Reports.bounded_empty : ({} : Reports).Bounded :=
  ⟨Nat.zero_le _, Nat.zero_le _, Nat.zero_le _, Nat.zero_le _, .nil, fun _ h => absurd h List.not_mem_nil⟩

namespace Reports.Bounded

variable {r : Reports}

theorem error (h : r.Bounded) (code : Nat) : (r.error code).Bounded :=
  { h with errors := List.length_take_le .. }

theorem push (h : r.Bounded) (e : JEntry) : (r.push e).Bounded :=
  { h with journal := List.length_take_le .. }

/-- A count of events that saturates. -/
theorem counted (h : r.Bounded) : ({ r with eventCount := min (r.eventCount + 1) 4294967295 } : Reports).Bounded :=
  { h with count := Nat.min_le_right .. }

/-- A shorter list of uncleared events, in the same order. -/
theorem sublist (h : r.Bounded) {l : List (Event × Nat)} (hl : l.Sublist r.uncleared) : ({ r with uncleared := l } : Reports).Bounded :=
  { h with nodup := h.nodup.sublist hl, severe := fun x hx => h.severe x (hl.subset hx) }

/-- An event joins the list of uncleared events where it is severe and not yet there, and EVENT_CLEARED takes one out of it. -/
theorem track (h : r.Bounded) (e : JEntry) : (r.track e).Bounded := by
  unfold Reports.track
  split
  · exact h
  · exact h.sublist List.filter_sublist
  · next ev _ _ =>
    split
    · next hc =>
      obtain ⟨hsev, hnew⟩ := hc
      refine { h with nodup := ?_, severe := fun x hx => ?_ }
      · exact List.nodup_append.mpr ⟨h.nodup, List.nodup_singleton _, fun x hx y hy => by
          rw [List.mem_singleton.mp hy]
          exact fun g => hnew (g ▸ hx)⟩
      · rcases List.mem_append.mp hx with hx | hx
        · exact h.severe x hx
        · rw [List.mem_singleton.mp hx]
          exact hsev
    · exact h

theorem foldl_track (h : r.Bounded) (l : List JEntry) : (l.foldl Reports.track r).Bounded := by
  induction l generalizing r with
  | nil => exact h
  | cons e l ih => exact ih (h.track e)

end Reports.Bounded

/-! ### Reports -/

theorem State.sendEmcy_rep (s : State) (x code ev : Nat) (p1 q : U32) (t : U64) : (s.sendEmcy x code ev p1 q t).rep = s.rep := by
  obtain ⟨_, _, h⟩ := s.sendEmcy_frame x code ev p1 q t
  rw [h]

theorem State.signal_rep (s : State) (v : Nat) : (s.signal v).rep = s.rep := by
  obtain ⟨_, _, h⟩ := s.signal_frame v
  rw [h]

/-- The bounds hold of whichever state a condition picks. -/
theorem Reports.Bounded.ite {c : Prop} [Decidable c] {s t : State} (hs : s.rep.Bounded) (ht : t.rep.Bounded) :
    (if c then s else t).rep.Bounded := by
  split <;> assumption

theorem State.eventEmcy_bounded {s : State} (h : s.rep.Bounded) (ev : Event) (e : JEntry) : (s.eventEmcy ev e).rep.Bounded := by
  have send {s : State} (h : s.rep.Bounded) (x code ev : Nat) (p1 q : U32) (t : U64) : (s.sendEmcy x code ev p1 q t).rep.Bounded :=
    (s.sendEmcy_rep ..).symm ▸ h
  unfold State.eventEmcy
  split
  · exact h
  · next code _ =>
    have hcode (c : Bool) : (if c = true then { s with rep := s.rep.error code } else s).rep.Bounded := .ite (h.error code) h
    exact .ite (send (.ite (send (hcode _) ..) (hcode _)) ..) (.ite (send (hcode _) ..) (hcode _))

theorem State.number_bounded {s : State} (h : s.rep.Bounded) (e : JEntry) : (s.number e).rep.Bounded := by
  have hr : ((s.rep.push e).track e).Bounded := (h.push e).track e
  unfold State.number
  dsimp only
  split
  · exact .ite hr hr
  · next ev _ =>
    refine .ite ((State.signal_rep ..).symm ▸ ?_) ?_
    all_goals
      refine .ite ?_ (State.eventEmcy_bounded (.ite hr hr) ..)
      rw [State.sendEmcy_rep, State.sendEmcy_rep]
      exact State.eventEmcy_bounded (.ite hr hr) ..

theorem State.foldl_number_bounded {s : State} (h : s.rep.Bounded) (l : List JEntry) : (l.foldl State.number s).rep.Bounded := by
  induction l generalizing s with
  | nil => exact h
  | cons e l ih => exact ih (State.number_bounded h e)

/-- A report is counted, and is then numbered or waits where there is room. -/
theorem State.report_bounded {s : State} (h : s.rep.Bounded) (e : JEntry) : (s.report e).rep.Bounded := by
  have hc : (s.counted e).rep.Bounded := .ite h.counted h
  refine .ite ?_ (State.number_bounded hc e)
  unfold State.queued
  dsimp only
  split
  · next hw => exact { hc with waiting := by rw [List.length_append]; exact hw }
  · exact { hc with }

/-- The reports that waited are numbered, REPORTS_LOST first. -/
theorem Op.numberWaiting_bounded {s : State} (h : s.rep.Bounded) (t : U64) : ((Op.numberWaiting t).apply s).rep.Bounded := by
  have he : ({ s.rep with waiting := [], lost := 0 } : Reports).Bounded := { h with waiting := Nat.zero_le _ }
  exact State.foldl_number_bounded (.ite he (State.number_bounded he.counted _)) _

/-- A device reset leaves of the report system those uncleared events that survive it. -/
theorem Op.resetReports_bounded {s : State} (h : s.rep.Bounded) (keep : Event → Bool) : ((Op.resetReports keep).apply s).rep.Bounded := by
  have hu : (s.rep.waiting.foldl Reports.track s.rep).Bounded := h.foldl_track _
  exact .sublist (r := { uncleared := s.unclearedNow }) { Reports.bounded_empty with nodup := hu.nodup, severe := hu.severe }
    List.filter_sublist

theorem Op.apply_bounded (o : Op) (s : State) (h : s.rep.Bounded) : (o.apply s).rep.Bounded := by
  cases o
  case report e => exact State.report_bounded h e
  case signal v => exact (State.signal_rep ..).symm ▸ h
  case emcy x code ev p1 => exact (State.sendEmcy_rep ..).symm ▸ h.error code
  case clearErrors => exact { h with errors := Nat.zero_le _ }
  case numberWaiting t => exact Op.numberWaiting_bounded h t
  case resetReports keep => exact Op.resetReports_bounded h keep
  case record | nextSeq | pageOpen | pageClose => exact { h with }
  all_goals exact h

/-! ### The stores of entries -/

theorem State.number_rising {s : State} (h : Store.rising s.dict = true) (e : JEntry) : Store.rising (s.number e).dict = true := by
  rcases s.number_dict e with hd | ⟨-, _, hd⟩
  · rwa [hd]
  · rw [hd]
    exact Store.rising_put _ _ _ _ h

theorem State.foldl_number_rising {s : State} (h : Store.rising s.dict = true) (l : List JEntry) :
    Store.rising (l.foldl State.number s).dict = true := by
  induction l generalizing s with
  | nil => exact h
  | cons e l ih => exact ih (State.number_rising h e)

/-- Of the updates, a write, the sequence point and a device reset change the entries. -/
theorem Op.apply_dict_rising (o : Op) (s : State) (h : Store.rising s.dict = true) : Store.rising (o.apply s).dict = true := by
  cases o
  case put n j i v => exact Store.rising_put _ _ _ _ h
  case clearState keep => exact Store.rising_filter _ _ h
  case report e =>
    refine (?_ : Store.rising (if s.fenced islHost then _ else _ : State).dict = true)
    have hc : Store.rising (s.counted e).dict = true := by rwa [State.counted_dict]
    split
    · exact hc
    · exact State.number_rising hc e
  case numberWaiting t =>
    refine State.foldl_number_rising ?_ _
    split
    · exact h
    · refine State.number_rising ?_ _
      exact h
  case signal v => exact (State.signal_dict ..).symm ▸ h
  case emcy x code ev p1 => exact (State.sendEmcy_dict ..).symm ▸ h
  all_goals exact h

theorem Op.apply_mirror_rising (o : Op) (s : State) (hd : Store.rising s.dict = true) (h : Store.rising s.mirror = true) :
    Store.rising (o.apply s).mirror = true := by
  by_cases hm : Part.mirror ∈ o.touches
  · cases o
    case reflect n j i v => exact Store.rising_put _ _ _ _ h
    case clearState keep => exact Store.rising_filter _ _ hd
    all_goals exact absurd hm (by simp [Op.touches, reporting])
  · rw [show (o.apply s).mirror = s.mirror from Op.touches_same hm]
    exact h

/-! ### The invariant -/

theorem Op.apply_inv (o : Op) (s : State) (h : s.Inv) : (o.apply s).Inv := by
  obtain ⟨hm, hd, hi, hr⟩ := s.inv_iff.mp h
  exact (o.apply s).inv_iff.mpr ⟨o.apply_mem_wf s hm, o.apply_dict_rising s hd, o.apply_mirror_rising s hd hi, o.apply_bounded s hr⟩

theorem Prog.run_inv (p : Prog) (s : State) (h : s.Inv) : (p.run s).Inv := Prog.run_invariant Op.apply_inv p s h

/-- The queue of commands is no part of the invariant. -/
theorem State.Inv.pending {s : State} (h : s.Inv) (l : List Instr) : ({ s with pending := l } : State).Inv := { h with }

/-- Every command answers with the state after a program. -/
theorem exec_runs (c : Instr) (s : State) : ∃ p : Prog, exec c s = .next (p.run s) := by
  cases c <;> exact ⟨_, rfl⟩

theorem step_inv {s t : State} (h : s.Inv) (hs : step s = .next t) : t.Inv := by
  unfold step at hs
  split at hs
  · cases hs
    exact Prog.run_inv _ s h
  · next c rest _ =>
    obtain ⟨p, hp⟩ := exec_runs c { s with pending := rest }
    cases hp.symm.trans hs
    exact Prog.run_inv p _ (h.pending rest)

end Sys2Proof.Machine
end

section
/-! PROOF. The invariant holds at reset (O5), and every step keeps it (O6). -/
namespace Sys2Proof.Proofs

open Sys2Proof.Machine

/-- Settles O5: of the stores only two hold an entry, and the report system is empty. -/
theorem resetKeepsTheInvariant : Obligations.ResetKeepsTheInvariant :=
  State.reset.inv_iff.mpr ⟨reset_mem_wf, rfl, rfl, Reports.bounded_empty⟩

/-- Settles O6: a step runs a program, and each primitive update keeps the invariant. -/
theorem everyStepKeepsTheInvariant : Obligations.EveryStepKeepsTheInvariant := fun _ _ => step_inv

end Sys2Proof.Proofs
end

section
/-! SUPPORT. The bytes of a completion. -/
namespace Sys2Proof.Machine

/-! ### Completion records -/

/-- A completion of at most 40 bytes of data: 24 bytes, the data, and zeros up to 64 bytes. -/
theorem completionBytes_eq (seq : U32) (p : Path) (r : CmdRecord) (st : Status) (time : U64) (epoch : Nat) {data : List Byte}
    (h : data.length ≤ 40) :
    completionBytes seq p r st time epoch data =
      leBytes 4 seq.toNat ++ (leBytes 2 r.hostSeq.toNat ++ (leBytes 1 st.code ++ (leBytes 1 p.num ++ (leBytes 8 time.toNat
        ++ (leBytes 2 epoch ++ (leBytes 1 r.opcode.toNat ++ (leBytes 1 data.length ++ (leBytes 2 r.index.toNat ++ (leBytes 1 r.sub.toNat
        ++ ([0] ++ (data ++ List.replicate (40 - data.length) 0))))))))))) := by
  have hpad : List.replicate 64 (0 : Byte) = List.replicate (40 - data.length) 0 ++ List.replicate (24 + data.length) 0 := by
    rw [List.replicate_append_replicate]
    congr 1
    omega
  simp only [completionBytes, hpad, ← List.append_assoc]
  refine List.take_left' ?_
  simp
  omega

/-- The completion that a path delivers is one of its record, where the state numbers it. -/
theorem isCompletion_completionBytes {t : State} (p : Path) (r : CmdRecord) {st : Status} (time : U64) (epoch : Nat) {data : List Byte}
    (hd : data.length ≤ 40) (hs : st.code < 256) : isCompletion t p r st data (completionBytes t.rep.seq p r st time epoch data) = true := by
  have hp : p.num < 256 := by cases p <;> decide
  rw [completionBytes_eq _ _ _ _ _ _ hd]
  have h4 : leNat (leBytes 4 t.rep.seq.toNat) = t.rep.seq.toNat := leNat_leBytes _ _ t.rep.seq.isLt
  have h2 (x : BitVec 16) : leNat (leBytes 2 x.toNat) = x.toNat := leNat_leBytes _ _ x.isLt
  have hmod : data.length % 256 = data.length := Nat.mod_eq_of_lt (by omega)
  simp [isCompletion, leBytes_one, List.getElem?_append, List.drop_append, List.drop_of_length_le, h4, h2,
    Nat.mod_eq_of_lt hp, Nat.mod_eq_of_lt hs, hmod]
  omega

end Sys2Proof.Machine
end

section
/-! SUPPORT. What the completion of a record changes on its path, and where it leaves. -/
namespace Sys2Proof.Machine

open Prog

/-! ### The Link -/

theorem mem_replayKeys (s : State) : keyOf .replays s.outPort 0 ∈ replayKeys ∧ keyOf .voids s.outPort 0 ∈ replayKeys := by
  unfold State.outPort
  split <;> decide

theorem transmit_within {W : List Nat} {L : List Part} (ho : .out ∈ L) (hl : .link ∈ L) (port : Nat) (x : Sent) :
    (transmit port x).All (Op.within W L) := by
  simp [transmit, output, Op.within, Op.touches, ho, hl]

theorem modLink_within {W : List Nat} {L : List Part} (hl : .link ∈ L) (f : Link → Link) : (modLink f).All (Op.within W L) := fun _ => by
  simp [Op.within, Op.touches, hl]

section
variable {W : List Nat} {L : List Part} (hW : ∀ k ∈ replayKeys, k ∈ W) (ho : .out ∈ L) (hl : .link ∈ L)
include hW ho hl

theorem resendOne_within (key q : Nat) : (resendOne key q).All (Op.within W L) := by
  intro s
  dsimp only
  split
  · trivial
  · split
    · exact ⟨fun _ => hW _ (mem_replayKeys s).1, transmit_within ho hl _ _⟩
    · exact ⟨fun _ => hW _ (mem_replayKeys s).2, transmit_within ho hl _ _⟩

theorem insertSome_within (n : Nat) : (insertSome n).All (Op.within W L) := by
  induction n with
  | zero => trivial
  | succ n ih =>
    intro s
    dsimp only
    split
    · trivial
    · next x xs _ =>
      simp only [all_when, all_all, List.forall_mem_cons, List.not_mem_nil, false_imp_iff, implies_true, and_true]
      refine fun _ => ⟨modLink_within hl _, ?_, ih⟩
      split
      · exact resendOne_within hW ho hl _ _
      · exact fun _ => ⟨modLink_within hl _, transmit_within ho hl _ _⟩

theorem sendBurst_within (kind dst head line : Nat) (b : List Byte) : (sendBurst kind dst head line b).All (Op.within W L) :=
  ⟨modLink_within hl _, fun _ => insertSome_within hW ho hl _⟩

end

/-! ### Delivery -/

/-- The entries that the delivery of a completion can change: the completion ring's head on P0, and on P5 the counts of what LINK sends again. -/
def deliveryKeys (p : Path) : List Nat := keyOf .cplHead 0 0 :: if p = .p5 then replayKeys else []

theorem deliver_frame {p : Path} (src : Nat) (b : List Byte) (s : State) :
    Frame (deliveryKeys p) [.unreads, .link, .out, .vectors] s ((deliver p src b).run s) := by
  refine Prog.run_frame (fun u => ?_) s
  cases p
  case p0 => simp [wrN, wr, output, Op.within, Op.touches, deliveryKeys]
  case p5 => exact sendBurst_within (fun k hk => .tail _ hk) (by decide) (by decide) _ _ _ _ _
  all_goals exact fun _ => by simp [Op.within, Op.touches]

/-- The bytes have left on the path: on P1 to P4 they are the newest unread completion, on P0 they were written to
the next slot of the completion ring where the X9 may write there. -/
structure Delivered (p : Path) (b : List Byte) (s t : State) : Prop where
  unread : p ∈ [Path.p1, .p2, .p3, .p4] → t.unread p.num = s.unread p.num ++ [b]
  ring : p = .p0 → s.canInitiate = true → t.rdN .cplHead = (s.rdN .cplHead + 1) % 65536
    ∧ .hostWrite (s.host64 .cplBase + 64 * (s.rdN .cplHead % 2 ^ s.rdN .cmdLog2)) b ∈ t.out

theorem signal_out (s : State) (v : Nat) {o : Output} (h : o ∈ s.out) : o ∈ (s.signal v).out := by
  unfold State.signal
  split
  · exact h
  · split
    · exact .tail _ h
    · dsimp only
      split
      · exact h
      · exact .tail _ h

/-- Behind the completion of P0, its shadow and its message. -/
def ringNotice (shadow next : Nat) : Prog := .seq (when (shadow ≠ 0) (output (.hostWrite shadow (leBytes 4 next)))) (.op (.signal 0))

theorem ringNotice_frame (shadow next : Nat) (s : State) : Frame [] [.out, .vectors] s ((ringNotice shadow next).run s) :=
  Prog.run_frame (p := ringNotice shadow next) (by simp [ringNotice, output, Op.within, Op.touches]) s

theorem ringNotice_out {shadow next : Nat} {s : State} {o : Output} (h : o ∈ s.out) : o ∈ ((ringNotice shadow next).run s).out := by
  refine signal_out _ 0 ?_
  rw [run_when]
  split
  · exact .tail _ h
  · exact h

/-- Where the X9 may write to the host, a completion of P0 is written to the slot of the head, which moves on. -/
theorem deliver_run_ring {s : State} (h : s.canInitiate = true) (src : Nat) (b : List Byte) : (deliver .p0 src b).run s =
    (ringNotice (s.host64 .cplShadow) ((s.rdN .cplHead + 1) % 65536)).run ((Op.put .cplHead 0 0 (u32 ((s.rdN .cplHead + 1) % 65536))).apply
      ((Op.output (.hostWrite (s.host64 .cplBase + 64 * (s.rdN .cplHead % 2 ^ s.rdN .cmdLog2)) b)).apply s)) := by
  simp only [deliver, run_ask, run_when, h, if_true]
  rfl

theorem toNat_u32 {x : Nat} (h : x < 4294967296) : (u32 x).toNat = x := by rw [u32, BitVec.toNat_ofNat, Nat.mod_eq_of_lt h]

theorem deliver_delivers (p : Path) (src : Nat) (b : List Byte) (s : State) : Delivered p b s ((deliver p src b).run s) := by
  refine ⟨fun hp => ?_, fun hp hc => ?_⟩
  · have hrun : (deliver p src b).run s = (modUnread p.num fun l => l ++ [b]).run s := by
      simp only [List.mem_cons, List.not_mem_nil, or_false] at hp
      rcases hp with rfl | rfl | rfl | rfl <;> rfl
    rw [hrun, run_modUnread, State.unread_apply, if_pos rfl]
  · subst hp
    rw [deliver_run_ring hc]
    refine ⟨?_, ringNotice_out (.head _)⟩
    rw [State.rdN, (ringNotice_frame ..).1 _ _ _ List.not_mem_nil, State.rd_put, toNat_u32 (by omega)]

end Sys2Proof.Machine
end

section
/-! SUPPORT. The completion of a record from the state in which it is taken. -/
namespace Sys2Proof.Machine

open Prog

theorem Frame.unread {W : List Nat} {L : List Part} {s t : State} (h : Frame W L s t) (hL : .unreads ∉ L) (k : Nat) : t.unread k = s.unread k :=
  congrArg (Store.get [] · k) (h.2 .unreads hL)

theorem Frame.cmd {W : List Nat} {L : List Part} {s t : State} (h : Frame W L s t) (hL : .cmds ∉ L) (k : Nat) : t.cmd k = s.cmd k :=
  congrArg (Store.get ({} : CmdPath) · k) (h.cmds hL)

/-- The entries by which a completion finds its place in the host's memory. -/
def placeKeys : List Nat := [keyOf .cplHead 0 0, keyOf .cplBase 0 0, keyOf .cplBase 0 1, keyOf .cmdLog2 0 0, keyOf .linkStatus 0 0]

/-- A delivery after changes that leave the place of the completion. -/
theorem Delivered.after {p : Path} {b : List Byte} {W : List Nat} {L : List Part} {s u t : State} (h : Delivered p b u t) (hf : Frame W L s u)
    (hW : ∀ k ∈ placeKeys, k ∉ W) (hL : .unreads ∉ L) : Delivered p b s t := by
  have hrd {n : Name} {i : Nat} (hk : keyOf n 0 i ∈ placeKeys) : u.rdN n 0 i = s.rdN n 0 i := congrArg BitVec.toNat (hf.1 n 0 i (hW _ hk))
  have hcan : u.canInitiate = s.canInitiate := by rw [State.canInitiate, State.canInitiate, State.linkUp, State.linkUp, hrd (by decide)]
  have hbase : u.host64 .cplBase = s.host64 .cplBase := by rw [State.host64, State.host64, hrd (by decide), hrd (by decide)]
  refine ⟨fun hp => by rw [h.unread hp, hf.unread hL], fun hp hc => ?_⟩
  have hr := h.ring hp (hcan.trans hc)
  rwa [hbase, hrd (n := .cplHead) (by decide), hrd (n := .cmdLog2) (by decide)] at hr

/-- A delivery before changes that leave the unread completions, the outputs and the completion ring's head. -/
theorem Delivered.before {p : Path} {b : List Byte} {W : List Nat} {L : List Part} {s u t : State} (h : Delivered p b s u) (hf : Frame W L u t)
    (hW : keyOf .cplHead 0 0 ∉ W) (hL : .unreads ∉ L) (ho : .out ∉ L) : Delivered p b s t := by
  refine ⟨fun hp => (hf.unread hL _).trans (h.unread hp), fun hp hc => ?_⟩
  obtain ⟨h1, h2⟩ := h.ring hp hc
  refine ⟨(congrArg BitVec.toNat (hf.1 .cplHead 0 0 hW)).trans h1, ?_⟩
  rwa [show t.out = u.out from hf.2 .out ho]

/-! ### The end of a record -/

theorem finishPath_frame (p : Path) (s : State) : Frame [] [.cmds, .ports] s ((finishPath p).run s) := by
  refine Prog.run_frame (fun u => ?_) s
  simp [portPop, modCmd, modPort, Op.within, Op.touches]

/-- The record of a path that runs has ended; those that wait stay. -/
theorem finishPath_cmd {p : Path} {s : State} (h : (s.cmd p.num).running = true) (k : Nat) :
    ((finishPath p).run s).cmd k = if k = p.num then { s.cmd p.num with running := false } else s.cmd k := by
  have hrun : (finishPath p).run s = (when (p = .p1 || p = .p2) (portPop p.num)).run ((modCmd p.num fun c => { c with running := false }).run s) := by
    simp only [finishPath, run_ask, run_when, h, if_true, all_cons, all_nil, run_seq, run_nop]
  have hport : Frame [] [.ports] ((modCmd p.num fun c => { c with running := false }).run s) ((finishPath p).run s) := by
    rw [hrun]
    refine Prog.run_frame ?_ _
    simp [portPop, modPort, Op.within, Op.touches]
  rw [hport.cmd (by decide), run_modCmd, State.cmd_apply]

theorem ringSettle_frame (s : State) : Frame [keyOf .ringState 0 0] [.ring] s (ringSettle.run s) := by
  refine Prog.run_frame (fun u => ?_) s
  simp [ringIdle, wrN, wr, modRing, Op.within, Op.touches]

/-- The path is free again, and a ring that is to stop may. -/
def leavePath (p : Path) : Prog := .seq (finishPath p) (when (p = .p0) ringSettle)

theorem leavePath_frame (p : Path) (s : State) : Frame [keyOf .ringState 0 0] [.cmds, .ports, .ring] s ((leavePath p).run s) := by
  refine ((finishPath_frame p s).mono (by simp) (by simp)).trans ?_
  rw [leavePath, run_seq, run_when]
  split
  · exact (ringSettle_frame _).mono (by simp) (by simp)
  · exact Frame.refl ..

theorem leavePath_cmd {p : Path} {s : State} (h : (s.cmd p.num).running = true) (k : Nat) :
    ((leavePath p).run s).cmd k = if k = p.num then { s.cmd p.num with running := false } else s.cmd k := by
  rw [← finishPath_cmd h]
  refine (?_ : ((when (p = .p0) ringSettle).run ((finishPath p).run s)).cmd k = _)
  rw [run_when]
  split
  · exact (ringSettle_frame _).cmd (by decide) k
  · rfl

/-! ### The completion -/

/-- What stands in LAST_STATUS before the completion of a record leaves. -/
def noteStatus (p : Path) (st : Status) (at' : Nat × Nat) : Prog := when (decide (st ≠ .ok ∧ st ≠ .journalLost)) (refuse p st at'.1 at'.2)

theorem noteStatus_frame (p : Path) (st : Status) (at' : Nat × Nat) (s : State) :
    Frame (if st = .ok ∨ st = .journalLost then [] else refusalKeys p) [.ports] s ((noteStatus p st at').run s) := by
  unfold noteStatus
  by_cases h : st = .ok ∨ st = .journalLost
  · have hd : decide (st ≠ .ok ∧ st ≠ .journalLost) = false := by simpa only [decide_eq_false_iff_not, ne_eq, ← not_or, not_not] using h
    rw [hd]
    exact Frame.refl ..
  · have hd : decide (st ≠ .ok ∧ st ≠ .journalLost) = true := by simpa [not_or] using h
    rw [hd, if_neg h]
    exact refuse_frame ..

/-- A completion is numbered and stamped, and leaves on its path. -/
def sendCompletion (p : Path) (src : Nat) (r : CmdRecord) (st : Status) (u e isl : Nat) (data : List Byte) : Prog := .seq (.op .nextSeq)
  (.ask fun s => .seq (.op .free) (deliver p src (completionBytes s.rep.seq p r st (s.stamp isl) (if u = 0 then 0 else e) data)))

theorem sendCompletion_delivers (p : Path) (src : Nat) (r : CmdRecord) (st : Status) (u e isl : Nat) (data : List Byte) (s : State) :
    let t := (sendCompletion p src r st u e isl data).run s
    (∃ time epoch, Delivered p (completionBytes t.rep.seq p r st time epoch data) s t)
      ∧ Frame (deliveryKeys p) (.unreads :: .link :: reporting) s t := by
  have hn : Frame [] [.rep, .fresh] s (Op.free.apply (Op.nextSeq.apply s)) :=
    (Op.within_frame (o := .nextSeq) s (by simp [Op.within, Op.touches])).trans (Op.within_frame (o := .free) _ (by simp [Op.within, Op.touches]))
  have hd := deliver_frame (p := p) src
    (completionBytes (Op.nextSeq.apply s).rep.seq p r st ((Op.nextSeq.apply s).stamp isl) (if u = 0 then 0 else e) data)
    (Op.free.apply (Op.nextSeq.apply s))
  refine ⟨⟨(Op.nextSeq.apply s).stamp isl, if u = 0 then 0 else e, ?_⟩,
    (hn.mono (by simp) (by simp [reporting])).trans (hd.mono (fun _ h => h) (by simp [reporting]))⟩
  rw [show ((sendCompletion p src r st u e isl data).run s).rep.seq = (Op.nextSeq.apply s).rep.seq from congrArg Reports.seq (hd.2 .rep (by decide))]
  exact (deliver_delivers p src _ _).after hn (by simp) (by decide)

theorem complete_run (p : Path) (src : Nat) (r : CmdRecord) (st : Status) (u e isl : Nat) (data : List Byte) (at' : Nat × Nat) (s : State) :
    (complete p src r st u e isl data at').run s =
      (leavePath p).run ((sendCompletion p src r st u e isl data).run ((noteStatus p st at').run s)) := rfl

/-- The entries that the completion of a record with a status can change. -/
def completionKeys (p : Path) (st : Status) : List Nat :=
  keyOf .ringState 0 0 :: deliveryKeys p ++ if st = .ok ∨ st = .journalLost then [] else refusalKeys p

/-- The parts of the state that the completion of a record can change. -/
def recordParts : List Part := .cmds :: .unreads :: .ports :: .ring :: .link :: reporting

/-- Between two states the record of a path that ran has completed. -/
structure Ends (p : Path) (r : CmdRecord) (st : Status) (data : List Byte) (s t : State) : Prop where
  idle : (t.cmd p.num).running = false
  held : ∀ k, (t.cmd k).held = (s.cmd k).held
  delivered : ∃ time epoch, Delivered p (completionBytes t.rep.seq p r st time epoch data) s t
  frame : Frame (completionKeys p st) recordParts s t

/-- A record of a path that runs completes. -/
theorem complete_ends {p : Path} {s : State} (hr : (s.cmd p.num).running = true) (src : Nat) (r : CmdRecord) (st : Status) (u e isl : Nat)
    (data : List Byte) (at' : Nat × Nat) : Ends p r st data s ((complete p src r st u e isl data at').run s) := by
  rw [complete_run]
  have hsa := noteStatus_frame p st at' s
  generalize (noteStatus p st at').run s = a at hsa ⊢
  obtain ⟨⟨time, epoch, hd⟩, hab⟩ := sendCompletion_delivers p src r st u e isl data a
  generalize (sendCompletion p src r st u e isl data).run a = b at hd hab ⊢
  have hbt := leavePath_frame p b
  have hcmd (k : Nat) : b.cmd k = s.cmd k := (hab.cmd (by decide) k).trans (hsa.cmd (by decide) k)
  have hdone := leavePath_cmd ((congrArg CmdPath.running (hcmd _)).trans hr)
  generalize (leavePath p).run b = t at hbt hdone ⊢
  simp only [hcmd] at hdone
  refine ⟨by rw [hdone, if_pos rfl], fun k => ?_, ⟨time, epoch, ?_⟩, ?_⟩
  · rw [hdone]
    split
    · next hk => rw [hk]
    · rfl
  · rw [show t.rep = b.rep from hbt.2 .rep (by decide)]
    refine (hd.before hbt (by decide) (by decide) (by decide)).after hsa ?_ (by decide)
    split
    · simp
    · cases p <;> decide
  · unfold completionKeys recordParts
    exact ((hsa.mono (by simp +contextual) (by simp)).trans (hab.mono (by simp +contextual) (by simp +contextual [reporting]))).trans
      (hbt.mono (by simp) (by simp [reporting]))

end Sys2Proof.Machine
end

section
/-! SUPPORT. How a record reaches its path and is taken there. -/
namespace Sys2Proof.Machine

open Prog

/-! ### The record on the register ports -/

/-- A halfword of two bytes, the high one first. -/
theorem bytes_append (x : BitVec 16) : BitVec.ofNat 8 (x.toNat / 256) ++ x.setWidth 8 = x := by
  have hx := x.isLt
  have hlo : (x.setWidth 8).toNat < 2 ^ 8 := (x.setWidth 8).isLt
  refine BitVec.eq_of_toNat_eq ?_
  rw [BitVec.toNat_append, ← Nat.shiftLeft_add_eq_or_of_lt hlo, Nat.shiftLeft_eq, BitVec.toNat_ofNat, BitVec.toNat_setWidth]
  omega

theorem parseRecord_packRecord (r : CmdRecord) :
    parseRecord (packRecord r) = { r with data := (r.data ++ List.replicate 48 0).take 48 } := by
  simp [parseRecord, packRecord, leBytes_two, bytes_append]

/-- Zeros behind a number's bytes are no part of it. -/
theorem leNat_padded (l : List Byte) (n : Nat) : leNat (l ++ List.replicate n 0) = leNat l := by
  induction l with
  | nil =>
    induction n with
    | zero => rfl
    | succ n ih => simpa [List.replicate_succ, leNat] using ih
  | cons b l ih => simp only [List.cons_append, leNat, ih]

theorem leNat_take_padded (l : List Byte) : leNat (((l ++ List.replicate 48 0).take 48).take 4) = leNat (l.take 4) := by
  rw [List.take_take, List.take_append, List.take_replicate]
  exact leNat_padded ..

/-! ### Reaching the path -/

theorem dispatch_record {p : Path} {b : List Byte} {s : State} (hr : (s.cmd p.num).running = false) (hq : (s.port p.num).queue = [.record b])
    (hu : (s.unread p.num).length < 16) : (dispatch p).run s = (execRecord p 0 (parseRecord b)).run s := by
  simp only [dispatch, run_ask, run_when, hr, hq, Bool.not_false, if_true]
  rw [if_neg (by omega)]

theorem port_frame (k : Nat) (x : Port) (s : State) : Frame [] [.ports] s ((Op.port k x).apply s) :=
  Op.within_frame s (by simp [Op.within, Op.touches])

/-- A record that a path is ready for executes at once: it comes from the posted queue of P1 or P2 with its data filled up with zeros, and with
the fetch of P0. -/
theorem recordRow_execs {s : State} {p : Path} (h : ReadyFor s p) (r : CmdRecord) : ∃ q, recordRow p r = inIsland islHost (settled q) ∧
    ∃ src d u, q.run s = (when (p = .p0) ringSettle).run ((execRecord p src { r with data := d }).run u)
      ∧ Frame [keyOf .cmdHead 0 0] [.ports, .ring] s u ∧ leNat (d.take 4) = leNat (r.data.take 4) := by
  obtain ⟨-, hf, hrun, ⟨h3, h4, h5⟩, h6, hu, hp0, hp1, hp2⟩ := h
  have hdue {p : Path} (hr : (s.cmd p.num).running = false) (hh : (s.cmd p.num).held = []) (hn : s.unreadNow p < 16) :
      (s.fenced islHost || decide (16 ≤ s.unreadDue p)) = false := by
    have hd : s.unreadDue p = s.unreadNow p := by simp [State.unreadDue, hr, hh, bit01]
    simp [hf, hd, hn]
  cases p
  case p0 =>
    refine ⟨_, rfl, 0, r.data, (Op.put .cmdHead 0 0 (u32 ((s.rdN .cmdHead + 1) % 65536))).apply
      ((Op.ring { s.ring with fetching := false }).apply s), ?_, ?_, rfl⟩
    · simp only [fetched, run_ask, run_when, hp0 rfl, if_true]
      rfl
    · exact (Op.within_frame (o := .ring _) s (by simp [Op.within, Op.touches])).trans (Op.within_frame (o := .put ..) _ (.head _))
  case p1 =>
    obtain ⟨hw, hq⟩ := hp1 rfl
    let u := (Op.port 1 { s.port 1 with queue := [.record (packRecord r)] }).apply s
    have hpost : (parPost (.record (packRecord r))).run s = u := by simp [parPost, hq, u]
    have huq : (u.port 1).queue = [.record (packRecord r)] := by simp [u]
    refine ⟨_, rfl, 0, _, u, ?_, (port_frame ..).mono (by simp) (by simp), leNat_take_padded r.data⟩
    simp only [run_ask, run_when, hw, Option.isNone_none, if_true, run_seq, hpost, huq, List.length_singleton, decide_true]
    rw [dispatch_record (p := .p1) (s := u) hrun huq hu, parseRecord_packRecord]
    rfl
  case p2 =>
    have hq := hp2 rfl
    let u := (Op.port 2 { s.port 2 with queue := [.record (packRecord r)] }).apply s
    have hpost : (qspiPost 0x808000 (.record (packRecord r))).run s = u := by simp [qspiPost, hq, u]
    have huq : (u.port 2).queue = [.record (packRecord r)] := by simp [u]
    refine ⟨_, rfl, 0, _, u, ?_, (port_frame ..).mono (by simp) (by simp), leNat_take_padded r.data⟩
    simp only [run_ask, run_when, run_seq, hpost, huq, List.length_singleton, decide_true, if_true]
    rw [dispatch_record (p := .p2) (s := u) hrun huq hu, parseRecord_packRecord]
    rfl
  case p3 =>
    refine ⟨_, rfl, 0, r.data, s, ?_, Frame.refl .., rfl⟩
    simp only [arrive, run_ask, hdue hrun h3 hu, hrun, Bool.false_eq_true, if_false]
    rfl
  case p4 =>
    refine ⟨_, rfl, 0, r.data, s, ?_, Frame.refl .., rfl⟩
    simp only [arrive, run_ask, hdue hrun h4 hu, hrun, Bool.false_eq_true, if_false]
    rfl
  case p5 =>
    refine ⟨_, rfl, s.rdN .p5Source, r.data, s, ?_, Frame.refl .., rfl⟩
    simp only [arrive, run_ask, hdue hrun h5 hu, hrun, Bool.false_eq_true, if_false]
    rfl
  case p6 => exact absurd rfl h6

end Sys2Proof.Machine
end

section
/-! SUPPORT. A record that a path takes: the state in which it is checked, and the answer of its row once it completes. -/
namespace Sys2Proof.Machine

open Prog

/-! ### The state in which a record is checked -/

/-- The entries that a record which is taken changes before it is checked. -/
def takenKeys (p : Path) : List Nat := [keyOf .lastHostSeq 0 p.num, keyOf .cmdHead 0 0]

/-- Between two states a record of the path was taken: it runs, and its events are tracked. -/
structure Taken (p : Path) (s w : State) : Prop where
  running : (w.cmd p.num).running = true
  held : ∀ k, (w.cmd k).held = (s.cmd k).held
  rep : ∃ x, w.rep = { s.rep with record := x }
  frame : Frame (takenKeys p) [.cmds, .rep, .ports, .ring] s w

/-- The record runs. -/
def recordBegun (p : Path) (r : CmdRecord) (s : State) : State :=
  (Op.record (some (p.num, r.hostSeq.toNat))).apply ((Op.cmd p.num { s.cmd p.num with running := true }).apply s)

/-- The host sequence that follows the last one. -/
def State.nextHostSeq (s : State) (p : Path) : Nat := (s.rdN .lastHostSeq 0 p.num + 1) % 65536

/-- LAST_HOST_SEQ has taken the record's. -/
def recordTaken (p : Path) (r : CmdRecord) (s : State) : State := (Op.put .lastHostSeq 0 p.num (u32 (s.nextHostSeq p))).apply (recordBegun p r s)

theorem recordBegun_taken {p : Path} {s u : State} (h : Frame [keyOf .cmdHead 0 0] [.ports, .ring] s u) (r : CmdRecord) :
    Taken p s (recordBegun p r u) := by
  have hcmd (k : Nat) : (recordBegun p r u).cmd k = if k = p.num then { s.cmd p.num with running := true } else s.cmd k := by
    rw [← h.cmd (by decide) k, ← h.cmd (by decide) p.num]
    exact State.cmd_apply p.num { u.cmd p.num with running := true } u k
  refine ⟨by rw [hcmd, if_pos rfl], fun k => ?_, ⟨some (p.num, r.hostSeq.toNat), ?_⟩, (h.mono (by simp [takenKeys]) (by simp)).trans ?_⟩
  · rw [hcmd]
    split
    · next hk => rw [hk]
    · rfl
  · rw [← h.2 .rep (by decide)]
    rfl
  · exact (Op.within_frame (o := .cmd ..) u (by simp [Op.within, Op.touches])).trans
      (Op.within_frame (o := .record _) _ (by simp [Op.within, Op.touches]))

theorem recordTaken_taken {p : Path} {s u : State} (h : Frame [keyOf .cmdHead 0 0] [.ports, .ring] s u) (r : CmdRecord) :
    Taken p s (recordTaken p r u) := by
  obtain ⟨h1, h2, h3, h4⟩ := recordBegun_taken (p := p) h r
  exact ⟨h1, h2, h3, h4.trans (Op.within_frame (o := .put ..) _ (.head _))⟩

theorem recordTaken_hostSeq (p : Path) (r : CmdRecord) (u : State) : (recordTaken p r u).rd .lastHostSeq 0 p.num = u32 (u.nextHostSeq p) :=
  State.rd_put ..

/-! ### The opcodes -/

/-- What a record with the next host sequence does (R137 to R139, R909). -/
def runOpcode (p : Path) (src : Nat) (r : CmdRecord) : Prog :=
  match r.opcodeStatus with
  | .ok => match r.opcode.toNat with
    | 0 => runNop p src r
    | 1 => runRead p src r
    | 2 => runWrite p src r
    | 3 => runDomainWrite p src r
    | 4 => runDomainRead p src r
    | _ => runJournalRead p src r
  | st => completeBare p src r st [] r.sub.toNat

theorem execRecord_gap {p : Path} {r : CmdRecord} {u : State} (h : r.hostSeq.toNat ≠ u.nextHostSeq p) (src : Nat) : (execRecord p src r).run u =
    (Op.record none).apply ((completeBare p src r .seqGap (leBytes 2 (u.nextHostSeq p)) r.sub.toNat).run (recordBegun p r u)) := by
  have h' : r.hostSeq.toNat ≠ ((recordBegun p r u).rdN .lastHostSeq 0 p.num + 1) % 65536 := h
  simp only [execRecord, all_cons, all_nil, run_seq, run_ask, run_nop, run_op, run_modCmd]
  rw [← recordBegun, if_pos h']
  rfl

theorem execRecord_next {p : Path} {r : CmdRecord} {u : State} (h : r.hostSeq.toNat = u.nextHostSeq p) (src : Nat) : (execRecord p src r).run u =
    (Op.record none).apply ((runOpcode p src r).run (recordTaken p r u)) := by
  have h' : ¬ r.hostSeq.toNat ≠ ((recordBegun p r u).rdN .lastHostSeq 0 p.num + 1) % 65536 := not_not.mpr h
  simp only [execRecord, all_cons, all_nil, run_seq, run_ask, run_nop, run_op, run_modCmd]
  rw [← recordBegun, if_neg h']
  rfl

/-! ### The answer of a row -/

/-- A record of the path completes in the end, from the state `w`. -/
def CompletesFrom (p : Path) (src : Nat) (r : CmdRecord) (st : Status) (data : List Byte) (u w : State) : Prop :=
  ∃ unit epoch isl at', (execRecord p src r).run u = (Op.record none).apply ((complete p src r st unit epoch isl data at').run w)

/-- The entries that the row of a record which completes with a status can change. -/
def recordKeys (p : Path) (st : Status) : List Nat := takenKeys p ++ completionKeys p st

theorem Ends.completed {p : Path} {r : CmdRecord} {st : Status} {data : List Byte} {s w t u : State} (h : Ends p r st data w t)
    (hw : Frame (takenKeys p) [.cmds, .rep, .ports, .ring] s w) (hu : Frame [keyOf .ringState 0 0] [.rep, .ring] t u)
    (hq : u.rep.seq = t.rep.seq) (hd : data.length ≤ 40) (hc : st.code < 256) : Completed s u p r st data := by
  obtain ⟨time, epoch, hdel⟩ := h.delivered
  have hplace : ∀ k ∈ placeKeys, k ∉ takenKeys p := by
    cases p <;> decide
  have hout : Delivered p (completionBytes u.rep.seq p r st time epoch data) s u :=
    hq.symm ▸ (hdel.after hw hplace (by decide)).before hu (by decide) (by decide) (by decide)
  have hcmp := isCompletion_completionBytes (t := u) p r time epoch hd hc
  refine ⟨(congrArg CmdPath.running (hu.cmd (by decide) _)).trans h.idle, fun hp => ?_, fun hp hi => ?_⟩
  · rw [hout.unread hp]
    refine ⟨by simp, by simp, fun c hl => ?_⟩
    rw [List.getLast?_concat] at hl
    cases hl
    exact hcmp
  · obtain ⟨h1, h2⟩ := hout.ring hp hi
    refine ⟨h1, List.any_eq_true.mpr ⟨_, h2, ?_⟩⟩
    simp [hcmp]

/-- The row of a record that a path is ready for and that completes. -/
theorem record_answers {c : Instr} {s : State} {p : Path} {r : CmdRecord} {st : Status} {data : List Byte} {v : U32} (h : ReadyFor s p)
    (hx : exec c s = .next ((recordRow p r).run s)) (hd : data.length ≤ 40) (hc : st.code < 256)
    (hb : ∀ src d u, Frame [keyOf .cmdHead 0 0] [.ports, .ring] s u → leNat (d.take 4) = leNat (r.data.take 4) →
      ∃ w, Taken p s w ∧ w.rd .lastHostSeq 0 p.num = v ∧ CompletesFrom p src { r with data := d } st data u w) :
    Answers c s fun t => Completed s t p r st data ∧ t.rd .lastHostSeq 0 p.num = v ∧ Frame (recordKeys p st) recordParts s t := by
  obtain ⟨q, hrow, src, d, u, hq, hu, hdata⟩ := recordRow_execs h r
  obtain ⟨w, hw, hv, unit, epoch, isl, at', hrun⟩ := hb src d u hu hdata
  have he := complete_ends hw.running src { r with data := d } st unit epoch isl data at'
  rw [hrun] at hq
  generalize (complete p src { r with data := d } st unit epoch isl data at').run w = t at he hq
  have hpost : Frame [keyOf .ringState 0 0] [.rep, .ring] t (q.run s) := by
    rw [hq, run_when]
    have hrec := Op.within_frame (W := []) (L := [.rep]) (o := .record none) t (by simp [Op.within, Op.touches])
    split
    · exact (hrec.mono (by simp) (by simp)).trans ((ringSettle_frame _).mono (by simp) (by simp))
    · exact hrec.mono (by simp) (by simp)
  have hseq : (q.run s).rep.seq = t.rep.seq := by
    have hset : (ringSettle.run ((Op.record none).apply t)).rep = ((Op.record none).apply t).rep := (ringSettle_frame _).2 .rep (by decide)
    rw [hq, run_when]
    split
    · rw [hset]
      rfl
    · rfl
  have hheld (k : Nat) : ((q.run s).cmd k).held = (s.cmd k).held := by
    rw [hpost.cmd (by decide), he.held, hw.held]
  obtain ⟨hl, hf, -, hn, -⟩ := h
  have hxq : exec c s = .next ((settled q).run s) := by
    rw [hx, hrow]
    simp [inIsland, hl, hf]
  have hno : NoHeld (q.run s) := by simpa only [NoHeld, hheld] using hn
  refine ⟨_, hxq, ?_⟩
  rw [settled_run_noHeld hno]
  refine ⟨he.completed hw.frame hpost hseq hd hc, ?_, ?_⟩
  · rw [hpost.1 _ _ _ (by cases p <;> decide), he.frame.1 _ _ _ ?_, hv]
    unfold completionKeys
    split <;> cases p <;> decide
  · refine (hw.frame.mono ?_ ?_).trans ((he.frame.mono ?_ ?_).trans (hpost.mono ?_ ?_))
    all_goals simp +contextual [recordKeys, completionKeys, recordParts, reporting]

end Sys2Proof.Machine
end

section
/-! SUPPORT. What a record reads: the entries that its taking leaves alone. -/
namespace Sys2Proof.Machine

open Prog

/-! ### Entries under a record that was taken -/

theorem allNames_subs : (allNames.map rowOf).all (fun r => Nat.blt 0 r.subCount) = true := by decide +kernel

theorem unitAt_le {n : Name} (hn : n ≠ .highestSub) {j u : Nat} (hj : j < (rowOf n).count) (h : unitAt (rowOf n).base j 0 = some u) : u ≤ 56 := by
  have hr := List.mem_map_of_mem (f := rowOf) (mem_allNames hn)
  have hi : 0 < (rowOf n).subCount := Nat.blt_eq.mp (List.all_eq_true.mp allNames_subs _ hr)
  have hb := List.all_eq_true.mp (List.all_eq_true.mp (List.all_eq_true.mp allNames_unitsSmall _ hr) j (List.mem_range.mpr hj)) 0
    (List.mem_range.mpr hi)
  rw [h] at hb
  exact Nat.le_of_ble_eq_true hb

/-- An index at which a row lies belongs to one of its places. -/
theorem Row.atIndex_inst {n : Name} {idx : Nat} (h : (rowOf n).atIndex idx = true) :
    n ≠ .highestSub ∧ (idx - (rowOf n).base) / max 1 (rowOf n).stride < (rowOf n).count := by
  have hn : n ≠ .highestSub := fun g => by
    rw [g] at h
    simp [Row.atIndex, rowOf] at h
  refine ⟨hn, ?_⟩
  rw [Nat.max_eq_right (row_proper hn).1]
  simp only [Row.atIndex, decide_eq_true_eq] at h
  obtain ⟨-, hc, hd⟩ := h
  split at hc
  · next h1 =>
    rw [if_pos h1] at hd
    rwa [hd, Nat.zero_div]
  · exact hc

theorem highestSub_unit_le {j u : Nat} (h : Ent.unit { name := .highestSub, inst := j } = some u) : u ≤ 56 := by
  simp only [Ent.unit] at h
  split at h
  · exact nomatch h
  · split at h
    · next n hn =>
      obtain ⟨hne, hj⟩ := Row.atIndex_inst (idx := j) (List.find?_some hn :)
      exact unitAt_le hne hj h
    · exact nomatch h

/-- The only entry at an index that no row lists is the highest sub-index. -/
theorem lookup_highestSub {idx sub : Nat} {e : Ent} (h : lookup idx sub = .ok e) (hn : e.name = .highestSub) :
    e = { name := .highestSub, inst := idx } := by
  unfold lookup at h
  split at h
  case h_1 f hf =>
    cases h
    have hj := (Row.find_some (listedIn_some hf).2).1
    rw [hn] at hj
    exact absurd hj (Nat.not_lt_zero _)
  case h_2 =>
    split at h
    case isTrue =>
      split at h
      · cases h; rfl
      · exact nomatch h
    case isFalse => exact nomatch h

theorem unit_le_of_lookup {idx sub u : Nat} {e : Ent} (h : lookup idx sub = .ok e) (hu : e.unit = some u) : u ≤ 56 := by
  by_cases hn : e.name = .highestSub
  · rw [lookup_highestSub h hn] at hu
    exact highestSub_unit_le hu
  · exact unit_le (lookup_placed h hn) hu

variable {p : Path} {s w : State}

/-- The entries that the taking of a record may change are LAST_HOST_SEQ and CMD_HEAD. -/
theorem Taken.rd (h : Taken p s w) (h6 : p ≠ .p6) {n : Name} {j i : Nat} (hp : Ent.Placed ⟨n, j, i⟩) (hn : n ∉ [.lastHostSeq, .cmdHead]) :
    w.rd n j i = s.rd n j i := by
  refine h.frame.1 n j i fun hk => hn ?_
  have hnum : p.num < 6 := by revert h6; cases p <;> decide
  have hhost : Ent.Placed ⟨.lastHostSeq, 0, p.num⟩ := ⟨nofun, Nat.one_pos, hnum⟩
  rcases List.mem_cons.mp hk with hk | hk
  · exact List.mem_cons.mpr (.inl (congrArg Ent.name (key_inj hp hhost hk)))
  · have hhead := key_inj hp (f := ⟨.cmdHead, 0, 0⟩) ⟨nofun, by decide, by decide⟩ (List.mem_singleton.mp hk)
    exact .tail _ (List.mem_singleton.mpr (congrArg Ent.name hhead))

/-- The first entries of rows that have a place `j`. -/
theorem Taken.rds (h : Taken p s w) (h6 : p ≠ .p6) (l : List Name) {c j : Nat} (hj : j < c)
    (hl : ∀ n ∈ l, n ≠ .highestSub ∧ c ≤ (rowOf n).count ∧ 0 < (rowOf n).subCount ∧ n ∉ [.lastHostSeq, .cmdHead]) :
    ∀ n ∈ l, w.rd n j 0 = s.rd n j 0 := fun n hn =>
  have ⟨h1, h2, h3, h4⟩ := hl n hn
  h.rd h6 ⟨h1, Nat.lt_of_lt_of_le hj h2, h3⟩ h4

theorem Taken.rdNs (h : Taken p s w) (h6 : p ≠ .p6) (l : List Name) {c j : Nat} (hj : j < c)
    (hl : ∀ n ∈ l, n ≠ .highestSub ∧ c ≤ (rowOf n).count ∧ 0 < (rowOf n).subCount ∧ n ∉ [.lastHostSeq, .cmdHead]) :
    ∀ n ∈ l, w.rdN n j 0 = s.rdN n j 0 := fun n hn => congrArg BitVec.toNat (h.rds h6 l hj hl n hn)

theorem Taken.epochOf (h : Taken p s w) (h6 : p ≠ .p6) {u : Nat} (hu : u ≤ 56) : w.epochOf u = s.epochOf u := by
  unfold State.epochOf
  split
  · rfl
  · have hp : Ent.Placed ⟨.epoch, 0, u - 1⟩ := ⟨nofun, Nat.one_pos, show u - 1 < 56 by omega⟩
    rw [State.rdN, State.rdN, h.rd h6 hp (by decide)]

/-! ### The values that islands compute -/

theorem Taken.fenced (h : Taken p s w) (k : Nat) : w.fenced k = s.fenced k := h.frame.fenced (by decide) k

theorem Taken.devOf (h : Taken p s w) (h6 : p ≠ .p6) {a : Nat} (ha : a < 6) : w.devOf a = s.devOf a := by
  have hr := h.rds h6 [.encEn, .pos, .encPos, .encScale] ha (by decide)
  have hen : w.encAxis a = s.encAxis a := by simp only [State.encAxis, State.rdB, hr .encEn (by decide)]
  have hpos : w.posZ a = s.posZ a := by simp only [State.posZ, State.rdZ, hr .pos (by decide)]
  have hunits : w.encUnits a = s.encUnits a := by
    simp only [State.encUnits, State.rdZ, State.rdN, hr .encPos (by decide), hr .encScale (by decide)]
  rw [State.devOf, State.devOf, hen, hpos, hunits]

theorem Taken.timerCount (h : Taken p s w) (h6 : p ≠ .p6) {c : Nat} (hc : c < 32) : w.timerCount c = s.timerCount c := by
  have hr := h.rdNs h6 [.clkSrc, .prescN, .prescF, .tmrState, .slaveMode, .slaveEdgeSel] hc (by decide)
  have ht : w.timer c = s.timer c := congrArg (Store.get ({} : Timer) · c) (h.frame.2 .timers (by decide))
  have hperiod : w.livePeriod c = s.livePeriod c := by rw [State.livePeriod, State.livePeriod, ht]
  have hcounting : w.counting c = s.counting c := by
    rw [State.counting, State.counting, State.slaveActive, State.slaveActive, hr .tmrState (by decide), hr .slaveMode (by decide),
      hr .slaveEdgeSel (by decide), h.fenced, ht]
  have hticks : w.ticks c = s.ticks c := by
    rw [State.ticks, State.ticks, State.clocks, State.clocks, State.clockStep, State.clockStep, hr .clkSrc (by decide), hr .prescN (by decide),
      hr .prescF (by decide), ht, show w.time = s.time from h.frame.2 .time (by decide)]
  rw [State.timerCount, State.timerCount, State.rawCount, State.rawCount, hcounting, hticks, hperiod, ht,
    show w.fresh = s.fresh from h.frame.2 .fresh (by decide)]

/-- What a head adds to the longest record of its stream. -/
theorem Taken.outPixels (h : Taken p s w) (h6 : p ≠ .p6) {k : Nat} (hk : k < 4) : w.outPixels k = s.outPixels k := by
  have hr := h.rds h6 [.pixels, .avg, .seamLRole, .seamLPix, .seamLPartner, .seamLOffset, .seamRRole, .seamRPix, .seamRPartner, .seamROffset] hk
    (by decide)
  simp only [State.outPixels, State.dropped, State.seamWide, State.seamOf, State.rdN, hr .pixels (by decide), hr .avg (by decide),
    hr .seamLRole (by decide), hr .seamLPix (by decide), hr .seamLPartner (by decide), hr .seamLOffset (by decide), hr .seamRRole (by decide),
    hr .seamRPix (by decide), hr .seamRPartner (by decide), hr .seamROffset (by decide)]

theorem Taken.recMax (h : Taken p s w) (h6 : p ≠ .p6) (k : Nat) : w.recMax k = s.recMax k := by
  have hhead {x : Nat} (hx : x ∈ List.range 4) := h.rds h6 [.headEn, .lineRoute, .tagEn] (List.mem_range.mp hx) (by decide)
  have hfilter : ((List.range 4).filter fun x => w.rdB .headEn x && w.rdN .lineRoute x = k)
      = (List.range 4).filter fun x => s.rdB .headEn x && s.rdN .lineRoute x = k := by
    refine List.filter_congr fun x hx => ?_
    simp only [State.rdB, State.rdN, hhead hx .headEn (by decide), hhead hx .lineRoute (by decide)]
  have hr := h.rds h6 [.collectStream, .collectRecMax] (c := 1) Nat.one_pos (by decide)
  simp only [State.recMax, hfilter, State.rdN, hr .collectStream (by decide), hr .collectRecMax (by decide)]
  rw [List.foldl_ext _ _ _ fun m x hx => ?_]
  have hx : x ∈ List.range 4 := (List.mem_filter.mp hx).1
  simp only [State.rdB, h.outPixels h6 (List.mem_range.mp hx), hhead hx .tagEn (by decide)]

theorem Taken.freeRecordsNow (h : Taken p s w) (h6 : p ≠ .p6) {k : Nat} (hk : k < 8) : w.freeRecordsNow k = s.freeRecordsNow k := by
  have hr := h.rdNs h6 [.streamState, .bufLog2, .wrPtr, .rdPtr, .stageBank] hk (by decide)
  have hst : w.stream k = s.stream k := congrArg (Store.get ({} : Stream) · k) (h.frame.2 .streams (by decide))
  have hroom : w.storeRoom k = s.storeRoom k := by rw [State.storeRoom, State.storeRoom, hr .stageBank (by decide), hst]
  have hused : w.unitsUsed k (s.rdN .rdPtr k) = s.unitsUsed k (s.rdN .rdPtr k) := by
    rw [State.unitsUsed, State.unitsUsed, State.ptrMod, State.ptrMod, hr .bufLog2 (by decide), hr .wrPtr (by decide)]
  have hunits : w.bufUnits k = s.bufUnits k := by rw [State.bufUnits, State.bufUnits, hr .bufLog2 (by decide)]
  rw [State.freeRecordsNow, State.freeRecordsNow, State.streamSt, State.streamSt, hr .streamState (by decide), hr .rdPtr (by decide), hused, hunits,
    hroom, h.recMax h6]

theorem Taken.railStatusOf (h : Taken p s w) (h6 : p ≠ .p6) (r : Nat) : w.railStatusOf r = s.railStatusOf r := by
  have hr := h.rds h6 [.dirtyMask] (c := 1) Nat.one_pos (by decide)
  have hx : w.rail r = s.rail r := congrArg (Store.get ({} : Rail) · r) (h.frame.2 .rails (by decide))
  simp only [State.railStatusOf, State.rdN, hr .dirtyMask (by decide), hx]

/-! ### What a path reads -/

/-- The entries that show what the taking of a record itself changes. -/
def takenNames : List Name := [.lastHostSeq, .deviceSeq, .parPending, .qspiPending, .parErr, .qspiErr, .cmdHead]

/-- The highest sub-index lies at sub-index 0, where no entry that the taking changes does. -/
theorem Taken.rd_highestSub (h : Taken p s w) (j : Nat) : w.rd .highestSub j 0 = s.rd .highestSub j 0 := by
  refine h.frame.1 .highestSub j 0 fun hk => ?_
  simp only [takenKeys, List.mem_cons, List.not_mem_nil, or_false, keyOf, indexOf, subOf, rowOf] at hk
  have hp : p.num < 7 := by cases p <;> decide
  omega

/-- A record's taking leaves what its path reads of any other entry, kept or computed. -/
theorem Taken.readEnt (h : Taken p s w) (h6 : p ≠ .p6) {e : Ent} (he : e.Placed) (hn : e.name ∉ takenNames) (q : Path) :
    w.readEnt q e = s.readEnt q e := by
  obtain ⟨n, j, i⟩ := e
  obtain ⟨-, hj, hi⟩ := id he
  dsimp only at hj hi hn
  obtain ⟨x, hrep⟩ := h.rep
  have htime : w.time = s.time := h.frame.2 .time (by decide)
  have hmodes : w.modes = s.modes := h.frame.2 .modes (by decide)
  have hcal : w.calTime = s.calTime := h.frame.2 .calTime (by decide)
  have hisl : w.islands = s.islands := h.frame.2 .islands (by decide)
  have hdig : w.digests = s.digests := h.frame.2 .digests (by decide)
  have hret : w.retireds = s.retireds := h.frame.2 .retireds (by decide)
  have hunread : w.unreads = s.unreads := h.frame.2 .unreads (by decide)
  have hrail (r : Nat) : w.rail r = s.rail r := congrArg (Store.get ({} : Rail) · r) (h.frame.2 .rails (by decide))
  have hone := h.rdNs h6 [.bootRails, .lifeCycle] (c := 1) Nat.one_pos (by decide)
  have hrow (g : j < 12) := h.rds h6 [.onDelay, .pgTimeout, .railDischarge, .offTimeout, .goodTh, .offTh] g (by decide)
  unfold State.readEnt
  split
  · rfl
  · dsimp only
    split
    case h_18 => -- COB_ID_EMCY
      have hnode {x : Nat} (hx : x < 2) := h.rdNs h6 [.nodeIdNow] hx (by decide) .nodeIdNow (by decide)
      rw [hnode (by decide : 0 < 2), hnode (by decide : 1 < 2)]
    -- DEV, COUNT, ISRC_ACTUAL, RAIL_STATUS
    case h_19 => rw [h.devOf h6 hj]
    case h_20 | h_21 => rw [h.timerCount h6 hj]
    case h_22 => rw [State.rdN, h.rd h6 (n := .isrcUa) ⟨nofun, Nat.one_pos, hi⟩ (by decide)]
    case h_25 => rw [h.railStatusOf h6]
    -- the parameters of a rail
    case h_26 | h_27 | h_28 | h_29 | h_30 | h_31 =>
      rw [State.bootN, State.bootN, hone .bootRails (by decide), hrow hj _ (by decide)]
    -- TAMPER_EN, FREE_RECORDS, REC_MAX
    case h_32 => rw [hone .lifeCycle (by decide), h.rd h6 (n := .tamperEn) ⟨nofun, Nat.one_pos, Nat.one_pos⟩ (by decide)]
    case h_33 => rw [h.freeRecordsNow h6 hj]
    case h_34 => rw [h.recMax h6]
    -- PAR_PENDING and QSPI_PENDING are left out
    case h_35 | h_36 => exact absurd (by decide) hn
    case h_39 => -- the entries that are kept
      refine h.rd h6 he fun g => hn ?_
      simp only [List.mem_cons, List.not_mem_nil, or_false] at g
      rcases g with rfl | rfl <;> decide
    all_goals simp only [State.modeNow, State.calAge, State.island, State.digestNow, State.digest, State.retired, State.unread, hrep, htime,
      hmodes, hcal, hisl, hdig, hret, hrail, hunread]

theorem Taken.readEnt_lookup (h : Taken p s w) (h6 : p ≠ .p6) {idx sub : Nat} {e : Ent} (he : lookup idx sub = .ok e) (hn : e.name ∉ takenNames)
    (q : Path) : w.readEnt q e = s.readEnt q e := by
  by_cases hs : e.name = .highestSub
  · rw [lookup_highestSub he hs]
    exact h.rd_highestSub idx
  · exact h.readEnt h6 (lookup_placed he hs) hn q

end Sys2Proof.Machine
end

section
/-! SUPPORT. The opcodes that change no entry: how their records complete. -/
namespace Sys2Proof.Machine

open Prog

variable {p : Path} {s u w : State} {r : CmdRecord}

/-! ### NOP, JOURNAL_READ, and what is refused before the checks -/

theorem completesFrom_gap (h : r.hostSeq.toNat ≠ u.nextHostSeq p) (src : Nat) :
    CompletesFrom p src r .seqGap (leBytes 2 (u.nextHostSeq p)) u (recordBegun p r u) := ⟨_, _, _, _, execRecord_gap h src⟩

/-- A record with the next host sequence completes as its opcode does. -/
theorem completesFrom_next (h : r.hostSeq.toNat = u.nextHostSeq p) {src : Nat} {st : Status} {data : List Byte}
    {unit epoch isl : Nat} {at' : Nat × Nat}
    (hr : (runOpcode p src r).run (recordTaken p r u) = (complete p src r st unit epoch isl data at').run (recordTaken p r u)) :
    CompletesFrom p src r st data u (recordTaken p r u) := ⟨unit, epoch, isl, at', by rw [execRecord_next h, hr]⟩

theorem runOpcode_nop (ho : r.opcode = 0) (hl : r.length = 0) (hc : r.conditional = false) (hb : r.bankRef = false) (src : Nat) :
    runOpcode p src r = completeBare p src r .ok [] r.sub.toNat := by
  have hlen : r.lengthStatus = .ok := by simp [CmdRecord.lengthStatus, ho, hl, need]
  have hop : r.opcodeStatus = .ok := by simp [CmdRecord.opcodeStatus, ho, hc, hb, need]
  simp [runOpcode, hop, ho, runNop, hlen]

theorem runOpcode_bad (ho : 6 ≤ r.opcode.toNat) (src : Nat) : runOpcode p src r = completeBare p src r .badOpcode [] r.sub.toNat := by
  have hop : r.opcodeStatus = .badOpcode := by
    unfold CmdRecord.opcodeStatus
    split
    case h_7 => rfl
    all_goals omega
  simp [runOpcode, hop]

/-- The data of the answer to a JOURNAL_READ. -/
def journalData : Option JEntry → List Byte
  | some e => e.bytes
  | none => []

theorem runOpcode_journalRead (ho : r.opcode = 5) (hl : r.length = 4) (hc : r.conditional = false) (hb : r.bankRef = false) (src : Nat) (w : State) :
    (runOpcode p src r).run w = (completeBare p src r (journalFind w (u32 (r.dataAt 0 4))).1
      (journalData (journalFind w (u32 (r.dataAt 0 4))).2) r.sub.toNat).run w := by
  have hlen : r.lengthStatus = .ok := by simp [CmdRecord.lengthStatus, ho, hl, need]
  have hop : r.opcodeStatus = .ok := by simp [CmdRecord.opcodeStatus, ho, hc, hb, need]
  have hrun : runOpcode p src r = runJournalRead p src r := by simp [runOpcode, hop, ho]
  rw [hrun, runJournalRead, run_ask, if_neg (not_not.mpr hlen)]
  rfl

theorem journalData_length (x : Option JEntry) : (journalData x).length ≤ 40 := by
  cases x <;> simp [journalData, JEntry.bytes]

theorem journalFind_taken (h : Taken p s w) (seq : U32) : journalFind w seq = journalFind s seq := by
  obtain ⟨x, hx⟩ := h.rep
  rw [journalFind, journalFind, hx]

/-- JOURNAL_READ answers OK or JOURNAL_LOST. -/
theorem journalFind_status (s : State) (seq : U32) : (journalFind s seq).1 = .ok ∨ (journalFind s seq).1 = .journalLost := by
  unfold journalFind
  dsimp only
  split
  · split
    · exact .inr rfl
    · exact .inl rfl
  · exact .inl rfl

/-! ### READ -/

/-- The entries of a record, as many as it names, each found at a sub-index. -/
theorem lookupRun_ok {idx sub n : Nat} {es : List Ent} (h : lookupRun p idx sub n = .ok es) :
    es.length = n ∧ ∀ e ∈ es, ∃ i, lookup idx i = .ok e := by
  induction n generalizing sub es with
  | zero =>
    cases h
    exact ⟨rfl, nofun⟩
  | succ n ih =>
    rw [lookupRun] at h
    split at h
    · exact nomatch h
    · next e he =>
      split at h
      · exact nomatch h
      · split at h
        · next l hl =>
          cases h
          obtain ⟨h1, h2⟩ := ih hl
          refine ⟨congrArg (· + 1) h1, List.forall_mem_cons.mpr ⟨⟨sub, ?_⟩, h2⟩⟩
          split at he
          · exact nomatch he
          · exact he
        · exact nomatch h

/-- A READ of permitted length names one to ten entries. -/
theorem read_count (ho : r.opcode = 1) (hl : r.lengthStatus = .ok) : 1 ≤ r.count ∧ r.count ≤ 10 := by
  have hn : 4 ≤ r.length.toNat ∧ r.length.toNat ≤ 40 := by
    simp only [CmdRecord.lengthStatus, ho] at hl
    split at hl
    · exact nomatch hl
    · simp [need] at hl
      omega
  rw [CmdRecord.count, if_pos hl]
  omega

theorem runOpcode_read (ho : r.opcode = 1) (hb : r.bankRef = false) (src : Nat) : runOpcode p src r = runRead p src r := by
  have hop : r.opcodeStatus = .ok := by simp [CmdRecord.opcodeStatus, ho, hb, need]
  simp [runOpcode, hop, ho]

theorem readEffect_nop {e : Ent} (h : e.name ∉ takenNames) : readEffect e = .nop := by
  unfold readEffect
  split
  · next g => exact absurd (g ▸ by decide) h
  · next g => exact absurd (g ▸ by decide) h
  · rfl

theorem run_each_nop {α : Type} {l : List α} {f : α → Prog} (h : ∀ a ∈ l, f a = .nop) (s : State) : (each l f).run s = s := by
  induction l with
  | nil => rfl
  | cons a l ih =>
    rw [each_cons, run_seq, h a List.mem_cons_self]
    exact ih fun b hb => h b (List.mem_cons_of_mem _ hb)

section
variable {e : Ent} {es : List Ent} (hl : lookupRun p r.index.toNat r.sub.toNat r.count = .ok (e :: es)) (hs : r.lengthStatus = .ok)
  (ha : ∀ x ∈ e :: es, w.absent x = false)
include hl hs ha

/-- A READ whose condition holds answers the present values. -/
theorem runRead_values (hr : readStale w r.exp (e :: es) = none) (hn : ∀ x ∈ e :: es, x.name ∉ takenNames) (src : Nat) :
    (runRead p src r).run w = (complete p src r .ok (e.unit.getD 0) (w.shownEpoch (e.unit.getD 0) false) e.stampIsland
      ((e :: es).flatMap fun x => leBytes 4 (w.readEnt p x).toNat) (e.index, e.sub)).run w := by
  have hv : ((e :: es).flatMap fun x => leBytes 4 (if (w.absent x && !isDomain x) = true then w.mirrored x else w.readEnt p x).toNat)
      = (e :: es).flatMap fun x => leBytes 4 (w.readEnt p x).toNat := by
    refine List.flatMap_congr fun x hx => ?_
    simp [ha x hx]
  simp only [runRead, run_ask, hl, hs, hr, ha e List.mem_cons_self, hv, ne_eq, not_true_eq_false, if_false, run_seq, Bool.false_eq_true,
    run_each_nop fun x hx => readEffect_nop (hn x hx)]

/-- A READ whose condition fails is refused. -/
theorem runRead_stale {at' : Ent} {st : Status} (hr : readStale w r.exp (e :: es) = some (st, at')) (src : Nat) :
    (runRead p src r).run w =
      (complete p src r st (e.unit.getD 0) (w.shownEpoch (e.unit.getD 0) false) e.stampIsland [] (at'.index, at'.sub)).run w := by
  simp only [runRead, run_ask, hl, hs, hr, ha e List.mem_cons_self, ne_eq, not_true_eq_false, if_false, Bool.false_eq_true]

end

theorem readStale_unconditional (hc : r.conditional = false) (w : State) (es : List Ent) : readStale w r.exp es = none := by
  rw [CmdRecord.exp, hc]
  exact List.findSome?_eq_none_iff.mpr fun _ _ => rfl

/-- The epoch that the condition of a record compares. -/
theorem shownEpoch_present (w : State) (u : Nat) : w.shownEpoch u false = w.epochOf u := by
  by_cases hu : u = 0
  · rw [State.shownEpoch, State.epochOf, if_pos hu, if_pos hu]
  · rw [State.shownEpoch, if_neg hu, if_neg Bool.false_ne_true]

section
variable {es : List Ent} (hc : r.conditional = true) (ha : ∀ x ∈ es, w.absent x = false)
include hc ha

theorem readStale_fresh (h : ∀ e ∈ es, ∃ u, e.unit = some u ∧ w.epochOf u = r.expEpoch.toNat) : readStale w r.exp es = none := by
  rw [CmdRecord.exp, if_pos hc]
  refine List.findSome?_eq_none_iff.mpr fun e he => ?_
  obtain ⟨u, hu, hx⟩ := h e he
  simp only [hu, ha e he, shownEpoch_present, hx, if_true]

/-- The first entry whose unit has another epoch refuses the READ. -/
theorem readStale_stale (hu : ∀ e ∈ es, e.unit.isSome = true) (h : ∃ e ∈ es, ∃ u, e.unit = some u ∧ w.epochOf u ≠ r.expEpoch.toNat) :
    ∃ at', readStale w r.exp es = some (.epochStale, at') := by
  obtain ⟨e, he, u, hue, hne⟩ := h
  have hsome : (readStale w r.exp es).isSome = true := by
    rw [CmdRecord.exp, if_pos hc]
    refine List.findSome?_isSome_iff.mpr ⟨e, he, ?_⟩
    simp only [hue, ha e he, shownEpoch_present, if_neg hne, Option.isSome_some]
  obtain ⟨⟨st, at'⟩, hx⟩ := Option.isSome_iff_exists.mp hsome
  refine ⟨at', hx.trans ?_⟩
  rw [CmdRecord.exp, if_pos hc] at hx
  obtain ⟨f, hf, hfx⟩ := List.exists_of_findSome?_eq_some hx
  obtain ⟨v, hv⟩ := Option.isSome_iff_exists.mp (hu f hf)
  simp only [hv] at hfx
  split at hfx
  · exact nomatch hfx
  · cases hfx
    rfl

end

end Sys2Proof.Machine
end

section
/-! PROOF. Command records that change no entry complete (O50). -/
namespace Sys2Proof.Machine

open Prog

variable {c : Instr} {p : Path} {s : State} {r : CmdRecord}

/-! ### The rows of records -/

theorem withOpcode_self {k : Byte} (h : r.opcode = k) : { r with opcode := k } = r := by
  subst h
  rfl

theorem exec_nop (h : r.opcode = 0) (p : Path) (s : State) : exec (.nop p r) s = .next ((recordRow p r).run s) :=
  congrArg (fun x => Host.Outcome.next ((recordRow p x).run s)) (withOpcode_self h)

theorem exec_read (h : r.opcode = 1) (p : Path) (s : State) : exec (.read p r) s = .next ((recordRow p r).run s) :=
  congrArg (fun x => Host.Outcome.next ((recordRow p x).run s)) (withOpcode_self h)

theorem exec_write (h : r.opcode = 2) (p : Path) (s : State) : exec (.write p r) s = .next ((recordRow p r).run s) :=
  congrArg (fun x => Host.Outcome.next ((recordRow p x).run s)) (withOpcode_self h)

theorem exec_domainWrite (h : r.opcode = 3) (p : Path) (s : State) : exec (.domainWrite p r) s = .next ((recordRow p r).run s) :=
  congrArg (fun x => Host.Outcome.next ((recordRow p x).run s)) (withOpcode_self h)

theorem exec_journalRead (h : r.opcode = 5) (p : Path) (s : State) : exec (.journalRead p r) s = .next ((recordRow p r).run s) :=
  congrArg (fun x => Host.Outcome.next ((recordRow p x).run s)) (withOpcode_self h)

theorem exec_commandBadOpcode (h : 6 ≤ r.opcode.toNat) (p : Path) (s : State) : exec (.commandBadOpcode p r) s = .next ((recordRow p r).run s) :=
  congrArg (fun b => Host.Outcome.next ((when b (recordRow p r)).run s)) (decide_eq_true h)

theorem nextHostSeq_frame {u : State} (h : Frame [keyOf .cmdHead 0 0] [.ports, .ring] s u) (p : Path) : u.nextHostSeq p = s.nextHostSeq p := by
  have hk : keyOf .lastHostSeq 0 p.num ∉ [keyOf .cmdHead 0 0] := by cases p <;> decide
  rw [State.nextHostSeq, State.nextHostSeq, State.rdN, State.rdN, h.1 _ _ _ hk]

/-- A record with another host sequence than the next completes with SEQ_GAP (R137). -/
theorem gap_answers (h : ReadyFor s p) (hx : exec c s = .next ((recordRow p r).run s)) (hq : r.hostSeq.toNat ≠ s.nextHostSeq p) :
    Answers c s fun t => Completed s t p r .seqGap (leBytes 2 (s.nextHostSeq p)) ∧ t.rd .lastHostSeq 0 p.num = s.rd .lastHostSeq 0 p.num
      ∧ Frame (recordKeys p .seqGap) recordParts s t := by
  refine record_answers h hx (by simp) (by decide) fun src d u hu _ => ?_
  have hn := nextHostSeq_frame hu p
  have hk : keyOf .lastHostSeq 0 p.num ∉ [keyOf .cmdHead 0 0] := by cases p <;> decide
  exact ⟨_, recordBegun_taken hu { r with data := d }, hu.1 _ _ _ hk,
    hn ▸ completesFrom_gap (r := { r with data := d }) (fun g => hq (g.trans hn)) src⟩

/-- A record with the next host sequence completes as its opcode does, and LAST_HOST_SEQ has taken its host sequence. -/
theorem next_answers {st : Status} {data : List Byte} (h : ReadyFor s p) (hx : exec c s = .next ((recordRow p r).run s))
    (hq : r.hostSeq.toNat = s.nextHostSeq p) (hd : data.length ≤ 40) (hc : st.code < 256)
    (hr : ∀ src d w, Taken p s w → leNat (d.take 4) = leNat (r.data.take 4) → ∃ unit epoch isl at',
      (runOpcode p src { r with data := d }).run w = (complete p src { r with data := d } st unit epoch isl data at').run w) :
    Answers c s fun t => Completed s t p r st data ∧ t.rdN .lastHostSeq 0 p.num = s.nextHostSeq p ∧ Frame (recordKeys p st) recordParts s t := by
  obtain ⟨t, ht, hdone, hv, hf⟩ := record_answers (v := u32 (s.nextHostSeq p)) h hx hd hc fun src d u hu hdata => by
    have hn := nextHostSeq_frame hu p
    have hw := recordTaken_taken (p := p) hu { r with data := d }
    obtain ⟨unit, epoch, isl, at', hrun⟩ := hr src d _ hw hdata
    exact ⟨_, hw, by rw [recordTaken_hostSeq, hn], completesFrom_next (r := { r with data := d }) (hq.trans hn.symm) hrun⟩
  refine ⟨t, ht, hdone, ?_, hf⟩
  have hlt : s.nextHostSeq p < 65536 := Nat.mod_lt _ (by decide)
  rw [State.rdN, hv, toNat_u32 (by omega)]

/-! ### NOP, JOURNAL_READ and opcodes above the table's -/

section
variable (h : ReadyFor s p) (hq : r.hostSeq.toNat = s.nextHostSeq p)
include h hq

theorem nop_answers (ho : r.opcode = 0) (hl : r.length = 0) (hc : r.conditional = false) (hb : r.bankRef = false) :
    Answers (.nop p r) s fun t => Completed s t p r .ok [] ∧ t.rdN .lastHostSeq 0 p.num = s.nextHostSeq p
      ∧ Frame (recordKeys p .ok) recordParts s t :=
  next_answers h (exec_nop ho p s) hq (Nat.zero_le _) (by decide) fun src d w _ _ =>
    ⟨_, _, _, _, congrArg (Prog.run · w) (runOpcode_nop (r := { r with data := d }) ho hl hc hb src)⟩

theorem badOpcode_answers (ho : 6 ≤ r.opcode.toNat) :
    Answers (.commandBadOpcode p r) s fun t => Completed s t p r .badOpcode [] ∧ t.rdN .lastHostSeq 0 p.num = s.nextHostSeq p
      ∧ Frame (recordKeys p .badOpcode) recordParts s t :=
  next_answers h (exec_commandBadOpcode ho p s) hq (Nat.zero_le _) (by decide) fun src d w _ _ =>
    ⟨_, _, _, _, congrArg (Prog.run · w) (runOpcode_bad (r := { r with data := d }) ho src)⟩

theorem journalRead_answers (ho : r.opcode = 5) (hl : r.length = 4) (hc : r.conditional = false) (hb : r.bankRef = false) :
    let x := journalFind s (u32 (r.dataAt 0 4))
    Answers (.journalRead p r) s fun t => Completed s t p r x.1 (journalData x.2) ∧ t.rdN .lastHostSeq 0 p.num = s.nextHostSeq p
      ∧ Frame (recordKeys p x.1) recordParts s t := by
  have hcode : (journalFind s (u32 (r.dataAt 0 4))).1.code < 256 := by
    rcases journalFind_status s (u32 (r.dataAt 0 4)) with hst | hst <;> rw [hst] <;> decide
  refine next_answers h (exec_journalRead ho p s) hq (journalData_length _) hcode fun src d w hw hd => ?_
  have hseq : CmdRecord.dataAt { r with data := d } 0 4 = r.dataAt 0 4 := hd
  rw [runOpcode_journalRead (r := { r with data := d }) ho hl hc hb, hseq, journalFind_taken hw]
  exact ⟨_, _, _, _, rfl⟩

end

/-! ### READ -/

theorem ReadyFor.ne_p6 (h : ReadyFor s p) : p ≠ .p6 := by
  obtain ⟨-, -, -, -, h6, -⟩ := h
  exact h6

/-- The epochs that a READ compares are those before the record was taken. -/
theorem Taken.epochOf_named {w : State} (hw : Taken p s w) (h6 : p ≠ .p6) {es : List Ent} {idx sub n u : Nat}
    (hl : lookupRun p idx sub n = .ok es) {e : Ent} (he : e ∈ es) (hu : e.unit = some u) : w.epochOf u = s.epochOf u := by
  obtain ⟨i, hi⟩ := (lookupRun_ok hl).2 e he
  exact hw.epochOf h6 (unit_le_of_lookup hi hu)

theorem Taken.absent {w : State} (hw : Taken p s w) {es : List Ent} (hf : ∀ e ∈ es, ∀ i, e.holder = some i → s.fenced i = false) :
    ∀ e ∈ es, w.absent e = false := fun e he => by
  unfold State.absent
  split
  · next i hi => rw [hw.fenced, hf e he i hi]
  · rfl

section
variable {es : List Ent} (h : ReadyFor s p) (hq : r.hostSeq.toNat = s.nextHostSeq p) (ho : r.opcode = 1) (hb : r.bankRef = false)
  (hs : r.lengthStatus = .ok) (hl : lookupRun p r.index.toNat r.sub.toNat r.count = .ok es)
  (hf : ∀ e ∈ es, ∀ i, e.holder = some i → s.fenced i = false)
include h hq ho hb hs hl hf

/-- A READ whose condition holds in every state in which it is taken completes with the values. -/
theorem read_answers (hn : ∀ e ∈ es, e.name ∉ takenNames) (hr : ∀ w, Taken p s w → readStale w r.exp es = none) :
    Answers (.read p r) s fun t => Completed s t p r .ok (es.flatMap fun e => leBytes 4 (s.readEnt p e).toNat)
      ∧ t.rdN .lastHostSeq 0 p.num = s.nextHostSeq p ∧ Frame (recordKeys p .ok) recordParts s t := by
  obtain ⟨hlen, hfound⟩ := lookupRun_ok hl
  obtain ⟨hmin, hmax⟩ := read_count ho hs
  have hlength : (es.flatMap fun e => leBytes 4 (s.readEnt p e).toNat).length ≤ 40 := by
    simp only [List.length_flatMap, leBytes_length, List.map_const', List.sum_replicate, hlen, smul_eq_mul]
    omega
  refine next_answers h (exec_read ho p s) hq hlength (by decide) fun src d w hw _ => ?_
  have hvalues : (es.flatMap fun e => leBytes 4 (w.readEnt p e).toNat) = es.flatMap fun e => leBytes 4 (s.readEnt p e).toNat := by
    refine List.flatMap_congr fun e he => ?_
    obtain ⟨i, hi⟩ := hfound e he
    rw [hw.readEnt_lookup h.ne_p6 hi (hn e he)]
  rw [runOpcode_read (r := { r with data := d }) ho hb, ← hvalues]
  obtain ⟨e, es, rfl⟩ := List.exists_cons_of_ne_nil (List.ne_nil_of_length_pos (hlen ▸ hmin))
  exact ⟨_, _, _, _, runRead_values (r := { r with data := d }) hl hs (hw.absent hf) (hr w hw) hn src⟩

/-- A READ whose condition fails for some entry completes with EPOCH_STALE. -/
theorem stale_answers (hr : ∀ w, Taken p s w → ∃ at', readStale w r.exp es = some (.epochStale, at')) :
    Answers (.read p r) s fun t => Completed s t p r .epochStale []
      ∧ t.rdN .lastHostSeq 0 p.num = s.nextHostSeq p ∧ Frame (recordKeys p .epochStale) recordParts s t := by
  refine next_answers h (exec_read ho p s) hq (by simp) (by decide) fun src d w hw _ => ?_
  obtain ⟨at', hat⟩ := hr w hw
  obtain ⟨hlen, -⟩ := lookupRun_ok hl
  obtain ⟨hmin, -⟩ := read_count ho hs
  obtain ⟨e, es, rfl⟩ := List.exists_cons_of_ne_nil (List.ne_nil_of_length_pos (hlen ▸ hmin))
  rw [runOpcode_read (r := { r with data := d }) ho hb]
  exact ⟨_, _, _, _, runRead_stale (r := { r with data := d }) hl hs (hw.absent hf) hat src⟩

end

/-! ### The frames of the statement -/

/-- The entries that a record which completes without a refusal can change. -/
def plainKeys (p : Path) : List Nat :=
  [keyOf .lastHostSeq 0 p.num, keyOf .cmdHead 0 0, keyOf .cplHead 0 0, keyOf .ringState 0 0] ++ if p = .p5 then replayKeys else []

/-- Those, and what a refusal changes. -/
def refusedKeys (p : Path) : List Nat :=
  [keyOf .lastHostSeq 0 p.num, keyOf .lastStatus 0 p.num, keyOf .parErr 0 0, keyOf .qspiErr 0 0, keyOf .cmdHead 0 0, keyOf .cplHead 0 0,
    keyOf .ringState 0 0] ++ if p = .p5 then replayKeys else []

theorem recordKeys_plain {st : Status} (h : st = .ok ∨ st = .journalLost) : ∀ k ∈ recordKeys p st, k ∈ plainKeys p := by
  intro k hk
  simp only [recordKeys, takenKeys, completionKeys, deliveryKeys, if_pos h, List.mem_append, List.mem_cons, List.not_mem_nil, or_false] at hk
  simp only [plainKeys, List.mem_append, List.mem_cons, List.not_mem_nil, or_false]
  tauto

theorem recordKeys_refused (p : Path) (st : Status) : ∀ k ∈ recordKeys p st, k ∈ refusedKeys p := by
  intro k hk
  have hst : k ∈ (if st = .ok ∨ st = .journalLost then [] else refusalKeys p) → k ∈ refusalKeys p := by
    split
    · exact nofun
    · exact id
  simp only [recordKeys, takenKeys, completionKeys, deliveryKeys, List.mem_append, List.mem_cons, List.not_mem_nil, or_false] at hk
  simp only [refusalKeys, List.mem_cons, List.not_mem_nil, or_false] at hst
  simp only [refusedKeys, List.mem_append, List.mem_cons, List.not_mem_nil, or_false]
  tauto

theorem Answers.plain {st : Status} {P : State → Prop} {v : Nat}
    (h : Answers c s fun t => P t ∧ t.rdN .lastHostSeq 0 p.num = v ∧ Frame (recordKeys p st) recordParts s t)
    (hst : st = .ok ∨ st = .journalLost) :
    Answers c s fun t => P t ∧ t.rdN .lastHostSeq 0 p.num = v ∧ Frame (plainKeys p) recordParts s t := by
  obtain ⟨t, ht, hP, hv, hf⟩ := h
  exact ⟨t, ht, hP, hv, hf.mono (recordKeys_plain hst) fun _ hx => hx⟩

theorem Answers.refused {st : Status} {P Q : State → Prop} (h : Answers c s fun t => P t ∧ Q t ∧ Frame (recordKeys p st) recordParts s t) :
    Answers c s fun t => P t ∧ Q t ∧ Frame (refusedKeys p) recordParts s t := by
  obtain ⟨t, ht, hP, hQ, hf⟩ := h
  exact ⟨t, ht, hP, hQ, hf.mono (recordKeys_refused p st) fun _ hx => hx⟩

end Sys2Proof.Machine

namespace Sys2Proof.Proofs

open Sys2Proof.Machine

/-- Settles O50: a record executes at once, its opcode completes it from the state in which it was taken, and that state reads like the
one before. -/
theorem recordsComplete : Obligations.RecordsComplete := by
  intro p s r h
  refine ⟨fun hq => ⟨fun ho => ?_, fun ho => ?_, fun ho => ?_⟩, fun hq => ⟨fun ho hl hc hb => ?_, fun ho => ?_, fun ho hl hc hb => ?_,
    fun es ho hb hs hl hf hn => ⟨fun hc => ?_, fun hc hu => ⟨fun he => ?_, fun he => ?_⟩⟩⟩⟩
  · exact (gap_answers h (exec_nop ho p s) hq).refused
  · exact (gap_answers h (exec_write ho p s) hq).refused
  · exact (gap_answers h (exec_domainWrite ho p s) hq).refused
  · exact (nop_answers h hq ho hl hc hb).plain (.inl rfl)
  · exact (badOpcode_answers h hq ho).refused
  · obtain ⟨t, ht, hdone, hv, hf⟩ := (journalRead_answers h hq ho hl hc hb).plain (journalFind_status ..)
    exact ⟨t, ht, fun e he => by rwa [he] at hdone, fun he => by rwa [he] at hdone, hv, hf⟩
  · exact (read_answers h hq ho hb hs hl hf hn fun w _ => readStale_unconditional hc w es).plain (.inl rfl)
  · refine (read_answers h hq ho hb hs hl hf hn fun w hw => readStale_fresh hc (hw.absent hf) fun e hm => ?_).plain (.inl rfl)
    obtain ⟨u, hue⟩ := Option.isSome_iff_exists.mp (hu e hm)
    exact ⟨u, hue, (hw.epochOf_named h.ne_p6 hl hm hue).trans (he e hm u hue)⟩
  · refine (stale_answers h hq ho hb hs hl hf fun w hw => readStale_stale hc (hw.absent hf) hu ?_).refused
    obtain ⟨e, hm, u, hue, hne⟩ := he
    exact ⟨e, hm, u, hue, fun g => hne ((hw.epochOf_named h.ne_p6 hl hm hue).symm.trans g)⟩

end Sys2Proof.Proofs
end

section
/-! SUPPORT. The fence logic: the record of one island, the write of FENCE_REQ, and an automatic fence. -/
namespace Sys2Proof.Machine

-- One proof at a time: a thread for each would need more memory than a check has.
set_option Elab.async false

open Prog

/-! ### The record of an island -/

theorem Frame.island {W : List Nat} {L : List Part} {s t : State} (h : Frame W L s t) (hL : .islands ∉ L) (k : Nat) : t.island k = s.island k :=
  congrArg (Store.get ({} : Island) · k) (h.2 .islands hL)

/-- The record of island `i` is `x`, those of the others are as before, and of the rest only entries in `W` and parts in `L` may differ. -/
structure FenceSet (i : Nat) (x : Island) (W : List Nat) (L : List Part) (s t : State) : Prop where
  own : t.island i = x
  other : ∀ k, k ≠ i → t.island k = s.island k
  frame : Frame W (.islands :: L) s t

theorem FenceSet.of_modIsland {i : Nat} {x : Island} {f : Island → Island} {W : List Nat} {L : List Part} {s : State} (h : f (s.island i) = x) :
    FenceSet i x W L s ((modIsland i f).run s) where
  own := by rw [run_modIsland, State.island_apply, if_pos rfl, h]
  other k hk := by rw [run_modIsland, State.island_apply, if_neg hk]
  frame := Op.within_frame (o := .island ..) s (by simp [Op.within, Op.touches])

variable {i : Nat} {x y : Island} {W W' : List Nat} {L L' : List Part} {s t u : State}

theorem FenceSet.of_frame (h : Frame W L s t) (hL : .islands ∉ L) : FenceSet i (s.island i) W L s t :=
  ⟨h.island hL i, fun k _ => h.island hL k, h.mono (fun _ h => h) fun _ h => .tail _ h⟩

theorem FenceSet.trans (h : FenceSet i x W L s t) (g : FenceSet i y W L t u) : FenceSet i y W L s u :=
  ⟨g.own, fun k hk => (g.other k hk).trans (h.other k hk), h.frame.trans g.frame⟩

theorem FenceSet.mono (h : FenceSet i x W L s t) (hW : ∀ k ∈ W, k ∈ W') (hL : ∀ p ∈ L, p ∈ L') : FenceSet i x W' L' s t :=
  ⟨h.own, h.other, h.frame.mono hW (List.cons_subset_cons _ hL)⟩

/-! ### The value of FENCE_REQ -/

/-- FENCE_REQ is an entry of no unit, and none of those of R48: its write is the value and the journal entry. -/
theorem commit_fenceReq_run (c : Ctx) (i : Nat) (v : U32) (s : State) : (commit c .fenceReq 0 i v).run s =
    (journalWrite c { name := .fenceReq, item := i } 0 2 v).run ((Op.put .fenceReq 0 i v).apply s) := by
  have hu : Ent.unit { name := .fenceReq, item := i } = none := by simp [Ent.unit, unitAt, rowOf]
  have hi (u : State) : (invalidateIf (Ent.index { name := .fenceReq, item := i })).run u = u := rfl
  simp only [commit, hu, all_cons, all_nil, run_seq, run_nop, run_wri, Option.getD_none, hi, masked_full (n := .fenceReq) rfl]

theorem commit_fenceReq (c : Ctx) (i : Nat) (v : U32) (s : State) :
    ((commit c .fenceReq 0 i v).run s).rd .fenceReq 0 i = v ∧ Frame [keyOf .fenceReq 0 i] reporting s ((commit c .fenceReq 0 i v).run s) := by
  rw [commit_fenceReq_run]
  have hj := journalWrite_frame c { name := .fenceReq, item := i } 0 2 v ((Op.put .fenceReq 0 i v).apply s)
  exact ⟨by rw [hj.1 _ _ _ List.not_mem_nil, State.rd_put], (put_frame (.head _) _ s).trans (hj.mono (by simp) fun _ h => h)⟩

/-- The X9 writes FENCE_REQ where it reads otherwise. -/
theorem p6Fence_writes (i : Nat) (s : State) :
    ((p6Fence i 1).run s).rd .fenceReq 0 i = 1 ∧ Frame [keyOf .fenceReq 0 i] reporting s ((p6Fence i 1).run s) := by
  simp only [p6Fence, run_ask, run_when, decide_eq_true_eq]
  split
  · exact commit_fenceReq ..
  · next h => exact ⟨BitVec.eq_of_toNat_eq (not_not.mp h), Frame.refl ..⟩

/-- Beside its value, a write of FENCE_REQ asks the fence logic and does nothing else. -/
theorem fenceReq_applies (p : Path) (i : Nat) {w : U32} {s : State} (h : w ≠ s.rd .fenceReq 0 i) :
    (applyWrite { path := p, ents := [({ name := .fenceReq, item := i }, w)] }).run s =
      (fenceRequest i w.toNat).run ((commit { path := p } .fenceReq 0 i w).run s) := by
  have hb : (streamBefore .fenceReq 0).run ((timerBefore .fenceReq 0).run s) = s := rfl
  have ht : (takeValue { path := p } { name := .fenceReq, item := i } w).run s = (commit { path := p } .fenceReq 0 i w).run s := rfl
  rw [applyWrite_plain p _ w s rfl (by simp), hb, ht]
  simp [writeEffect, headEffect, feEffect, motionEffect, lightEffect, heathEntEffect, timerEffect, safeEffect, streamEffect, hostEffect,
    netEffect, linkEffect, powerEffect, h, masked_full (n := .fenceReq) rfl]

/-- A write of another value to FENCE_REQ that passes leaves the value, and the record of its island as the fence logic has moved it. -/
theorem fenceReq_answers {c : Instr} {p : Path} {i : Fin 15} {w : U32} {f : Island → Island} {s : State} {P : State → Prop}
    (hx : exec c s = .next ((writeRow p { name := .fenceReq, item := i } w).run s)) (h : Takes s p { name := .fenceReq, item := i } w)
    (hne : s.rd .fenceReq 0 i ≠ w) (hf : fenceRequest i w.toNat = modIsland i f)
    (hP : ∀ t : State, t.rd .fenceReq 0 i = w → FenceSet i (f (s.island i)) [keyOf .fenceReq 0 i] reporting s t → P t) : Answers c s P := by
  have hrun := fenceReq_applies p i (Ne.symm hne)
  have hans := writeRow_answers (P := P) (W := [keyOf .fenceReq 0 i]) (L := .islands :: reporting) hx h (by simp) (by simp)
  rw [hrun, hf] at hans
  obtain ⟨hv, hfr⟩ := commit_fenceReq { path := p } i w s
  generalize (commit { path := p } .fenceReq 0 i w).run s = u at hans hv hfr
  have hset := (FenceSet.of_frame hfr (by decide)).trans (FenceSet.of_modIsland (f := f) (congrArg f (hfr.island (by decide) i)))
  exact hans hset.frame (by decide) (hP _ hv hset)

/-! ### Automatic fences -/

/-- An automatic fence of an island in service leaves FENCE_REQ at 1, and the fence on its way. -/
theorem autoFence_sets (h : (s.island i).st = .running) (hc : (s.island i).coming = none) (cause sender : Nat) :
    ((autoFence i cause sender).run s).rd .fenceReq 0 i = 1
      ∧ FenceSet i { s.island i with coming := some (cause, sender), readmit := false } [keyOf .fenceReq 0 i] reporting s
        ((autoFence i cause sender).run s) := by
  obtain ⟨hv, hfr⟩ := p6Fence_writes i s
  refine ⟨hv, (FenceSet.of_frame hfr (by decide)).trans ?_⟩
  rw [autoFence, run_seq]
  exact .of_modIsland (by simp only [hfr.island (by decide), h, hc])

/-! ### The request that was not acknowledged -/

/-- The state in which island `i` counts as fenced. -/
def State.without (i : Nat) (s : State) : State := (modIsland i fun x => { x with st := .fenced }).run s

/-- A program that runs while island `i` counts as fenced. -/
def whileFenced (i : Nat) (st : FenceState) (p : Prog) : Prog :=
  .seq (modIsland i fun x => { x with st := .fenced }) (.seq p (modIsland i fun x => { x with st := st }))

theorem without_sets (i : Nat) (s : State) : FenceSet i { s.island i with st := .fenced } W L s (s.without i) := .of_modIsland rfl

/-- The island has its own state again, and whatever else the program did stands. -/
theorem whileFenced_sets {p : Prog} (h : Frame W L (s.without i) (p.run (s.without i))) (hL : .islands ∉ L) :
    FenceSet i (s.island i) W L s ((whileFenced i (s.island i).st p).run s) ∧
      ∀ n j k, ((whileFenced i (s.island i).st p).run s).rd n j k = (p.run (s.without i)).rd n j k := by
  refine ⟨((without_sets i s).trans (.of_frame h hL)).trans ?_, fun _ _ _ => rfl⟩
  refine FenceSet.of_modIsland (f := fun x => { x with st := (s.island i).st }) ?_
  rw [h.island hL, (without_sets (W := W) (L := L) i s).own]

/-- A request that is not acknowledged is answered while its receiver counts as fenced, and then the receiver is fenced. -/
theorem handshakeTimeout_run {x i : Fin 15} {q : CrossReq} (hl : s.live = true) (hq : q ≠ .other) :
    ∃ p : Prog, exec (.handshakeTimeout x i q) s = .next ((settled p).run s)
      ∧ p.run s = (autoFence i 3 x).run ((whileFenced i (s.island i).st (answerAbsent q)).run s) := by
  refine ⟨all [ modIsland i fun x => { x with st := .fenced }, answerAbsent q, modIsland i fun x => { x with st := (s.island i).st },
    autoFence i 3 x ], ?_, rfl⟩
  simp only [exec, execHandshakeTimeout, done_eq, Prog.live, run_ask, run_when, hl, if_true, hq, if_false]

/-- The checks up to the claim say nothing of the fences: a write that passes them is refused with UNIT_ABSENT while its island is fenced. -/
theorem verdict_absent {p : Path} {e : Ent} {v : U32} (hw : stepWindow p e = .ok) (ha : stepAccess e = .ok) (hl : stepLevel s p e = .ok)
    (hc : stepClaim s p e v = .ok) (hf : e.Absent s) : (verdict s { path := p, ents := [(e, v)] }).st = .unitAbsent := by
  have hfe : stepFenceOf s e = .unitAbsent := by
    rw [stepFenceOf, (stepFence_iff s e).1 hf]
    split
    · rfl
    · rfl
  rw [verdict_one_st rfl]
  simp [hostChecks, firstBad_cons, hw, ha, hl, hc, hfe]

/-- The unanswered write of an entry of a fenced island is refused as any other is. -/
theorem answerAbsent_write {p : Path} {idx : BitVec 16} {sub : Byte} {v : U32} {e : Ent} (hu : pathUp s p = true)
    (he : lookup idx.toNat sub.toNat = .ok e) (hp : notForPath p e = false)
    (hv : (verdict s { path := p, ents := [(e, v)] }).st = .unitAbsent) :
    (answerAbsent (.write p idx sub v)).run s = (refuse p .unitAbsent e.index e.sub).run s := by
  simp only [answerAbsent, run_ask, run_when, hu, if_true]
  exact writeAt_refused he hp hv (by decide)

theorem pathUp_congr {p : Path} (h : t.island islHost = s.island islHost) : pathUp t p = pathUp s p := by
  rw [pathUp, pathUp, State.fenced, State.fenced, h]

theorem lastStatus_ne_fenceReq (p : Path) (i : Fin 15) : keyOf .lastStatus 0 p.num ≠ keyOf .fenceReq 0 i := by
  have hp : p.num < 7 := by cases p <;> decide
  simp only [keyOf, indexOf, subOf, rowOf]
  omega

end Sys2Proof.Machine
end

section
/-! PROOF. O18: what a fence, an automatic fence and a readmission request start. -/
namespace Sys2Proof.Proofs

-- One proof at a time: a thread for each would need more memory than a check has.
set_option Elab.async false

open Sys2Proof.Machine Prog

/-- A command that fences an island in service by itself answers with the fence on its way. -/
theorem autoFence_answers {c : Instr} {i : Fin 15} {s : State} {cause sender : Nat} (hx : exec c s = .next ((autoFence i cause sender).run s))
    (hr : (s.island i).st = .running) (hc : (s.island i).coming = none) :
    Answers c s fun t => t.rd .fenceReq 0 i = 1 ∧ (t.island i).coming = some (cause, sender)
      ∧ (∀ k, k ≠ i.val → t.island k = s.island k) ∧ Frame [keyOf .fenceReq 0 i] (.islands :: reporting) s t := by
  obtain ⟨hv, hset⟩ := autoFence_sets hr hc cause sender
  exact ⟨_, hx, hv, congrArg Island.coming hset.own, hset.other, hset.frame⟩

/-- The write that an island in service did not acknowledge is refused with UNIT_ABSENT, and the island is fenced. -/
theorem handshakeTimeout_write {x i : Fin 15} {p : Path} {idx : BitVec 16} {sub : Byte} {v : U32} {e : Ent} {s : State} (hl : s.live = true)
    (hn : NoHeld s) (hi : i.val ≠ islHost) (hr : (s.island i).st = .running) (hc : (s.island i).coming = none) (hu : pathUp s p = true)
    (he : lookup idx.toNat sub.toNat = .ok e) (hp : notForPath p e = false) (hw : stepWindow p e = .ok) (ha : stepAccess e = .ok)
    (hv : stepLevel s p e = .ok) (hcl : stepClaim s p e v = .ok) (hh : e.holder = some i.val) :
    Answers (.handshakeTimeout x i (.write p idx sub v)) s fun t => t.rd .fenceReq 0 i = 1 ∧ (t.island i).coming = some (3, x.val)
      ∧ t.rd .lastStatus 0 p.num = u32 (Status.unitAbsent.code * 0x1000000 + e.index * 0x100 + e.sub)
      ∧ (∀ k, k ≠ i.val → t.island k = s.island k)
      ∧ Frame [keyOf .fenceReq 0 i, keyOf .lastStatus 0 p.num, keyOf .parErr 0 0, keyOf .qspiErr 0 0]
        (.islands :: .ports :: reporting) s t := by
  have h1 : FenceSet i { s.island i with st := .fenced } [] [] s (s.without i) := without_sets i s
  have hans := answerAbsent_write ((pathUp_congr (h1.other _ (Ne.symm hi))).trans hu) he hp
    (verdict_absent (v := v) hw ha hv hcl ⟨i, hh, by simp [State.fenced, h1.own]⟩)
  obtain ⟨hst, hfr⟩ := refuse_leaves p .unitAbsent e.index e.sub (s.without i)
  rw [← hans] at hst hfr
  obtain ⟨h2, hrd⟩ := whileFenced_sets hfr (by decide)
  obtain ⟨hv, h3⟩ := autoFence_sets (h2.own.symm ▸ hr) (h2.own.symm ▸ hc) 3 x
  have hall := (h2.mono (W' := [keyOf .fenceReq 0 i, keyOf .lastStatus 0 p.num, keyOf .parErr 0 0, keyOf .qspiErr 0 0]) (L' := .ports :: reporting)
    (by simp [refusalKeys]) (by simp)).trans (h3.mono (by simp) fun _ h => .tail _ h)
  obtain ⟨q, hx, hq⟩ := handshakeTimeout_run (x := x) (i := i) (q := .write p idx sub v) hl nofun
  have hst := (h3.frame.1 _ _ _ (by simpa using lastStatus_ne_fenceReq p i)).trans ((hrd ..).trans hst)
  rw [← hq] at hv hall hst
  refine ⟨q.run s, ?_, hv, congrArg Island.coming hall.own, hst, hall.other, hall.frame⟩
  rw [hx, settled_run_frame hn hall.frame (by decide)]

/-- Settles O18: a write of FENCE_REQ is its value and a request to the fence logic, which moves the record of one island. -/
theorem fenceRequestsComplete : Obligations.FenceRequestsComplete := by
  refine ⟨fun p i s h hne hr hc => ?_, fun p i s h hne => ?_, fun i s hl hr hc => ?_, fun x i s hl hr hc => ?_,
    fun x i p idx sub v e s hl hn hi hr hc hu he hp hw ha hv hcl hh => handshakeTimeout_write hl hn hi hr hc hu he hp hw ha hv hcl hh⟩
  · refine fenceReq_answers rfl h hne rfl fun t hv hset => ?_
    have hown := hset.own
    simp only [hr, hc, Option.isSome_none] at hown
    exact ⟨hv, congrArg Island.coming hown, congrArg Island.st hown, hset.other, hset.frame⟩
  · refine fenceReq_answers rfl h hne rfl fun t hv hset => ?_
    have hown := hset.own
    refine ⟨hv, fun hc hs => ?_, fun hc => ?_, hset.other, hset.frame⟩
    · simp [hc, hs] at hown
      exact congrArg Island.st hown
    · simp [Option.isSome_iff_ne_none.mpr hc] at hown
      exact ⟨by rw [hown], by rw [hown]⟩
  · exact autoFence_answers (by simp [exec, execIslandPllLost, Prog.live, hl]) hr hc
  · exact autoFence_answers (by simp [exec, execHandshakeTimeout, Prog.live, hl]) hr hc

end Sys2Proof.Proofs
end

section
/-! SUPPORT. What the islands do at a fence and at their readmission spares the entries that paths write: it moves no fence and no command
channel. -/
namespace Sys2Proof.Machine

-- One proof at a time: a thread for each would need more memory than a check has.
set_option Elab.async false

open Prog

section
variable {x : Ent} {v : U32} {y : Nat} (hw : x.name.writable = true)

/-! ### The fenced states of the islands -/

@[simp] theorem fenceLine_spares : Spares x v y fenceLine := by simp [fenceLine]

@[simp] theorem freeLost_spares (host : Bool) : Spares x v y (freeLost host) := fun _ => trivial

/-- NET's transfers are those of the two controllers. -/
theorem fenceNet_spares : Spares x v 2 fenceNet := by
  simp only [fenceNet, all_each, List.mem_range]
  exact fun k hk _ => hk.ne

@[simp] theorem fenceLight_spares : Spares x v y fenceLight := by simp [fenceLight]

@[simp] theorem fenceHeath_spares : Spares x v y fenceHeath := by simp [fenceHeath]

@[simp] theorem fenceHeathLight_spares : Spares x v y fenceHeathLight := by simp [fenceHeathLight, tempStale]

@[simp] theorem fenceTimer_spares : Spares x v y fenceTimer := by simp [fenceTimer, reanchor, anchorAt]

include hw

theorem absentLine_spares {h : Nat} (hh : h < 4) (pos : Bool) : Spares x v y (absentLine h pos) := by
  simp (disch := decide) [absentLine, lineResume, tempAtStart, nextNumber, wr_spares hw hh, wrN_spares hw hh]

theorem enterDone_spares {h : Nat} (hh : h < 4) : Spares x v y (enterDone h) := by simp [enterDone, disarm_spares hw hh]

theorem fenceHead_spares {h : Nat} (hh : h < 4) : Spares x v y (fenceHead h) := by
  simp only [fenceHead, all_ask, all_all, List.forall_mem_cons, all_ite, all_when, truncateLine_spares, disarm_spares hw hh,
    headTo_spares hw hh, enterDone_spares hw hh, settleLast_spares, modHead_spares, drivePhases_spares]
  refine fun s => ⟨trivial, ⟨fun _ => trivial, fun _ _ => ⟨trivial, ?_, by simp⟩⟩, by simp⟩
  split
  · exact absentLine_spares hw hh _
  · trivial

theorem fenceStore_spares : Spares x v y fenceStore := by
  simp only [fenceStore, all_ask]
  intro s
  split
  · exact abandonTest_spares hw _
  · trivial

theorem fenceLink_spares : Spares x v y fenceLink := by
  simp (disch := decide) [fenceLink, toRepeat, frame, wrN_spares hw Nat.one_pos]

/-- The outputs of an island go to their fenced states, and no fence moves. -/
theorem fenceActs_spares (i : Nat) : Spares x v 2 (fenceActs i) := by
  unfold fenceActs
  split
  · next h => exact fenceHead_spares hw h
  · split
    · exact fenceLine_spares
    · exact fenceStore_spares hw
    · exact freeLost_spares _
    · exact fenceNet_spares
    · exact ⟨fenceLink_spares hw, freeLost_spares _⟩
    · simp
    · exact fenceLight_spares
    · simp [inIsland]
    · exact fenceTimer_spares
    · trivial

/-! ### Readmission -/

theorem parkHead_spares {h : Nat} (hh : h < 4) : Spares x v y (parkHead h) := by
  simp [parkHead, abandonCal_spares hw hh, disarm_spares hw hh]

theorem readmitHead_spares {h : Nat} (hh : h < 4) : Spares x v y (readmitHead h) := by
  simp only [readmitHead, all_ask, all_seq, all_when, abandonCal_spares hw hh, disarm_spares hw hh, and_self, implies_true, true_and]
  intro s
  split
  · exact parkHead_spares hw hh
  · simp [arm_spares hw hh]
  · trivial
  · simp [abandonCal_spares hw hh, disarm_spares hw hh]

omit hw in
@[simp] theorem readmitLine_spares : Spares x v y readmitLine := by simp [readmitLine]

theorem readmitStore_spares (hx : x.name ≠ .owner) : Spares x v y readmitStore := by
  simp only [readmitStore, drainEnd, all_each, List.mem_range, all_ask, all_when]
  intro b hb s _
  have ho : Spares x v y (wr .owner b 255#32) := put_spares .owner (by simp) hb Nat.one_pos fun e => absurd e hx
  split <;> simp [bankTo_spares hw hb, bankLost, ho]

theorem readmitNet_spares : Spares x v y readmitNet := by
  simp only [readmitNet, all_each, List.mem_range, all_ask, all_when]
  exact fun k hk s _ => wrN_spares hw hk (by decide) (by decide) _

theorem readmitAxes_spares : Spares x v y readmitAxes := by
  simp only [readmitAxes, all_each, List.mem_range, all_ask]
  intro a ha s
  simp (disch := decide) [restPlan, wr_spares hw ha, axisTo_spares hw ha, axisStatusTo_spares hw ha]

theorem parkAxes_spares : Spares x v y parkAxes := by
  refine ⟨?_, paceAbort_spares hw⟩
  simp only [all_each, List.mem_range, all_ask]
  intro a ha s
  simp [immediateStop_spares hw ha, axisTo_spares hw ha]

theorem stringEnZero_spares {k : Nat} (hk : k < 8) (hx : x.name ≠ .stringEn) : Spares x v y (stringEnZero k) := by
  have hb : Spares x v y (bump (unitString k)) := bump_spares hw (by simp only [unitString]; omega)
  have hu : Ent.unit { name := .stringEn, inst := k } = some (unitString k) := by simp [Ent.unit, unitAt, rowOf]
  have hv : Spares x v y (wri .stringEn k 0 (masked .stringEn (u32 0))) := put_spares .stringEn (by simp) hk Nat.one_pos fun e => absurd e hx
  simp [stringEnZero, p6Write, commit, hu, hb, hv, invalidateIf_spares hw]

theorem stringsOff_spares (now : Bool) (hx : x.name ≠ .stringEn) : Spares x v y (stringsOff now) := by
  simp only [stringsOff, all_each, List.mem_range]
  intro k hk
  simp [stringDisable, stringOffNow_spares hw hk, stringFade_spares hw hk, stringEnZero_spares hw hk hx]

theorem readmitHeath_spares : Spares x v y readmitHeath := by
  simp [readmitHeath, nextRouting_spares hw, heathStopped_spares hw]

omit hw in
@[simp] theorem readmitTimer_spares : Spares x v y readmitTimer := by simp [readmitTimer, countZero]

theorem streamsPark_spares : Spares x v y streamsPark := by
  simp only [streamsPark, all_each, List.mem_range]
  exact fun k hk => streamStop_spares hw hk

omit hw in
theorem streamsReadmit_spares : Spares x v y streamsReadmit := by
  simp only [streamsReadmit, all_each, all_ask]
  intro k _ s
  split <;> simp

omit hw in
/-- Units are numbered to 56. -/
theorem mem_islandUnits {i u : Nat} (h : u ∈ islandUnits i) : u ≤ 56 ∧ u - 1 < 56 := by
  simp only [islandUnits, List.mem_filterMap, List.mem_range, Option.ite_none_right_eq_some, Option.some.injEq] at h
  obtain ⟨k, hk, -, rfl⟩ := h
  omega

theorem fenceEpochs_spares (i : Nat) : Spares x v y (fenceEpochs i) := by
  simp only [fenceEpochs, all_each, all_ask, all_seq]
  exact fun u hu s => ⟨wri_spares hw Nat.one_pos (by decide) (mem_islandUnits hu).2 _, trivial⟩

theorem readmitEpochs_spares (i : Nat) : Spares x v y (readmitEpochs i) := by
  simp only [readmitEpochs, all_each, all_seq]
  exact fun u hu => ⟨bump_spares hw (mem_islandUnits hu).1, fun _ => trivial⟩

/-- The readmission of an island other than HOST and LINK. -/
theorem readmitActs_spares {i : Nat} (h6 : i ≠ islHost) (h8 : i ≠ islLink) (ho : x.name ≠ .owner) (hs : x.name ≠ .stringEn) :
    Spares x v y (readmitActs i) := by
  intro s
  dsimp only
  split
  · next h => exact readmitHead_spares hw h
  · split
    · exact readmitLine_spares
    · exact readmitStore_spares hw ho
    · exact absurd rfl h6
    · exact readmitNet_spares hw
    · exact absurd rfl h8
    · exact ⟨readmitAxes_spares hw, by simp [parkAxes_spares hw]⟩
    · simp [stringsOff_spares hw _ hs]
    · exact readmitHeath_spares hw
    · exact readmitTimer_spares
    · trivial

end

end Sys2Proof.Machine
end

section
/-! SUPPORT. The fences stand while an island does its part at a readmission point, and no command record comes to wait. -/
namespace Sys2Proof.Machine

-- One proof at a time: a thread for each would need more memory than a check has.
set_option Elab.async false

open Prog

/-- The fences are as before, and no command record waits where none did. -/
structure FencesStand (s t : State) : Prop where
  islands : t.islands = s.islands
  held : NoHeld s → NoHeld t

variable {s t u : State}

theorem FencesStand.refl (s : State) : FencesStand s s := ⟨rfl, id⟩

theorem FencesStand.trans (h : FencesStand s t) (g : FencesStand t u) : FencesStand s u := ⟨g.islands.trans h.islands, g.held ∘ h.held⟩

theorem FencesStand.of_frame {W : List Nat} {L : List Part} (h : Frame W L s t) (hi : .islands ∉ L) (hc : .cmds ∉ L) : FencesStand s t :=
  ⟨h.2 .islands hi, fun hn => hn.of_cmds (h.cmds hc)⟩

theorem FencesStand.island (h : FencesStand s t) (k : Nat) : t.island k = s.island k := congrArg (Store.get ({} : Island) · k) h.islands

theorem FencesStand.fenced (h : FencesStand s t) (k : Nat) : t.fenced k = s.fenced k := by rw [State.fenced, State.fenced, h.island]

/-- HEAD_EN, an entry that no act of an island at a fence or a readmission writes, stands for every entry that paths write. -/
def bystander : Ent := { name := .headEn }

theorem bystander_writable : bystander.name.writable = true := headEn_restored.writable

/-- A program that spares an entry moves no fence and no command channel. -/
theorem Spares.fencesStand {v : U32} {y : Nat} {p : Prog} (h : Spares bystander v y p) (s : State) : FencesStand s (p.run s) := by
  have hs := Spares.run headEn_restored.placed headEn_restored.writable h s
  exact ⟨hs.islands, fun hn => hn.of_cmds hs.cmds⟩

theorem each_fencesStand {α : Type} {f : α → Prog} (h : ∀ a s, FencesStand s ((f a).run s)) (l : List α) (s : State) :
    FencesStand s ((each l f).run s) := by
  induction l generalizing s with
  | nil => exact .refl s
  | cons a l ih => exact (h a s).trans (ih _)

/-! ### Mode requests that complete -/

theorem complete_islands (p : Path) (src : Nat) (r : CmdRecord) (st : Status) (u e isl : Nat) (data : List Byte) (at' : Nat × Nat) (s : State) :
    ((complete p src r st u e isl data at').run s).islands = s.islands := by
  rw [complete_run, (leavePath_frame ..).2 .islands (by decide), (sendCompletion_delivers ..).2.2 .islands (by decide),
    (noteStatus_frame ..).2 .islands (by decide)]

theorem rpdoRefused_frame (k : Nat) (st : Status) (s : State) : Frame [] (.pdos :: reporting) s ((rpdoRefused k st).run s) := by
  refine Prog.run_frame (fun u => ?_) s
  simp [emitBy, modPdo, Op.within, Op.touches, reporting, Event.severity]

theorem completeMode_islands (q : ModeReq) (st : Status) (s : State) : ((completeMode q st).run s).islands = s.islands := by
  have hnote (u : State) : ((when (decide (st ≠ .ok)) (refuse q.path st 0x2000 1)).run u).islands = u.islands := by
    rw [run_when]
    split
    · exact (refuse_frame ..).2 .islands (by decide)
    · rfl
  simp only [completeMode, run_ask]
  split
  · rfl
  · split
    · exact hnote s
    · exact ((finishPath_frame ..).2 .islands (by decide)).trans (hnote s)
    · refine (?_ : ((when (decide (st ≠ .ok)) _).run _).islands = _).trans (hnote s)
      rw [run_when]
      split
      · exact (rpdoRefused_frame ..).2 .islands (by decide)
      · rfl
    · exact complete_islands ..
    · exact hnote s
    · refine (?_ : ((when (decide (st ≠ .ok)) _).run _).islands = _).trans (hnote s)
      rw [run_when]
      split
      · exact (emitBy_frame _ (by decide) (by decide) ..).2 .islands (by decide)
      · rfl

theorem completeMode_fencesStand (q : ModeReq) (st : Status) (s : State) : FencesStand s ((completeMode q st).run s) :=
  ⟨completeMode_islands q st s, fun hn => ((completeMode_besideModes (J := fun _ => True) (fun _ _ _ _ => id) q st).run ⟨trivial, hn⟩).2⟩

theorem completeDue_fencesStand (s : State) : FencesStand s (completeDue.run s) := by
  have hm : FencesStand s ((modModes fun m => { m with due := [] }).run s) := ⟨rfl, id⟩
  exact hm.trans (each_fencesStand (fun (d : ModeReq × Status) => completeMode_fencesStand d.1 d.2) s.modes.due _)

/-! ### Readmission -/

theorem readmitHost_fencesStand (s : State) : FencesStand s (readmitHost.run s) := by
  have hn : FencesStand s ((Op.numberWaiting (s.stamp islHost)).apply s) :=
    .of_frame (W := [keyOf .calId 0 0]) (L := reporting) (Op.within_frame (o := .numberWaiting _) s ⟨.head _, fun _ h => h⟩) (by decide) (by decide)
  have hf (u : State) : FencesStand u (Op.free.apply u) := ⟨rfl, id⟩
  simp only [readmitHost, run_ask, all_cons, all_nil, run_seq, run_nop, run_op]
  exact ((hn.trans (hf _)).trans ((streamsReadmit_spares (v := 0) (y := 0)).fencesStand _)).trans (completeDue_fencesStand _)

theorem readmitLink_fencesStand (s : State) : FencesStand s (readmitLink.run s) := by
  have hw : readmitLink.All (Op.within replayKeys [.out, .link]) :=
    ⟨modLink_within (by decide) _, fun _ => insertSome_within (fun _ h => h) (by decide) (by decide) _⟩
  exact .of_frame (Prog.run_frame hw s) (by decide) (by decide)

theorem readmitActs_fencesStand (i : Nat) (s : State) : FencesStand s ((readmitActs i).run s) := by
  by_cases h6 : i = islHost
  · have hp : Spares bystander 0 0 (when (s.modes.mode = .park) streamsPark) := by simp [streamsPark_spares bystander_writable]
    have hrun : (readmitActs i).run s = (when (s.modes.mode = .park) streamsPark).run (readmitHost.run s) := by
      simp only [h6, islHost, readmitActs, run_ask, Nat.reduceLT, if_false, run_seq]
    rw [hrun]
    exact (readmitHost_fencesStand s).trans (hp.fencesStand _)
  · by_cases h8 : i = islLink
    · have hrun : (readmitActs i).run s = readmitLink.run s := by
        simp only [h8, islLink, readmitActs, run_ask, Nat.reduceLT, if_false]
      rw [hrun]
      exact readmitLink_fencesStand s
    · exact (readmitActs_spares (v := 0) (y := 0) bystander_writable h6 h8 (by decide) (by decide)).fencesStand s

/-- What follows when an island is in service again: its epochs, its part, and the events. -/
theorem readmission_run {i : Nat} {s : State} (h : (s.island i).st = .waiting) : ∃ p : Prog,
    (readmission i).run s = p.run ((modIsland i fun x => { x with st := .running }).run s) ∧ ∀ u, FencesStand u (p.run u) := by
  refine ⟨all [ readmitEpochs i, readmitActs i, emit .islandReadmitted (islandUnit i) i (pack [(8, i)]),
    clearEvent .islandPllLost (islandUnit i) i, clearEvent .handshakeTimeout (islandUnit i) i ], ?_, fun u => ?_⟩
  · simp only [readmission, run_ask, h, decide_true, when_true, all_cons, run_seq]
  · have hev : Spares bystander 0 0 (all [ emit .islandReadmitted (islandUnit i) i (pack [(8, i)]),
      clearEvent .islandPllLost (islandUnit i) i, clearEvent .handshakeTimeout (islandUnit i) i ]) := by simp
    rw [all_cons, run_seq, all_cons, run_seq]
    exact (((readmitEpochs_spares (v := 0) (y := 0) bystander_writable i).fencesStand u).trans (readmitActs_fencesStand i _)).trans (hev.fencesStand _)

/-- An island that waits for its readmission point is in service after it. -/
theorem readmission_runs {i : Nat} {s : State} (h : (s.island i).st = .waiting) (hn : NoHeld s) :
    (((readmission i).run s).island i).st = .running ∧ NoHeld ((readmission i).run s) := by
  obtain ⟨p, hrun, hp⟩ := readmission_run h
  rw [hrun]
  refine ⟨?_, (hp _).held hn⟩
  rw [(hp _).island, run_modIsland, State.island_apply, if_pos rfl]

/-- The records of the fence logic when a fence has taken effect, before its event: that of island `i` as `f` has moved it. -/
theorem fence_sets (i : Nat) (f : Island → Island) (s : State) :
    let u := (fenceEpochs i).run ((modIsland i f).run ((fenceActs i).run s))
    u.island i = f (s.island i) ∧ ∀ k, k ≠ i → u.island k = s.island k := by
  have ha := (fenceActs_spares (v := 0) bystander_writable i).fencesStand s
  have he := (fenceEpochs_spares (v := 0) (y := 0) bystander_writable i).fencesStand ((modIsland i f).run ((fenceActs i).run s))
  refine ⟨?_, fun k hk => ?_⟩
  · rw [he.island, run_modIsland, State.island_apply, if_pos rfl, ha.island]
  · rw [he.island, run_modIsland, State.island_apply, if_neg hk, ha.island]

theorem emit_fencesStand (ev : Event) (unit isl : Nat) (p1 p2 : U32) (s : State) : FencesStand s ((emit ev unit isl p1 p2).run s) :=
  (emitBy_spares (v := 0) (y := 0) .p6 ev unit isl p1 p2).fencesStand s

end Sys2Proof.Machine
end

section
/-! SUPPORT. Readmissions that fail, the time base, and the reports of start-up. -/
namespace Sys2Proof.Machine

-- One proof at a time: a thread for each would need more memory than a check has.
set_option Elab.async false

open Prog

/-- HOST stays in service where only the record of another island changes. -/
theorem host_serves {i : Nat} {s t : State} (hi : i ≠ islHost) (hf : s.fenced islHost = false) (h : ∀ k, k ≠ i → t.island k = s.island k) :
    t.fenced islHost = false := by
  rw [State.fenced, h _ (Ne.symm hi)]
  exact hf

/-- A readmission that fails leaves the island FENCED, FENCE_REQ at 1, and its event as the newest report. -/
theorem readmitFailed_fails {i : Nat} {s : State} (h : s.fenced i = true) (sync : Bool) :
    let t := (readmitFailed i sync).run s
    t.rd .fenceReq 0 i = 1 ∧ FenceSet i { s.island i with st := .fenced } [keyOf .fenceReq 0 i] reporting s t
      ∧ (s.fenced islHost = false → t.newest =
        some (Event.readmitFailed, islandUnit i, pack [(8, i), (8, (Config.readmitReason sync).toNat)])) := by
  obtain ⟨hv, hfr⟩ := p6Fence_writes i s
  have hset := (FenceSet.of_frame hfr (by decide)).trans
    (FenceSet.of_modIsland (f := fun x => { x with st := .fenced }) (congrArg (fun x : Island => { x with st := .fenced }) (hfr.island (by decide) i)))
  have hem := emitBy_frame .p6 (ev := .readmitFailed) (by decide) (by decide) (islandUnit i) i
    (pack [(8, i), (8, (Config.readmitReason sync).toNat)]) 0 ((modIsland i fun x => { x with st := .fenced }).run ((p6Fence i 1).run s))
  simp only [readmitFailed, all_cons, all_nil, run_seq, run_nop]
  refine ⟨(hem.1 _ _ _ List.not_mem_nil).trans hv, ⟨?_, fun k hk => ?_, hset.frame.trans (hem.mono (by simp) fun _ h => .tail _ h)⟩, fun hf => ?_⟩
  · rw [hem.island (by decide), hset.own]
  · rw [hem.island (by decide), hset.other k hk]
  · refine emitBy_newest .p6 .readmitFailed _ _ _ _ ?_
    have hi : i ≠ islHost := fun g => by rw [← g, h] at hf; exact absurd hf (by decide)
    exact host_serves hi hf hset.other

/-! ### How far down a report is -/

/-- The newest reports of `s` are in `t` at most `k` places further down. -/
def Aged (k : Nat) (s t : State) : Prop := ∀ n e, n + k ≤ 1024 → e ∈ s.rep.journal.take n → e ∈ t.rep.journal.take (n + k)

variable {s t u : State}

theorem Aged.of_journal (h : t.rep.journal = s.rep.journal) : Aged 0 s t := fun n e _ he => by rwa [h]

theorem Aged.mono {k m : Nat} (h : Aged k s t) (hm : k ≤ m) : Aged m s t := fun n _ hn he =>
  List.take_subset_take_left _ (by omega) (h n _ (by omega) he)

theorem Aged.trans {k m : Nat} (h : Aged k s t) (g : Aged m t u) : Aged (k + m) s u := fun n e hn he => by
  rw [← Nat.add_assoc]
  exact g (n + k) e (by omega) (h n e (by omega) he)

theorem counted_journal (s : State) (e : JEntry) : (s.counted e).rep.journal = s.rep.journal := by
  unfold State.counted
  split <;> rfl

/-- Wherever it runs, the program moves the newest reports at most `k` places down. -/
def Ages (k : Nat) (p : Prog) : Prop := ∀ s, Aged k s (p.run s)

theorem ages_nop : Ages 0 .nop := fun _ => .of_journal rfl

theorem Ages.seq {k m : Nat} {p q : Prog} (hp : Ages k p) (hq : Ages m q) : Ages (k + m) (.seq p q) := fun s => (hp s).trans (hq _)

theorem Ages.ask {k : Nat} {f : State → Prog} (h : ∀ s, Ages k (f s)) : Ages k (.ask f) := fun s => h s s

theorem Ages.mono {k m : Nat} {p : Prog} (h : Ages k p) (hm : k ≤ m) : Ages m p := fun s => (h s).mono hm

theorem Ages.when {k : Nat} {p : Prog} (h : Ages k p) (b : Bool) : Ages k (when b p) := by
  cases b
  · exact ages_nop.mono (Nat.zero_le k)
  · exact h

theorem Ages.each {α : Type} {f : α → Prog} (h : ∀ a, Ages 1 (f a)) (l : List α) : Ages l.length (each l f) := by
  induction l with
  | nil => exact ages_nop
  | cons a l ih =>
    rw [List.length_cons, Nat.add_comm]
    exact (h a).seq ih

theorem modModes_ages (f : Modes → Modes) : Ages 0 (modModes f) := fun _ => .of_journal rfl

theorem modSeqr_ages (f : Seqr → Seqr) : Ages 0 (modSeqr f) := fun _ => .of_journal rfl

/-- A report moves the others one place down, or waits. -/
theorem report_ages (e : JEntry) : Ages 1 (.op (.report e)) := fun s => by
  have hc := counted_journal s e
  have hq : ((s.counted e).queued e).rep.journal = s.rep.journal := by
    unfold State.queued
    split <;> exact hc
  simp only [run_op, Op.apply, State.report]
  split
  · exact (Aged.of_journal hq).mono (Nat.zero_le 1)
  · intro n x hn hx
    rw [State.number_journal, hc, List.take_take, Nat.min_eq_left hn, List.take_succ_cons]
    exact .tail _ hx

theorem emit_ages (ev : Event) (unit isl : Nat) (p1 p2 : U32) : Ages 1 (emit ev unit isl p1 p2) := by
  refine .ask fun s => ?_
  exact ((modModes_ages _).when _).seq ((report_ages _).seq (.seq (p := .op .free) (k := 0) (fun _ => .of_journal rfl) ages_nop))

theorem clearEvent_ages (ev : Event) (unit isl : Nat) : Ages 1 (clearEvent ev unit isl) :=
  .ask fun _ => Ages.when (emit_ages _ _ _ _ _) _

/-! ### What is reported at the end of start-up -/

/-- While HOST is in service, a report that meets `Q` is among the `n` newest after the program. -/
def Tells (Q : JEntry → Prop) (n : Nat) (p : Prog) : Prop :=
  ∀ s : State, s.fenced islHost = false → ∃ e ∈ (p.run s).rep.journal.take n, Q e

variable {Q : JEntry → Prop}

theorem Tells.first {n k : Nat} {p q : Prog} (h : Tells Q n p) (hq : Ages k q) (hn : n + k ≤ 1024) : Tells Q (n + k) (.seq p q) := fun s hs => by
  obtain ⟨e, he, hQ⟩ := h s hs
  exact ⟨e, hq _ n e hn he, hQ⟩

theorem Tells.second {n : Nat} {p q : Prog} (h : Tells Q n q) (hp : ∀ s, (p.run s).fenced islHost = s.fenced islHost) : Tells Q n (.seq p q) :=
  fun s hs => h _ ((hp s).trans hs)

/-- An event is the newest report. -/
theorem emit_tells (ev : Event) (unit isl : Nat) (p1 p2 : U32) :
    Tells (fun e => e.event = some ev ∧ e.value = p1) 1 (emit ev unit isl p1 p2) := fun s hs => by
  have h := emitBy_newest .p6 ev unit isl p1 p2 hs
  unfold State.newest at h
  split at h
  · next e l hj =>
    obtain ⟨ev', hev, heq⟩ := Option.map_eq_some_iff.mp h
    simp only [Prod.mk.injEq] at heq
    obtain ⟨rfl, -, hv⟩ := heq
    exact ⟨e, by rw [hj]; exact .head _, hev, hv⟩
  · exact absurd h (by simp)

theorem emit_fenced (ev : Event) (unit isl : Nat) (p1 p2 : U32) (s : State) (k : Nat) :
    ((emit ev unit isl p1 p2).run s).fenced k = s.fenced k := (emit_fencesStand ..).fenced k

/-- Of events reported one after the other each is among the newest. -/
theorem each_tells {α : Type} {ev : α → Event} {unit isl : α → Nat} {p1 : α → U32} {l : List α} (hl : l.length ≤ 1024) {a : α} (ha : a ∈ l) :
    Tells (fun e => e.event = some (ev a) ∧ e.value = p1 a) l.length (each l fun a => emit (ev a) (unit a) (isl a) (p1 a)) := by
  induction l with
  | nil => exact absurd ha List.not_mem_nil
  | cons b l ih =>
    rw [List.length_cons] at hl ⊢
    rcases List.mem_cons.mp ha with rfl | ha
    · rw [Nat.add_comm]
      exact Tells.first (emit_tells _ _ _ _ _) (Ages.each (fun _ => emit_ages _ _ _ _ _) l) (by omega)
    · exact fun s hs => by
        obtain ⟨e, he, hQ⟩ := (ih (by omega) ha).second (emit_fenced (ev b) (unit b) (isl b) (p1 b) 0 · islHost) s hs
        exact ⟨e, List.take_subset_take_left _ (Nat.le_succ _) he, hQ⟩

/-! ### The end of start-up -/

/-- An event other than CAL_DONE, of whatever severity, changes the report system and the halt lines. -/
theorem emit_within {ev : Event} (hc : ev ≠ .calDone) (unit isl : Nat) (p1 p2 : U32) :
    (emit ev unit isl p1 p2).All (Op.within [] (.seqr :: .modes :: reporting)) := by
  simp [emitBy, modModes, Op.within, Op.touches, reporting, hc]

theorem clearEvent_within (ev : Event) (unit isl : Nat) : (clearEvent ev unit isl).All (Op.within [] (.seqr :: .modes :: reporting)) := by
  simp [clearEvent, emit_within]

theorem modSeqr_within (f : Seqr → Seqr) : (modSeqr f).All (Op.within [] (.seqr :: .modes :: reporting)) := fun _ => by
  simp [Op.within, Op.touches]

/-- Once islands 0 to 12 have locked the X9 is in service: DEVICE_RESET and the six SEQ_RESET come first, and at most 20 reports follow. -/
theorem startUp_answers {s : State} (hp : s.phase = .starting) (hl : ∀ i < 13, i ∈ s.seqr.locks) {P : State → Prop}
    (h : ∀ q, Ages 20 q → q.All (Op.within [] (.seqr :: .modes :: reporting)) →
      P ((Prog.seq (emit .deviceReset unitSeq islSeq (pack [(8, s.rdN .resetCause)]))
        (.seq (each (List.range 6) fun n => emit .seqReset 0 islHost (u32 n)) q)).run ((Op.phase .live).apply s))) :
    Answers .startUpComplete s P := by
  refine ⟨_, rfl, ?_⟩
  have hlocks : ((List.range 13).all fun i => decide (i ∈ s.seqr.locks)) = true := by simpa using hl
  simp only [run_ask, hp, hlocks, decide_true, Bool.and_self, when_true, all_cons (Prog.op _), run_seq (Prog.op _), run_op]
  refine h _ ?_ ?_
  · have he (b : Bool) (ev : Event) (unit isl : Nat) (p1 : U32) : Ages 1 (when b (emit ev unit isl p1)) := .when (emit_ages _ _ _ _ _) b
    have hc (b : Bool) (ev : Event) : Ages 1 (when b (clearEvent ev unitSeq islSeq)) := .when (clearEvent_ages _ _ _) b
    have ht (b : Bool) : Ages 1 (when b (clearEvent .tamper 0 islSafe)) := .when (clearEvent_ages _ _ _) b
    refine Ages.mono (.seq (he _ _ _ _ _) (.seq (.each (fun r => he _ _ _ _ _) _) (.seq (.when ((modSeqr_ages _).seq (emit_ages _ _ _ _ _)) _)
      (.seq (he _ _ _ _ _) (.seq (he _ _ _ _ _) (.seq (hc _ _) (.seq (hc _ _) (.seq (hc _ _) (.seq (ht _) ages_nop))))))))) ?_
    simp
  · simp [emit_within, clearEvent_within, modSeqr_within]

/-- Bit 1 of TB_STATUS after a write of its two lowest bits. -/
theorem bitAt_tbStatus {x b : Nat} (hx : x < 4294967296) (hb : b < 4) : bitAt (u32 (x / 4 * 4 + b)).toNat 1 = b.testBit 1 := by
  rw [toNat_u32 (by omega), bitAt, Nat.testBit_eq_decide_div_mod_eq, Nat.testBit_eq_decide_div_mod_eq]
  congr 1
  simp only [eq_iff_iff]
  omega

end Sys2Proof.Machine
end

section
/-! PROOF. O19: the steps of a fence and of a readmission, the time base, and the end of start-up. -/
namespace Sys2Proof.Proofs

-- One proof at a time: a thread for each would need more memory than a check has.
set_option Elab.async false

open Sys2Proof.Machine Prog

/-- The outputs, the epochs and the event of a fence leave the record of its island as the fence logic has set it. -/
theorem fenceTakesEffect_answers {i : Fin 15} {s : State} {c x : Nat} (hl : s.live = true) (hc : (s.island i).coming = some (c, x)) :
    Answers (.fenceTakesEffect i) s fun t => (t.island i).coming = none ∧ (t.island i).cause = c
      ∧ (t.island i).st = (if (s.island i).readmit then .locking else .fenced)
      ∧ (c = 1 → s.fenced islHost = false → i.val ≠ islHost →
        t.newest = some (Event.islandFenced, islandUnit i, pack [(8, i.val)])) := by
  refine ⟨_, rfl, ?_⟩
  simp only [Prog.live, run_ask, run_when, hl, if_true, hc, all_cons, all_nil, run_seq, run_nop]
  have hset := fence_sets i (fun x => { x with st := if x.readmit then .locking else .fenced, cause := c, coming := none,
                                               readmit := false, attempts := 0 }) s
  dsimp only at hset
  generalize (fenceEpochs i).run _ = u at hset ⊢
  obtain ⟨hown, hother⟩ := hset
  have hev (ev : Event) (p1 : U32) : ((emit ev (islandUnit i) i p1).run u).island i = _ := ((emit_fencesStand ..).island i).trans hown
  split
  · rw [hev]
    refine ⟨rfl, rfl, rfl, fun _ hf hi => emitBy_newest .p6 .islandFenced _ _ _ _ (host_serves hi hf hother)⟩
  · rw [hev]
    exact ⟨rfl, rfl, rfl, nofun⟩
  · next h1 _ =>
    rw [hev]
    exact ⟨rfl, rfl, rfl, fun h => absurd h h1⟩

/-- The first seven reports of start-up are still in the journal when it is complete. -/
theorem startUpComplete_answers {s : State} (hp : s.phase = .starting) (hl : ∀ i < 13, i ∈ s.seqr.locks) :
    Answers .startUpComplete s fun t => t.phase = .live
      ∧ (s.fenced islHost = false → (∃ e ∈ t.rep.journal, e.event = some .deviceReset ∧ e.value = pack [(8, s.rdN .resetCause)])
        ∧ ∀ n : Fin 6, ∃ e ∈ t.rep.journal, e.event = some .seqReset ∧ e.value = u32 n)
      ∧ Frame [] (.phase :: .seqr :: .modes :: reporting) s t := by
  refine startUp_answers hp hl fun q hq hw => ?_
  have hall : (Prog.seq (emit .deviceReset unitSeq islSeq (pack [(8, s.rdN .resetCause)]))
      (.seq (each (List.range 6) fun n => emit .seqReset 0 islHost (u32 n)) q)).All (Op.within [] (.seqr :: .modes :: reporting)) := by
    simp [emit_within, hw]
  have hfr := Prog.run_frame hall ((Op.phase .live).apply s)
  have hphase : Frame [] (.phase :: .seqr :: .modes :: reporting) s ((Op.phase .live).apply s) :=
    Op.within_frame (o := .phase _) s (by simp [Op.within, Op.touches])
  refine ⟨(hfr.2 .phase (by decide)).trans rfl, fun hf => ⟨?_, fun n => ?_⟩, hphase.trans (hfr.mono (fun _ h => h) fun _ h => .tail _ h)⟩
  · have ht := Tells.first (emit_tells .deviceReset unitSeq islSeq (pack [(8, s.rdN .resetCause)]) 0)
      (.seq (Ages.each (fun n => emit_ages .seqReset 0 islHost (u32 n) 0) (List.range 6)) hq) (by simp)
    obtain ⟨e, he, hQ⟩ := ht ((Op.phase .live).apply s) hf
    exact ⟨e, List.mem_of_mem_take he, hQ⟩
  · have ht := (Tells.first (each_tells (ev := fun _ => .seqReset) (unit := fun _ => 0) (isl := fun _ => islHost) (p1 := u32) (by simp)
      (List.mem_range.mpr n.isLt)) hq (by simp)).second (emit_fenced .deviceReset unitSeq islSeq (pack [(8, s.rdN .resetCause)]) 0 · islHost)
    obtain ⟨e, he, hQ⟩ := ht ((Op.phase .live).apply s) hf
    exact ⟨e, List.mem_of_mem_take he, hQ⟩

/-- A command that moves the record of one island changes nothing else. -/
theorem modIsland_answers {c : Instr} {i : Nat} {f : Island → Island} {s : State} {P : State → Prop}
    (hx : exec c s = .next ((modIsland i f).run s)) (hP : ∀ t : State, t.island i = f (s.island i) → Frame [] [.islands] s t → P t) : Answers c s P :=
  have h : FenceSet i (f (s.island i)) [] [] s ((modIsland i f).run s) := .of_modIsland rfl
  ⟨_, hx, hP _ h.own h.frame⟩

/-- A command by which a readmission fails leaves the island FENCED, FENCE_REQ at 1 and READMIT_FAILED. -/
theorem readmitFailed_answers {c : Instr} {i : Fin 15} {sync : Bool} {s : State} (hx : exec c s = .next ((readmitFailed i sync).run s))
    (hs : s.fenced i = true) : Answers c s fun t => (t.island i).st = .fenced ∧ (t.island i).cause = (s.island i).cause ∧ t.rd .fenceReq 0 i = 1
      ∧ (s.fenced islHost = false → t.newest =
        some (Event.readmitFailed, islandUnit i, pack [(8, i.val), (8, (Config.readmitReason sync).toNat)]))
      ∧ Frame [keyOf .fenceReq 0 i] (.islands :: reporting) s t := by
  obtain ⟨hv, hset, hnew⟩ := readmitFailed_fails hs sync
  exact ⟨_, hx, by rw [hset.own], by rw [hset.own], hv, hnew, hset.frame⟩

/-- The end of an attempt, by its samples and the attempts before it. -/
theorem syncAttemptEnd_run {i : Fin 15} {samples : List (U64 × U64)} {s : State} (hl : s.live = true) (hs : (s.island i).st = .syncing) :
    exec (.syncAttemptEnd i samples) s = .next ((if syncConsistent i samples then modIsland i fun x => { x with st := .waiting }
      else if (s.island i).attempts < 2 then modIsland i fun x => { x with attempts := x.attempts + 1 } else readmitFailed i true).run s) := by
  simp only [exec, execSyncAttemptEnd, done_eq, Prog.live, run_ask, run_when, hl, hs, decide_true, if_true]

theorem tbHoldover_answers {s : State} (hp : s.phase ≠ .unpowered) :
    Answers .tbHoldover s fun t => bitAt (t.rdN .tbStatus) 1 = true ∧ Frame [keyOf .tbStatus 0 0] reporting s t := by
  have hem (u : State) : Frame [] reporting u ((Prog.live (emit .tbHoldover 0 islSeq)).run u) := by
    rw [Prog.live, run_ask, run_when]
    split
    · exact emitBy_frame _ (by decide) (by decide) ..
    · exact Frame.refl ..
  refine ⟨_, rfl, ?_⟩
  simp only [powered, run_ask, run_when, decide_eq_true hp, if_true, run_seq, run_wrN]
  cases hb : bitAt (s.rdN .tbStatus) 1
  · rw [Bool.not_false, if_pos rfl]
    refine ⟨?_, (put_frame (.head _) _ s).trans ((hem _).mono (by simp) fun _ h => h)⟩
    rw [State.rdN, (hem _).1 _ _ _ List.not_mem_nil, State.rd_put]
    exact bitAt_tbStatus (BitVec.isLt _) (by decide)
  · exact ⟨hb, Frame.refl ..⟩

theorem holdoverExit_answers {s : State} (hp : s.phase ≠ .unpowered) :
    Answers .holdoverExit s fun t => bitAt (t.rdN .tbStatus) 1 = false ∧ Frame [keyOf .tbStatus 0 0] [] s t := by
  refine ⟨_, rfl, ?_⟩
  simp only [powered, run_ask, run_when, decide_eq_true hp, if_true, run_wrN]
  refine ⟨?_, put_frame (.head _) _ s⟩
  rw [State.rdN, State.rd_put]
  exact bitAt_tbStatus (BitVec.isLt _) (by decide)

/-- Settles O19: what an island does at a fence or a readmission point moves no fence, so each step leaves the record that the fence logic gave it. -/
theorem fencesAndReadmissionsComplete : Obligations.FencesAndReadmissionsComplete := by
  refine ⟨fun i s c x hl hc => fenceTakesEffect_answers hl hc, fun i s => ⟨fun hp => ?_, fun hl hs => ?_⟩, fun i s hl hs => ?_,
    fun i samples s hl hs => ⟨fun hy => ?_, fun hy ha => ?_, fun hy ha => ?_⟩, fun i s hl hn hs => ?_,
    fun s hp => ⟨?_, ?_⟩, fun s hp hl => ?_⟩
  · refine ⟨_, rfl, ?_⟩
    simp only [run_ask, hp, if_true]
    refine ⟨?_, Prog.run_frame (fun u => by simp [Op.within, Op.touches]) s⟩
    show i.val ∈ (if i.val ∈ s.seqr.locks then s.seqr.locks else s.seqr.locks ++ [i.val])
    split
    · assumption
    · simp
  · have hp : s.phase ≠ .starting := fun g => by simp [State.live, g] at hl
    refine modIsland_answers (i := i) (f := fun x => { x with st := .syncing, attempts := 0 })
      (by simp [exec, execIslandPllLock, Prog.live, hl, hs, hp]) fun t ht hf => ?_
    rw [ht]
    exact ⟨rfl, rfl, hf⟩
  · exact readmitFailed_answers (congrArg Host.Outcome.next (by simp [Prog.live, hl, hs])) (by simp [State.fenced, hs])
  · refine modIsland_answers (f := fun x => { x with st := .waiting }) (by rw [syncAttemptEnd_run hl hs, if_pos hy]) fun t ht hf => ?_
    rw [ht]
    exact ⟨rfl, hf⟩
  · refine modIsland_answers (f := fun x => { x with attempts := x.attempts + 1 })
      (by rw [syncAttemptEnd_run hl hs, if_neg (by simp [hy]), if_pos ha]) fun t ht hf => ?_
    rw [ht]
    exact ⟨hs, rfl, hf⟩
  · obtain ⟨t, hx, hst, -, hv, -, hf⟩ := readmitFailed_answers (c := .syncAttemptEnd i samples) (i := i) (sync := true) (s := s)
      (by rw [syncAttemptEnd_run hl hs, if_neg (by simp [hy]), if_neg (by omega)]) (by simp [State.fenced, hs])
    exact ⟨t, hx, hst, hv, hf⟩
  · obtain ⟨hr, hh⟩ := readmission_runs hs hn
    exact answers_settled (congrArg Host.Outcome.next (by simp [Prog.live, hl])) hh hr
  · exact tbHoldover_answers hp
  · exact holdoverExit_answers hp
  · exact startUpComplete_answers hp hl

end Sys2Proof.Proofs
end

section
/-! SUPPORT. What the programs of a head may do: the entries and the parts that they change, and when they leave the line of the head alone. -/
namespace Sys2Proof.Machine

-- One proof at a time: a thread for each would need more memory than a check has.
set_option Elab.async false

open Prog

/-! ### The line of a head -/

/-- The record `x` of a head has the line, the pending trigger, the next position line and the leaving mark of `r`; LINE takes its lines if it took
those of `r`. -/
structure Head.SameLine (r x : Head) : Prop where
  cur : x.cur = r.cur
  pendAt : x.pendAt = r.pendAt
  next : x.next = r.next
  leaving : x.leaving = r.leaving
  skipping : r.skipping = false → x.skipping = false

theorem Head.SameLine.refl (r : Head) : r.SameLine r := ⟨rfl, rfl, rfl, rfl, id⟩

theorem Head.SameLine.trans {r x y : Head} (h : r.SameLine x) (g : x.SameLine y) : r.SameLine y :=
  ⟨g.cur.trans h.cur, g.pendAt.trans h.pendAt, g.next.trans h.next, g.leaving.trans h.leaving, g.skipping ∘ h.skipping⟩

/-- A condition on the record of a head that stands while its line stays the same. -/
def LineClosed (J : Head → Prop) : Prop := ∀ r x, r.SameLine x → J r → J x

/-- No condition at all. -/
def Head.any (_ : Head) : Prop := True

theorem lineClosed_any : LineClosed Head.any := fun _ _ _ _ => trivial

theorem lineClosed_sameLine (r : Head) : LineClosed r.SameLine := fun _ _ h g => g.trans h

/-- The update gives the record of head `h` no value but one that meets `J`. -/
def Op.headMeets (h : Nat) (J : Head → Prop) : Op → Prop
  | .head k r => k = h → J r
  | .clearState _ => False
  | _ => True

/-- Every update of the program stays within a frame and leaves the record of head `h` meeting `J`. -/
abbrev InHead (h : Nat) (J : Head → Prop) (W : List Nat) (L : List Part) (p : Prog) : Prop :=
  p.AllUnder (fun s => J (s.head h)) fun o => o.within W L ∧ o.headMeets h J

theorem Op.headMeets_keeps {h : Nat} {J : Head → Prop} {o : Op} {s : State} (ho : o.headMeets h J) (hs : J (s.head h)) :
    J ((o.apply s).head h) := by
  cases o with
  | head k r =>
    rw [State.head_apply]
    split
    · next e => exact ho e.symm
    · exact hs
  | clearState f => exact ho.elim
  | _ => rw [State.head_frame (by simp)]; exact hs

theorem InHead.run {h : Nat} {J : Head → Prop} {W : List Nat} {L : List Part} {p : Prog} (hp : InHead h J W L p) {s : State} (hs : J (s.head h)) :
    Frame W L s (p.run s) ∧ J ((p.run s).head h) :=
  Prog.run_relUnder (R := Frame W L) (Frame.refl W L) Frame.trans (fun _ s ho hs => ⟨Op.within_frame s ho.1, Op.headMeets_keeps ho.2 hs⟩) p hp s hs

/-- A program that leaves the line of a head alone. -/
theorem InHead.sameLine {h : Nat} {W : List Nat} {L : List Part} {s : State} {p : Prog} (hp : InHead h (s.head h).SameLine W L p) :
    Frame W L s (p.run s) ∧ (s.head h).SameLine ((p.run s).head h) := hp.run (.refl _)

theorem InHead.frame {h : Nat} {W : List Nat} {L : List Part} {p : Prog} (hp : InHead h Head.any W L p) (s : State) :
    Frame W L s (p.run s) := (hp.run trivial).1

/-! ### Single updates -/

section
variable {h : Nat} {J : Head → Prop} {W : List Nat} {L : List Part}

theorem wr_inHead {n : Name} {j : Nat} (hk : keyOf n j 0 ∈ W) (v : U32) : InHead h J W L (wr n j v) := ⟨hk, trivial⟩
theorem wrN_inHead {n : Name} {j : Nat} (hk : keyOf n j 0 ∈ W) (v : Nat) : InHead h J W L (wrN n j v) := ⟨hk, trivial⟩
theorem countUp_inHead {n : Name} {j : Nat} (hk : keyOf n j 0 ∈ W) : InHead h J W L (countUp n j) := fun _ _ => wrN_inHead hk _
theorem bump_inHead {u : Nat} (hk : epochKey u ∈ W) : InHead h J W L (bump u) := fun _ _ => ⟨hk, trivial⟩

theorem modLineUnit_inHead (hu : .lineUnits ∈ L) (k : Nat) (f : LineUnit → LineUnit) : InHead h J W L (modLineUnit k f) :=
  fun _ _ => ⟨by simpa [Op.within, Op.touches], trivial⟩
theorem modQueued_inHead (hu : .lineUnits ∈ L) (k n : Nat) (f : LineCap → LineCap) : InHead h J W L (modQueued k n f) := modLineUnit_inHead hu _ _
theorem modChan_inHead (hc : .chans ∈ L) (k : Nat) (f : Chan → Chan) : InHead h J W L (modChan k f) :=
  fun _ _ => ⟨by simpa [Op.within, Op.touches], trivial⟩
theorem modPair_inHead (hp : .pairs ∈ L) (k : Nat) (f : Pair → Pair) : InHead h J W L (modPair k f) :=
  fun _ _ => ⟨by simpa [Op.within, Op.touches], trivial⟩
theorem modLane_inHead (hl : .lanes ∈ L) (k : Nat) (f : Lanes → Lanes) : InHead h J W L (modLane k f) :=
  fun _ _ => ⟨by simpa [Op.within, Op.touches], trivial⟩
theorem modWatch_inHead (hw : .watch ∈ L) (f : Watch → Watch) : InHead h J W L (modWatch f) :=
  fun _ _ => ⟨by simpa [Op.within, Op.touches], trivial⟩
theorem modAxis_inHead (ha : .axes ∈ L) (k : Nat) (f : Axis → Axis) : InHead h J W L (modAxis k f) :=
  fun _ _ => ⟨by simpa [Op.within, Op.touches], trivial⟩

/-- A change of the record of a head that leaves its line alone. -/
theorem modHead_inHead (hJ : LineClosed J) (hh : .heads ∈ L) (k : Nat) {f : Head → Head} (hf : ∀ r : Head, r.SameLine (f r)) :
    InHead h J W L (modHead k f) :=
  fun _ hs => ⟨by simpa [Op.within, Op.touches], fun e => hJ _ _ (hf _) (e ▸ hs)⟩

/-- Any change of the record of a head, where nothing is asked of it. -/
theorem modHead_inHead_any (hh : .heads ∈ L) (k : Nat) (f : Head → Head) : InHead h Head.any W L (modHead k f) :=
  fun _ _ => ⟨by simpa [Op.within, Op.touches], fun _ => trivial⟩

/-! ### Reports -/

variable (hr : ∀ x ∈ reporting, x ∈ L)
include hr

theorem free_inHead : InHead h J W L (.op .free) := 
  ⟨by simpa [Op.within, Op.touches] using hr .fresh (by simp [reporting]), trivial⟩

theorem emit_inHead {ev : Event} (hs : ev.severity ≠ .halt) (hc : ev ≠ .calDone) (unit isl : Nat) (p1 p2 : U32) :
    InHead h J W L (emit ev unit isl p1 p2) := fun s _ => by
  simp only [hs, decide_false, when_false, allUnder_all, List.forall_mem_cons, allUnder_nop, allUnder_op, true_and]
  exact ⟨⟨⟨fun e => absurd (Option.some.inj e) hc, hr⟩, trivial⟩, free_inHead hr, nofun⟩

variable (hJ : LineClosed J) (hh : .heads ∈ L)
include hJ hh

theorem headOnce_inHead {ev : Event} (hs : ev.severity ≠ .halt) (hc : ev ≠ .calDone) (k isl : Nat) (p1 p2 : U32) :
    InHead h J W L (headOnce k ev isl p1 p2) := by
  intro s _
  simp only [allUnder_when, allUnder_seq]
  exact fun _ => ⟨modHead_inHead hJ hh _ fun _ => ⟨rfl, rfl, rfl, rfl, id⟩, emit_inHead hr hs hc _ _ _ _⟩

end

/-! ### The parts of a line -/

section
variable {h : Nat} {J : Head → Prop} {W : List Nat} {L : List Part}

theorem drivePhases_inHead (hJ : LineClosed J) (hh : .heads ∈ L) (k : Nat) : InHead h J W L (drivePhases k) :=
  fun _ _ => modHead_inHead hJ hh _ fun _ => ⟨rfl, rfl, rfl, rfl, id⟩

theorem headTo_inHead {k : Nat} (hs : keyOf .headState k 0 ∈ W) (he : epochKey (unitHead k) ∈ W) (st : Nat) : InHead h J W L (headTo k st) := by
  simp [headTo, wrN_inHead hs, bump_inHead he]

theorem nextNumber_inHead (hJ : LineClosed J) (hh : .heads ∈ L) {k : Nat} (hn : keyOf .lineNumber k 0 ∈ W) : InHead h J W L (nextNumber k) :=
  fun _ _ => ⟨wrN_inHead hn _, modHead_inHead hJ hh _ fun _ => ⟨rfl, rfl, rfl, rfl, id⟩⟩

theorem setNumber_inHead (hJ : LineClosed J) (hh : .heads ∈ L) {k : Nat} (hn : keyOf .lineNumber k 0 ∈ W) (n : Nat) :
    InHead h J W L (setNumber k n) := by
  intro s _
  simp only [allUnder_seq, allUnder_when]
  exact ⟨wrN_inHead hn _, fun _ => modHead_inHead hJ hh _ fun _ => ⟨rfl, rfl, rfl, rfl, id⟩⟩

theorem tempAtStart_inHead {k : Nat} (ht : keyOf .tempNow k 0 ∈ W) : InHead h J W L (tempAtStart k) := by
  simp [tempAtStart, wr_inHead ht]

theorem lineResume_inHead (hJ : LineClosed J) (hh : .heads ∈ L) (k : Nat) : InHead h J W L (lineResume k) := by
  intro s _
  simp only [allUnder_when]
  exact fun _ => modHead_inHead hJ hh _ fun _ => ⟨rfl, rfl, rfl, rfl, fun _ => rfl⟩

theorem watchAtStart_inHead (hw : .watch ∈ L) (k : Nat) : InHead h J W L (watchAtStart k) := by
  have hm (f : Watch → Watch) : InHead h J W L (modWatch f) := modWatch_inHead hw f
  simp only [watchAtStart, allUnder_ask, allUnder_ite, allUnder_when]
  refine fun s _ => ⟨fun _ _ => hm _, fun _ => ⟨fun _ => ⟨fun _ => ⟨fun _ => hm _, fun _ => hm _⟩, fun _ => trivial⟩, fun _ _ => ?_⟩⟩
  split
  · exact hm _
  · trivial

theorem clocked_cases {s : State} {k n : Nat} (hn : n ∈ s.clocked k) : ∃ i < 4, n = 3 * k + i := by
  simp only [State.clocked, State.clockHead, List.mem_filter, List.mem_range, Bool.and_eq_true, decide_eq_true_eq] at hn
  obtain ⟨-, hn⟩ := hn
  refine ⟨n - 3 * k, ?_⟩
  split at hn
  · next hodd => obtain ⟨hodd, -⟩ := hodd; omega
  · omega

theorem channelsAtStart_inHead (hc : .chans ∈ L) (hp : .pairs ∈ L) (hl : .lanes ∈ L) {k : Nat}
    (hk : ∀ i < 4, keyOf .rangeNow (3 * k + i) 0 ∈ W) : InHead h J W L (channelsAtStart k) := by
  intro s _
  simp only [allUnder_all, List.forall_mem_cons, allUnder_each, allUnder_seq, allUnder_ite, allUnder_when]
  refine ⟨fun n hn => ?_, fun _ _ _ => modPair_inHead hp _ _, modLane_inHead hl _ _, nofun⟩
  obtain ⟨i, hi, rfl⟩ := clocked_cases hn
  exact ⟨modChan_inHead hc _ _, fun _ => wrN_inHead (hk i hi) _, fun _ _ => wrN_inHead (hk i hi) _⟩

variable (hr : ∀ x ∈ reporting, x ∈ L) (hJ : LineClosed J) (hh : .heads ∈ L)
include hr hJ hh

theorem shortEvent_inHead (k : Nat) (c : LineCap) : InHead h J W L (shortEvent k c) := by
  simp (disch := decide) [shortEvent, headOnce_inHead hr hJ hh]

theorem dropTrigger_inHead {k : Nat} (hd : keyOf .trigDropped k 0 ∈ W) (n : Nat) : InHead h J W L (dropTrigger k n) :=
  fun _ _ => ⟨wrN_inHead hd _, headOnce_inHead hr hJ hh (by decide) (by decide) _ _ _ _⟩

variable (hu : .lineUnits ∈ L)
include hu

omit hr in
theorem enqueueLine_inHead (k : Nat) (c : LineCap) : InHead h J W L (enqueueLine k c) := by
  intro s _
  simp only [allUnder_ite]
  exact ⟨fun _ => modHead_inHead hJ hh _ fun _ => ⟨rfl, rfl, rfl, rfl, id⟩, fun _ => ⟨fun _ => trivial, fun _ => modLineUnit_inHead hu _ _⟩⟩

theorem closeLanes_inHead (k : Nat) : InHead h J W L (closeLanes k) := by
  simp only [closeLanes, allUnder_ask]
  intro s _
  split
  · trivial
  · exact ⟨shortEvent_inHead hr hJ hh _ _, modLineUnit_inHead hu _ _⟩

theorem settleLine_inHead (k n : Nat) : InHead h J W L (settleLine k n) := by
  simp only [settleLine, allUnder_ask]
  intro s _
  split
  · trivial
  · split
    · trivial
    · simp only [allUnder_ite, allUnder_seq, allUnder_when]
      exact ⟨fun _ => modQueued_inHead hu _ _ _, fun _ => ⟨modQueued_inHead hu _ _ _, fun _ => headOnce_inHead hr hJ hh (by decide) (by decide) _ _ _ _⟩⟩

omit hr in
theorem settleLast_inHead (k : Nat) : InHead h J W L (settleLast k) := by
  simp only [settleLast, allUnder_ask]
  intro s _
  split
  · trivial
  · exact ⟨modQueued_inHead hu _ _ _, modHead_inHead hJ hh _ fun _ => ⟨rfl, rfl, rfl, rfl, id⟩⟩

omit hJ hh in
theorem closePage_inHead (k : Nat) : InHead h J W L (closePage k) := by
  simp only [closePage, allUnder_ask, allUnder_when, allUnder_seq]
  exact fun s _ _ => ⟨modLineUnit_inHead hu _ _, free_inHead hr⟩

omit hJ in
theorem disarm_inHead {k : Nat} (hs : keyOf .headState k 0 ∈ W) (he : epochKey (unitHead k) ∈ W) (st : Nat) :
    InHead h Head.any W L (disarm k st) :=
  ⟨settleLast_inHead lineClosed_any hh hu k, modHead_inHead_any hh k _, drivePhases_inHead lineClosed_any hh k, headTo_inHead hs he st,
    closePage_inHead hr hu k, trivial⟩

omit hr hJ in
theorem truncateLine_inHead (k : Nat) : InHead h Head.any W L (truncateLine k) := by
  simp only [truncateLine, allUnder_ask]
  intro s _
  split
  · trivial
  · exact ⟨modHead_inHead_any hh k _, enqueueLine_inHead lineClosed_any hh hu k _⟩

end

/-! ### The record of a head as a program leaves it -/

theorem modHead_head (h : Nat) (f : Head → Head) (s : State) : ((modHead h f).run s).head h = f (s.head h) := by
  rw [run_modHead, State.head_apply, if_pos rfl]

theorem modHead_frame (h : Nat) (f : Head → Head) (s : State) : Frame [] [.heads] s ((modHead h f).run s) :=
  (modHead_inHead_any (h := h) (.head _) h f).frame s

theorem drivePhases_frame (h : Nat) (s : State) : Frame [] [.heads] s ((drivePhases h).run s) :=
  (drivePhases_inHead (h := h) lineClosed_any (.head _) h).frame s

end Sys2Proof.Machine
end

section
/-! SUPPORT. What the rows of a head change: the frame of triggers, of lines and of the lanes. -/
namespace Sys2Proof.Machine

-- One proof at a time: a thread for each would need more memory than a check has.
set_option Elab.async false

open Prog

/-- The entries that the triggers and the lines of a head change. -/
def lineKeys (h : Nat) : List Nat :=
  [epochKey (unitHead h), keyOf .headState h 0, keyOf .lineNumber h 0, keyOf .paceState 0 0, keyOf .rangeNow (3 * h) 0,
    keyOf .rangeNow (3 * h + 1) 0, keyOf .rangeNow (3 * h + 2) 0, keyOf .rangeNow (3 * h + 3) 0, keyOf .tempNow h 0, keyOf .trigDropped h 0]

/-- The parts that the triggers and the lines of a head change. -/
def lineParts : List Part := [.chans, .heads, .lanes, .lineUnits, .pairs, .watch] ++ reporting

theorem rangeNow_mem {W : List Nat} {h : Nat} (h0 : keyOf .rangeNow (3 * h) 0 ∈ W) (h1 : keyOf .rangeNow (3 * h + 1) 0 ∈ W)
    (h2 : keyOf .rangeNow (3 * h + 2) 0 ∈ W) (h3 : keyOf .rangeNow (3 * h + 3) 0 ∈ W) : ∀ i < 4, keyOf .rangeNow (3 * h + i) 0 ∈ W := by
  intro i hi
  obtain rfl | rfl | rfl | rfl : i = 0 ∨ i = 1 ∨ i = 2 ∨ i = 3 := by omega
  exacts [h0, h1, h2, h3]

/-! ### Triggers -/

/-- LINE_NUMBER takes the number of a position trigger. -/
def takeNumber (h : Nat) : Option Nat → Prog
  | some n => setNumber h n
  | none => .nop

/-- A dropped position trigger leaves a gap and is reported. -/
def dropPosition (h : Nat) : Option Nat → Prog
  | some n => .seq (modHead h fun r => { r with gap := true }) (headOnce h .rulingOverspeed h (u32 h) (u32 n))
  | none => .nop

/-- What a trigger does, by the state of the head. -/
theorem takeTrigger_eq (h : Nat) (pos : Option Nat) : takeTrigger h pos = .ask fun s =>
    if (s.head h).leaving || (s.lineKind h ≠ 0 && decide (s.rdN .calLines h ≤ (s.head h).started)) then .nop
    else if s.fenced h then when (s.armStands h) (.seq (takeNumber h pos) (absentTrigger h pos.isSome))
    else if s.headState' h = 2 then .seq (takeNumber h pos) (startLine h pos.isSome false)
    else if s.headState' h = 3 then
      all [ takeNumber h pos, modHead h (fun r => { r with pendAt := some (s.time.toNat, pos.isSome) }), headTo h hdPending ]
    else if s.headState' h = 4 then all [ takeNumber h pos, dropTrigger h 1, dropPosition h pos ]
    else .nop := by
  cases pos
  all_goals
    unfold takeTrigger
    congr 1
    funext s
    dsimp only [takeNumber, dropPosition]
    split
    · rfl
    · split
      · rfl
      · split
        · next h2 => rw [if_pos h2]
        · next h3 => rw [if_neg (by rw [h3]; decide), if_pos h3]
        · next h4 => rw [if_neg (by rw [h4]; decide), if_neg (by rw [h4]; decide), if_pos h4]
        · next h2 h3 h4 => rw [if_neg h2, if_neg h3, if_neg h4]

/-- What follows the start of a line: its channels and lanes, the watch converter, the phase outputs, the temperature, and the end of a reentry. -/
def lineFollowUp (h : Nat) (reentry badJoin : Bool) (n : Nat) (v : Int) : Prog := all
  [ channelsAtStart h, watchAtStart h, drivePhases h, tempAtStart h,
    when reentry (.seq (paceTo 1) (emit .paceResume (unitHead h) islMotion (u32 n))),
    when badJoin (emit .paceJoinFail (unitHead h) islMotion (u32 n) (i32 v)) ]

/-- What comes before the start of a line: the free value of its stamp, and the end of the line before it. -/
def lineOpening (h interval : Nat) : Prog := all [ .op .free, lineResume h, closeLanes h, settleLine h interval ]

/-- The record `x` of a head has begun a line numbered `n` after `r`. -/
structure Head.Begins (n : Nat) (r x : Head) : Prop where
  number : x.cur.map (·.number) = some n
  pendAt : x.pendAt = none
  next : x.next = r.next
  leaving : x.leaving = r.leaving

/-- The stages of a line start. -/
theorem startLine_run (h : Nat) (pos late : Bool) (s : State) : ∃ interval f reentry badJoin n v,
    (startLine h pos late).run s = (lineFollowUp h reentry badJoin n v).run ((headTo h hdPlaying).run ((nextNumber h).run
      ((modHead h f).run ((lineOpening h interval).run s)))) ∧ ∀ r : Head, r.Begins (s.rdN .lineNumber h) (f r) := by
  refine ⟨?interval, ?f, ?reentry, ?badJoin, ?n, ?v, ?run, ?begins⟩
  case run =>
    simp only [startLine, lineFollowUp, lineOpening, run_ask, all_cons, all_nil, run_seq, run_nop]
    rfl
  case begins => exact fun _ => ⟨rfl, rfl, rfl, rfl⟩

section
variable {h : Nat} {J : Head → Prop} {W : List Nat} {L : List Part} (hL : ∀ x ∈ lineParts, x ∈ L)
include hL

theorem lineParts_mem : (∀ x ∈ reporting, x ∈ L) ∧ .heads ∈ L ∧ .lineUnits ∈ L :=
  ⟨fun x hx => hL x (List.mem_append_right _ hx), hL _ (by simp [lineParts]), hL _ (by simp [lineParts])⟩

theorem lineOpening_inHead (hJ : LineClosed J) (k n : Nat) : InHead h J W L (lineOpening k n) := by
  obtain ⟨hr, hh, hu⟩ := lineParts_mem hL
  exact ⟨free_inHead hr, lineResume_inHead hJ hh k, closeLanes_inHead hr hJ hh hu k, settleLine_inHead hr hJ hh hu k n, trivial⟩

theorem lineFollowUp_inHead (hJ : LineClosed J) {k : Nat} (hk : ∀ i < 4, keyOf .rangeNow (3 * k + i) 0 ∈ W) (ht : keyOf .tempNow k 0 ∈ W)
    (hp : keyOf .paceState 0 0 ∈ W) (a b : Bool) (n : Nat) (v : Int) : InHead h J W L (lineFollowUp k a b n v) := by
  obtain ⟨hr, -, -⟩ := lineParts_mem hL
  have hm (x : Part) (hx : x ∈ lineParts) : x ∈ L := hL x hx
  refine ⟨channelsAtStart_inHead (hm _ (by simp [lineParts])) (hm _ (by simp [lineParts])) (hm _ (by simp [lineParts])) hk,
    watchAtStart_inHead (hm _ (by simp [lineParts])) k, drivePhases_inHead hJ (hm _ (by simp [lineParts])) k, tempAtStart_inHead ht, ?_, ?_, trivial⟩
  · exact (allUnder_when _ _).mpr fun _ => ⟨wrN_inHead hp _, emit_inHead hr (by decide) (by decide) _ _ _ _⟩
  · exact (allUnder_when _ _).mpr fun _ => emit_inHead hr (by decide) (by decide) _ _ _ _

theorem startLine_inHead (pos late : Bool) : InHead h Head.any (lineKeys h) L (startLine h pos late) := fun s _ => by
  obtain ⟨-, hh, -⟩ := lineParts_mem hL
  obtain ⟨hfree, hresume, hclose, hsettle, -⟩ := lineOpening_inHead (h := h) (W := lineKeys h) hL lineClosed_any h
    (match (s.head h).lastStart with | some t => (s.time.toNat - t) / 10 | none => s.rdN .lineDur h)
  exact ⟨hfree, hresume, hclose, hsettle, modHead_inHead_any hh h _, nextNumber_inHead lineClosed_any hh (by simp [lineKeys]),
    headTo_inHead (by simp [lineKeys]) (by simp [lineKeys]) _,
    lineFollowUp_inHead hL lineClosed_any (rangeNow_mem (by simp [lineKeys]) (by simp [lineKeys]) (by simp [lineKeys]) (by simp [lineKeys]))
      (by simp [lineKeys]) (by simp [lineKeys]) _ _ _ _⟩

theorem takeNumber_inHead (hJ : LineClosed J) {k : Nat} (hn : keyOf .lineNumber k 0 ∈ W) (pos : Option Nat) :
    InHead h J W L (takeNumber k pos) := by
  cases pos with
  | none => trivial
  | some n => exact setNumber_inHead hJ (lineParts_mem hL).2.1 hn n

theorem dropPosition_inHead (hJ : LineClosed J) (k : Nat) (pos : Option Nat) : InHead h J W L (dropPosition k pos) := by
  obtain ⟨hr, hh, -⟩ := lineParts_mem hL
  cases pos with
  | none => trivial
  | some n =>
    exact ⟨modHead_inHead hJ hh _ fun _ => ⟨rfl, rfl, rfl, rfl, id⟩,
      headOnce_inHead hr hJ hh (by decide) (by decide) _ _ _ _⟩

theorem absentLine_inHead (pos : Bool) : InHead h Head.any (lineKeys h) L (absentLine h pos) := fun _ _ => by
  obtain ⟨hr, hh, hu⟩ := lineParts_mem hL
  exact ⟨lineResume_inHead lineClosed_any hh h, closeLanes_inHead hr lineClosed_any hh hu h, tempAtStart_inHead (by simp [lineKeys]),
    enqueueLine_inHead lineClosed_any hh hu h _, free_inHead hr, modHead_inHead_any hh h _,
    nextNumber_inHead lineClosed_any hh (by simp [lineKeys]), trivial⟩

theorem disarm_inHead_lineKeys (st : Nat) : InHead h Head.any (lineKeys h) L (disarm h st) := by
  obtain ⟨hr, hh, hu⟩ := lineParts_mem hL
  exact disarm_inHead hr hh hu (by simp [lineKeys]) (by simp [lineKeys]) st

theorem enterDone_inHead : InHead h Head.any (lineKeys h) L (enterDone h) :=
  ⟨disarm_inHead_lineKeys hL hdDone, emit_inHead (lineParts_mem hL).1 (by decide) (by decide) _ _ _ _⟩

theorem absentTrigger_inHead (pos : Bool) : InHead h Head.any (lineKeys h) L (absentTrigger h pos) := by
  simp [absentTrigger, absentLine_inHead hL, enterDone_inHead hL]

theorem takeTrigger_inHead (pos : Option Nat) : InHead h Head.any (lineKeys h) L (takeTrigger h pos) := by
  obtain ⟨hr, hh, -⟩ := lineParts_mem hL
  have hnum : InHead h Head.any (lineKeys h) L (takeNumber h pos) := takeNumber_inHead hL lineClosed_any (by simp [lineKeys]) pos
  rw [takeTrigger_eq]
  simp only [allUnder_ask, allUnder_ite, allUnder_when, allUnder_seq, allUnder_all, List.forall_mem_cons]
  exact fun s _ => ⟨fun _ => trivial, fun _ => ⟨fun _ _ => ⟨hnum, absentTrigger_inHead hL _⟩, fun _ => ⟨fun _ => ⟨hnum, startLine_inHead hL _ _⟩,
    fun _ => ⟨fun _ => ⟨hnum, modHead_inHead_any hh h _, headTo_inHead (by simp [lineKeys]) (by simp [lineKeys]) _, nofun⟩,
    fun _ => ⟨fun _ => ⟨hnum, dropTrigger_inHead hr lineClosed_any hh (by simp [lineKeys]) _, dropPosition_inHead hL lineClosed_any h pos, nofun⟩,
    fun _ => trivial⟩⟩⟩⟩⟩

theorem rulingCross_inHead (first count : Nat) : InHead h Head.any (lineKeys h) L (rulingCross h first count) := by
  obtain ⟨hr, hh, -⟩ := lineParts_mem hL
  have htake (n : Nat) : InHead h Head.any (lineKeys h) L (takeTrigger h (some n)) := takeTrigger_inHead hL _
  refine ⟨modHead_inHead_any hh h _, (allUnder_each _ _).mpr fun _ _ => htake _, (allUnder_when _ _).mpr fun _ s _ => ?_, trivial⟩
  simp only [allUnder_ite, allUnder_each, allUnder_when, allUnder_seq]
  exact ⟨fun _ _ _ => htake _, fun _ _ => ⟨setNumber_inHead lineClosed_any hh (by simp [lineKeys]) _,
    dropTrigger_inHead hr lineClosed_any hh (by simp [lineKeys]) _⟩⟩

end

/-! ### The rows of the lines -/

theorem lineTrigger_frame (h : Fin 4) (src : TrigFrom) {s t : State} (hx : exec (.lineTrigger h src) s = .next t) :
    Frame (lineKeys h) lineParts s t := by
  obtain rfl := Host.Outcome.next.inj hx
  refine InHead.frame (h := h) ?_ s
  simp only [Prog.live, allUnder_ask, allUnder_when]
  exact fun _ _ _ _ _ _ => takeTrigger_inHead (fun _ => id) none

theorem rulingPositionArrival_frame (h : Fin 4) (f : Fin 256) {s t : State} (hx : exec (.rulingPositionArrival h f) s = .next t) :
    Frame (lineKeys h) (.axes :: lineParts) s t := by
  obtain rfl := Host.Outcome.next.inj hx
  have hL : ∀ x ∈ lineParts, x ∈ Part.axes :: lineParts := fun _ hx => .tail _ hx
  refine InHead.frame (h := h) ?_ s
  simp only [Prog.live, allUnder_ask, allUnder_when, allUnder_seq, allUnder_ite]
  exact fun _ _ _ _ _ _ => ⟨modHead_inHead_any (by simp [lineParts]) h _, fun _ => ⟨fun _ _ => ⟨modAxis_inHead (.head _) _ _,
    emit_inHead (lineParts_mem hL).1 (by decide) (by decide) _ _ _ _⟩, fun _ _ => rulingCross_inHead hL _ _⟩⟩

theorem lineEnd_frame (h : Fin 4) {s t : State} (hx : exec (.lineEnd h) s = .next t) : Frame (lineKeys h) lineParts s t := by
  obtain rfl := Host.Outcome.next.inj hx
  have hL : ∀ x ∈ lineParts, x ∈ lineParts := fun _ hx => hx
  obtain ⟨hr, hh, hu⟩ := lineParts_mem hL
  have harm : InHead h Head.any (lineKeys h) lineParts (headTo h hdArmed) := headTo_inHead (by simp [lineKeys]) (by simp [lineKeys]) _
  refine InHead.frame (h := h) ?_ s
  simp only [inIsland, allUnder_ask, allUnder_when]
  intro _ _ _ s _
  split
  · trivial
  · refine ⟨modHead_inHead_any hh h _, drivePhases_inHead lineClosed_any hh h,
      (allUnder_when _ _).mpr fun _ => shortEvent_inHead hr lineClosed_any hh h _, enqueueLine_inHead lineClosed_any hh hu h _, ?_, trivial⟩
    simp only [allUnder_ite]
    refine ⟨fun _ => disarm_inHead_lineKeys hL _, fun _ => ⟨fun _ => enterDone_inHead hL, fun _ => ⟨fun _ => harm, fun _ =>
      ⟨fun _ => startLine_inHead hL _ _, fun _ => ?_⟩⟩⟩⟩
    split
    · exact startLine_inHead hL _ _
    · exact harm

/-! ### The rows of the lanes -/

section
variable {h : Nat} {W : List Nat} {L : List Part}

theorem modLine_inHead (hh : .heads ∈ L) (hu : .lineUnits ∈ L) (k : Nat) (f : LineCap → LineCap) : InHead h Head.any W L (modLine k f) := by
  intro s _
  simp only [allUnder_ite]
  exact ⟨fun _ => modHead_inHead_any hh k _, fun _ => modLineUnit_inHead hu k _⟩

theorem clipSeen_inHead (hr : ∀ x ∈ reporting, x ∈ L) (hc : .chans ∈ L) {k n : Nat} (hn : keyOf .clipCount n 0 ∈ W) :
    InHead h Head.any W L (clipSeen k n) := by
  refine ⟨countUp_inHead hn, fun s _ => ?_⟩
  simp only [allUnder_when, allUnder_seq]
  exact fun _ => ⟨modChan_inHead hc n _, emit_inHead hr (by decide) (by decide) _ _ _ _⟩

theorem takePixel_inHead (hr : ∀ x ∈ reporting, x ∈ L) (hh : .heads ∈ L) (hu : .lineUnits ∈ L) (k : Nat) (x : Sample) :
    InHead h Head.any W L (takePixel k x) := by
  intro s _
  simp only [allUnder_when]
  refine fun _ => ⟨modLine_inHead hh hu k _, modHead_inHead_any hh k _,
    (allUnder_when _ _).mpr fun _ => headOnce_inHead hr lineClosed_any hh (by decide) (by decide) _ _ _ _, fun s _ => ?_, trivial⟩
  dsimp only
  split
  · exact (allUnder_when _ _).mpr fun _ => closeLanes_inHead hr lineClosed_any hh hu k
  · trivial

end

/-- A row of the lanes runs its program where the lanes of the head are listened to. -/
theorem lanesOf_frame {W : List Nat} {L : List Part} {h : Nat} {k : State → Prog} {s : State} (hk : InHead h Head.any W L (k s)) :
    Frame W L s ((lanesOf h (.ask k)).run s) := by
  simp only [lanesOf, inIsland, run_ask, run_when]
  split
  · split
    · exact hk.frame s
    · exact .refl _ _ s
  · exact .refl _ _ s

theorem lanePixelWord_frame (h : Fin 4) (l : Fin 8) (w : BitVec 14) {s t : State} (hx : exec (.lanePixelWord h l w) s = .next t)
    (hc : ∀ c, (s.lane h).colour = some c → c < 3) :
    Frame [keyOf .clipCount (3 * h) 0, keyOf .clipCount (3 * h + 1) 0, keyOf .clipCount (3 * h + 2) 0]
      ([.chans, .heads, .lanes, .lineUnits] ++ reporting) s t := by
  obtain rfl := Host.Outcome.next.inj hx
  have hr : ∀ x ∈ reporting, x ∈ [Part.chans, .heads, .lanes, .lineUnits] ++ reporting := fun _ hx => List.mem_append_right _ hx
  have hpix (x : Sample) : InHead h Head.any [keyOf .clipCount (3 * h) 0, keyOf .clipCount (3 * h + 1) 0, keyOf .clipCount (3 * h + 2) 0]
      ([.chans, .heads, .lanes, .lineUnits] ++ reporting) (takePixel h x) := takePixel_inHead hr (by simp) (by simp) h x
  refine lanesOf_frame ?_
  dsimp only
  split
  · trivial
  · next c hcol =>
    have hclip : keyOf .clipCount (3 * h + c) 0 ∈
        [keyOf .clipCount (3 * h) 0, keyOf .clipCount (3 * h + 1) 0, keyOf .clipCount (3 * h + 2) 0] := by
      obtain rfl | rfl | rfl : c = 0 ∨ c = 1 ∨ c = 2 := by have := hc c hcol; omega
      all_goals simp
    simp only [allUnder_ite, allUnder_seq, allUnder_when]
    exact fun _ => ⟨modLane_inHead (by simp) h _, fun _ => hpix _, fun _ => ⟨hpix _, fun _ => clipSeen_inHead hr (by simp) hclip⟩⟩

theorem laneStartOfLine_frame (h : Fin 4) (words : List (BitVec 14)) (skews : List Int) {s t : State}
    (hx : exec (.laneStartOfLine h words skews) s = .next t) : Frame [keyOf .laneState h 0] (.lanes :: reporting) s t := by
  obtain rfl := Host.Outcome.next.inj hx
  have hr : ∀ x ∈ reporting, x ∈ Part.lanes :: reporting := fun _ hx => .tail _ hx
  refine lanesOf_frame ?_
  dsimp only
  split
  · exact ⟨modLane_inHead (.head _) h _, (allUnder_each _ _).mpr fun _ _ _ _ =>
      ⟨wrN_inHead (.head _) _, emit_inHead hr (by decide) (by decide) _ _ _ _⟩, trivial⟩
  · trivial

theorem laneUnlistedCode_frame (h : Fin 4) (l : Fin 8) (words : List (BitVec 14)) {s t : State}
    (hx : exec (.laneUnlistedCode h l words) s = .next t) : Frame [keyOf .syncErrors h 0] (.heads :: .lanes :: reporting) s t := by
  obtain rfl := Host.Outcome.next.inj hx
  have hr : ∀ x ∈ reporting, x ∈ Part.heads :: .lanes :: reporting := fun _ hx => .tail _ (.tail _ hx)
  exact lanesOf_frame ((allUnder_when _ _).mpr fun _ => ⟨countUp_inHead (.head _), modLane_inHead (.tail _ (.head _)) h _,
    headOnce_inHead hr lineClosed_any (.head _) (by decide) (by decide) _ _ _ _, trivial⟩)

theorem laneAlignmentLost_frame (h : Fin 4) (l : Fin 8) {s t : State} (hx : exec (.laneAlignmentLost h l) s = .next t) :
    Frame [keyOf .laneState h 0] (.lanes :: reporting) s t := by
  obtain rfl := Host.Outcome.next.inj hx
  have hr : ∀ x ∈ reporting, x ∈ Part.lanes :: reporting := fun _ hx => .tail _ hx
  exact lanesOf_frame ((allUnder_when _ _).mpr fun _ => ⟨wrN_inHead (.head _) _, modLane_inHead (.head _) h _,
    emit_inHead hr (by decide) (by decide) _ _ _ _, trivial⟩)

end Sys2Proof.Machine
end

section
/-! PROOF. O23: the rows of a head leave the rest alone. -/
namespace Sys2Proof.Proofs

open Sys2Proof.Machine

/-- Settles O23: every update of a row stays within the entries and the parts of its head. -/
theorem headRowsKeepTheirFrame : Obligations.HeadRowsKeepTheirFrame := by
  intro h s t
  refine ⟨fun src hx => lineTrigger_frame h src hx, fun f hx => rulingPositionArrival_frame h f hx, fun hx => lineEnd_frame h hx,
    fun l w hx => ?_, fun w k hx => laneStartOfLine_frame h w k hx, fun l w hx => laneUnlistedCode_frame h l w hx,
    fun l hx => laneAlignmentLost_frame h l hx⟩
  by_cases hc : ∃ c, (s.lane h).colour = some c ∧ 3 ≤ c
  · exact .inr hc
  · exact .inl (lanePixelWord_frame h l w hx fun c g => Nat.lt_of_not_le fun g3 => hc ⟨c, g, g3⟩)

end Sys2Proof.Proofs
end

section
/-! SUPPORT. The state and the line of a head after a line start and after a trigger. -/
namespace Sys2Proof.Machine

-- One proof at a time: a thread for each would need more memory than a check has.
set_option Elab.async false

open Prog

/-! ### The state of a head -/

theorem epoch_ne_headState (h : Fin 4) : keyOf .epoch 0 (unitHead h - 1) ≠ keyOf .headState h 0 := by
  revert h; decide

theorem headTo_rd (h : Fin 4) {st : Nat} (hst : st < 4294967296) (s : State) : ((headTo h st).run s).rdN .headState h = st := by
  have hb : (bump (unitHead h)).All (Op.leavesEntry (keyOf .headState h 0)) := fun _ => epoch_ne_headState h
  simp only [headTo, run_ask, run_when, decide_eq_true_eq]
  split
  · rw [run_seq, State.rdN, Prog.run_rd ((all_when _ _ _).mpr fun _ => hb), run_wrN, State.rd_put, toNat_u32 hst]
  · next he => exact Decidable.not_not.mp he

theorem rd_of_rdN {s : State} {n : Name} {j i : Nat} {v : U32} (h : s.rdN n j i = v.toNat) : s.rd n j i = v := BitVec.eq_of_toNat_eq h

/-- A change between ARMED, PLAYING and PENDING leaves the epoch. -/
theorem headTo_run_armed {h st : Nat} {s : State} (hs : s.headState' h ∈ [2, 3, 4]) (ht : st ∈ [2, 3, 4]) (hne : s.headState' h ≠ st) :
    (headTo h st).run s = (Op.put .headState h 0 (u32 st)).apply s := by
  simp only [headTo, run_ask, hs, ht, hne, ne_eq, not_false_eq_true, decide_true, Bool.and_self, Bool.not_true, when_true, when_false, run_seq,
    run_nop, run_wrN]

/-! ### The start of a line -/

theorem nextNumber_rd (h : Nat) (s : State) : ((nextNumber h).run s).rd .lineNumber h = s.rd .lineNumber h + 1 := by
  have hrun : ((nextNumber h).run s).rd .lineNumber h = u32 ((s.rdN .lineNumber h + 1) % 4294967296) := State.rd_put ..
  rw [hrun]
  apply BitVec.eq_of_toNat_eq
  rw [BitVec.toNat_add, u32, BitVec.toNat_ofNat]
  simp

theorem setNumber_rdN (h n : Nat) (hn : n < 4294967296) (s : State) : ((setNumber h n).run s).rdN .lineNumber h = n := by
  have hleaves : (when (n ≠ s.rdN .lineNumber h) (modHead h fun r => { r with wrapped := decide (n < s.rdN .lineNumber h) })).All
      (Op.leavesEntry (keyOf .lineNumber h 0)) := (all_when _ _ _).mpr fun _ _ => trivial
  show (State.rd (Prog.run (when _ _) _) .lineNumber h 0).toNat = n
  rw [Prog.run_rd hleaves, run_wrN, State.rd_put, toNat_u32 hn]

/-- The entries that follow the start of a line. -/
def followKeys (h : Nat) : List Nat :=
  [keyOf .rangeNow (3 * h) 0, keyOf .rangeNow (3 * h + 1) 0, keyOf .rangeNow (3 * h + 2) 0, keyOf .rangeNow (3 * h + 3) 0, keyOf .tempNow h 0,
    keyOf .paceState 0 0]

theorem followKeys_apart (h : Fin 4) : keyOf .headState h 0 ∉ followKeys h ∧ keyOf .lineNumber h 0 ∉ followKeys h
    ∧ keyOf .lineNumber h 0 ∉ [keyOf .headState h 0, epochKey (unitHead h)] := by
  revert h; decide

theorem lineClosed_begins (n : Nat) (r : Head) : LineClosed (r.Begins n) := fun _ _ h g =>
  ⟨by rw [h.cur, g.number], h.pendAt.trans g.pendAt, h.next.trans g.next, h.leaving.trans g.leaving⟩

/-- A line has started in head `h`: it plays, has the number that was next, and the next number is one higher. -/
structure State.LineStarts (h : Nat) (s t : State) : Prop where
  state : t.rd .headState h = 3
  stepped : t.rd .lineNumber h = s.rd .lineNumber h + 1
  begins : (s.head h).Begins (s.rdN .lineNumber h) (t.head h)

theorem startLine_starts (h : Fin 4) (pos late : Bool) (s : State) : s.LineStarts h ((startLine h pos late).run s) := by
  obtain ⟨interval, f, a, b, n, v, hrun, hf⟩ := startLine_run h pos late s
  have hL : ∀ x ∈ lineParts, x ∈ lineParts := fun _ hx => hx
  obtain ⟨-, hh, -⟩ := lineParts_mem hL
  rw [hrun]
  obtain ⟨ho, hline⟩ := (lineOpening_inHead (W := []) hL (lineClosed_sameLine (s.head h)) h interval).sameLine
  generalize (lineOpening h interval).run s = u at ho hline
  have hbegin : (s.head h).Begins (s.rdN .lineNumber h) (((modHead h f).run u).head h) := by
    rw [modHead_head]
    have hu := hf (u.head h)
    exact ⟨hu.number, hu.pendAt, hu.next.trans hline.next, hu.leaving.trans hline.leaving⟩
  have hJ := lineClosed_begins (s.rdN .lineNumber h) (s.head h)
  obtain ⟨hs, hn, hn'⟩ := followKeys_apart h
  have hnum := nextNumber_inHead (h := h) (W := [keyOf .lineNumber h 0]) hJ hh (k := h) (.head _)
  have hto := headTo_inHead (h := h) (J := (s.head h).Begins (s.rdN .lineNumber h)) (W := [keyOf .headState h 0, epochKey (unitHead h)])
    (L := lineParts) (k := h) (.head _) (.tail _ (.head _)) hdPlaying
  have hfol := lineFollowUp_inHead (h := h) (W := followKeys h) hL hJ (k := h)
    (rangeNow_mem (by simp [followKeys]) (by simp [followKeys]) (by simp [followKeys]) (by simp [followKeys])) (by simp [followKeys])
    (by simp [followKeys]) a b n v
  obtain ⟨-, h1⟩ := hnum.run hbegin
  obtain ⟨f2, h2⟩ := hto.run h1
  obtain ⟨f3, h3⟩ := hfol.run h2
  refine ⟨?_, ?_, h3⟩
  · rw [f3.1 _ _ _ hs]
    exact rd_of_rdN (headTo_rd h (by decide) _)
  · rw [f3.1 _ _ _ hn, f2.1 _ _ _ hn', nextNumber_rd, show ((modHead h f).run u).rd .lineNumber h = u.rd .lineNumber h from rfl,
      ho.1 _ _ _ List.not_mem_nil]

/-! ### Triggers -/

/-- A head in service outside a calibration run, from which the mode is not being left. -/
structure State.Hears (s : State) (h : Nat) : Prop where
  serving : s.fenced h = false
  staying : (s.head h).leaving = false
  scanning : s.lineKind h = 0

theorem lineKind_congr {s t : State} {h : Nat} (hc : t.rd .calState h = s.rd .calState h) : t.lineKind h = s.lineKind h := by
  simp only [State.lineKind, State.rdN, hc]

theorem State.Hears.frame {s t : State} {h : Nat} {W : List Nat} {L : List Part} (hs : s.Hears h) (hf : Frame W L s t) (hL : .islands ∉ L)
    (hW : keyOf .calState h 0 ∉ W) (hl : (t.head h).leaving = (s.head h).leaving) : t.Hears h :=
  ⟨(hf.fenced hL h).trans hs.serving, hl.trans hs.staying, (lineKind_congr (hf.1 _ _ _ hW)).trans hs.scanning⟩

section
variable {h : Nat} {s : State} (hs : s.Hears h) (pos : Option Nat)
include hs

theorem takeTrigger_run_armed (hst : s.rdN .headState h = 2) :
    (takeTrigger h pos).run s = (startLine h pos.isSome false).run ((takeNumber h pos).run s) := by
  simp [takeTrigger_eq, hs.serving, hs.staying, hs.scanning, State.headState', hst]

theorem takeTrigger_run_playing (hst : s.rdN .headState h = 3) : (takeTrigger h pos).run s =
    (headTo h hdPending).run ((modHead h fun r => { r with pendAt := some (s.time.toNat, pos.isSome) }).run ((takeNumber h pos).run s)) := by
  simp [takeTrigger_eq, hs.serving, hs.staying, hs.scanning, State.headState', hst]

theorem takeTrigger_run_pending (hst : s.rdN .headState h = 4) :
    (takeTrigger h pos).run s = (dropPosition h pos).run ((dropTrigger h 1).run ((takeNumber h pos).run s)) := by
  simp [takeTrigger_eq, hs.serving, hs.staying, hs.scanning, State.headState', hst]

end

/-- A trigger that has no number starts the next line of an armed head. -/
theorem trigger_starts {h : Fin 4} {s : State} (hs : s.Hears h) (hst : s.rdN .headState h = 2) : s.LineStarts h ((takeTrigger h none).run s) := by
  rw [takeTrigger_run_armed hs none hst]
  exact startLine_starts h false false s

theorem trigger_pends {h : Fin 4} {s : State} (hs : s.Hears h) (hst : s.rdN .headState h = 3) :
    ((takeTrigger h none).run s).rd .headState h = 4 ∧ (((takeTrigger h none).run s).head h).pendAt = some (s.time.toNat, false)
      ∧ Frame [keyOf .headState h 0] [.heads] s ((takeTrigger h none).run s) := by
  have hrun : (takeTrigger h none).run s = (Op.put .headState h 0 (u32 hdPending)).apply
      ((modHead h fun r => { r with pendAt := some (s.time.toNat, false) }).run s) := by
    have hold : ((modHead h fun r => { r with pendAt := some (s.time.toNat, false) }).run s).headState' h = 3 := hst
    rw [takeTrigger_run_playing hs none hst, takeNumber, run_nop, Option.isSome_none,
      headTo_run_armed (by rw [hold]; decide) (by decide) (by rw [hold]; decide)]
  rw [hrun]
  refine ⟨State.rd_put .., ?_, ((modHead_frame h _ s).mono (by simp) fun _ hx => hx).trans (put_frame (.head _) _ _)⟩
  rw [State.head_frame (by simp), modHead_head]

theorem dropTrigger_rdN {h : Fin 4} (n : Nat) (s : State) :
    ((dropTrigger h n).run s).rdN .trigDropped h = min (s.rdN .trigDropped h + n) 4294967295 := by
  have hone : InHead h Head.any [] lineParts (headOnce h .trigDropped h (u32 h) (s.rd .lineNumber h)) :=
    headOnce_inHead (lineParts_mem fun _ hx => hx).1 lineClosed_any (lineParts_mem fun _ hx => hx).2.1 (by decide) (by decide) _ _ _ _
  show (State.rd (Prog.run (headOnce _ _ _ _ _) _) _ _ _).toNat = _
  rw [(hone.frame _).1 _ _ _ List.not_mem_nil, run_wrN, State.rd_put, toNat_u32 (by omega)]

theorem trigDropped_ne_headState (h : Fin 4) : keyOf .headState h 0 ∉ [keyOf .trigDropped h 0] := by revert h; decide

theorem trigger_drops {h : Fin 4} {s : State} (hs : s.Hears h) (hst : s.rdN .headState h = 4) :
    ((takeTrigger h none).run s).rdN .headState h = 4
      ∧ ((takeTrigger h none).run s).rdN .trigDropped h = min (s.rdN .trigDropped h + 1) 4294967295 := by
  obtain ⟨hr, hh, -⟩ := lineParts_mem (L := lineParts) fun _ hx => hx
  have hd := (dropTrigger_inHead (h := h) (W := [keyOf .trigDropped h 0]) hr lineClosed_any hh (k := h) (.head _) 1).frame s
  rw [takeTrigger_run_pending hs none hst]
  exact ⟨(congrArg BitVec.toNat (hd.1 _ _ _ (trigDropped_ne_headState h))).trans hst, dropTrigger_rdN 1 s⟩

end Sys2Proof.Machine
end

section
/-! SUPPORT. The rows of triggers and of position arrivals. -/
namespace Sys2Proof.Machine

-- One proof at a time: a thread for each would need more memory than a check has.
set_option Elab.async false

open Prog

/-- LINE_TRIGGER from what the head listens to is a trigger without a number. -/
theorem lineTrigger_run {h : Fin 4} {src : TrigFrom} {s : State} (hl : s.live = true) (hf : s.fenced islTimer = false)
    (hsrc : (∃ l : Fin 16, src = .bus l ∧ s.rdN .trigSrc h = 1 ∧ s.rdN .trigBusLine h = l) ∨ (src = .frameSync ∧ s.rdN .trigSrc h = 3)) :
    exec (.lineTrigger h src) s = .next ((takeTrigger h none).run s) := by
  show execLineTrigger h src s = _
  rcases hsrc with ⟨l, rfl, h1, h2⟩ | ⟨rfl, h3⟩
  · simp [execLineTrigger, Prog.live, hl, hf, h1, h2]
  · simp [execLineTrigger, Prog.live, hl, hf, h3]

/-! ### Position triggers -/

/-- The head plays or has pending the line that an arrival has started: its number, the next position line, and the head's state. -/
structure State.Plays (s : State) (h n next st : Nat) : Prop where
  hears : s.Hears h
  number : (s.head h).cur.map (·.number) = some n
  next : (s.head h).next = next
  state : s.rdN .headState h = st

theorem State.Plays.frame {s t : State} {h n next st : Nat} {W : List Nat} {L : List Part} (hs : s.Plays h n next st)
    (hf : Frame W L s t ∧ (s.head h).SameLine (t.head h)) (hL : .islands ∉ L) (hc : keyOf .calState h 0 ∉ W) (hst : keyOf .headState h 0 ∉ W) :
    t.Plays h n next st :=
  ⟨hs.hears.frame hf.1 hL hc hf.2.leaving, by rw [hf.2.cur, hs.number], hf.2.next.trans hs.next,
    (congrArg BitVec.toNat (hf.1.1 _ _ _ hst)).trans hs.state⟩

theorem calState_apart (h : Fin 4) : keyOf .calState h 0 ∉ lineKeys h ∧ keyOf .headState h 0 ∉ [keyOf .lineNumber h 0, keyOf .trigDropped h 0]
    ∧ keyOf .calState h 0 ∉ [keyOf .lineNumber h 0, keyOf .trigDropped h 0] ∧ keyOf .calState h 0 ∉ [keyOf .headState h 0] := by
  revert h; decide

/-- The numbers and the counter that later triggers move are beside the line that plays. -/
theorem State.Plays.beside {h : Fin 4} {s : State} {n next st : Nat} {p : Prog} (hs : s.Plays h n next st)
    (hp : InHead h (s.head h).SameLine [keyOf .lineNumber h 0, keyOf .trigDropped h 0] lineParts p) : (p.run s).Plays h n next st :=
  have ⟨_, hstate, hcal, _⟩ := calState_apart h
  hs.frame hp.sameLine (by decide) hcal hstate

/-- The first line that an arrival crosses starts. -/
theorem takeTrigger_plays {h : Fin 4} {s : State} (hs : s.Hears h) (hst : s.rdN .headState h = 2) {n : Nat} (hn : n < 4294967296) :
    ((takeTrigger h (some n)).run s).Plays h n (s.head h).next 3 := by
  have hL : ∀ x ∈ lineParts, x ∈ lineParts := fun _ hx => hx
  obtain ⟨hcal, -, -, -⟩ := calState_apart h
  have hnum := setNumber_inHead (h := h) (W := lineKeys h) (lineClosed_sameLine (s.head h)) (lineParts_mem hL).2.1 (k := h)
    (by simp [lineKeys]) n
  obtain ⟨hf, hline⟩ := hnum.sameLine
  have hrd := setNumber_rdN h n hn s
  rw [takeTrigger_run_armed hs (some n) hst]
  show State.Plays ((startLine h _ false).run ((setNumber h n).run s)) h n _ 3
  generalize (setNumber h n).run s = u at hf hline hrd
  obtain ⟨hstate, -, hnumber, -, hnext, hleave⟩ := startLine_starts h (some n).isSome false u
  have hstart := (startLine_inHead (h := h) hL (some n).isSome false).frame u
  have hu : u.Hears h := hs.frame hf (by decide) hcal hline.leaving
  exact ⟨hu.frame hstart (by decide) hcal hleave, by rw [hnumber, hrd], hnext.trans hline.next, congrArg BitVec.toNat hstate⟩

/-- What a head does with a trigger while it plays a line leaves the line alone and the head with a line pending. -/
theorem State.Plays.again {h : Fin 4} {s : State} {n next st : Nat} (hs : s.Plays h n next st) (hst : st = 3 ∨ st = 4) (pos : Option Nat) :
    ((takeTrigger h pos).run s).Plays h n next 4 := by
  have hL : ∀ x ∈ lineParts, x ∈ lineParts := fun _ hx => hx
  obtain ⟨hr, hh, -⟩ := lineParts_mem hL
  obtain ⟨-, -, -, hcal⟩ := calState_apart h
  have hJ := lineClosed_sameLine (s.head h)
  have hnum := takeNumber_inHead (h := h) (W := [keyOf .lineNumber h 0, keyOf .trigDropped h 0]) hL hJ (k := h) (.head _) pos
  rcases hst with rfl | rfl
  · have hu := hs.beside hnum
    rw [takeTrigger_run_playing hs.hears pos hs.state]
    generalize (takeNumber h pos).run s = u at hu
    have hold : ((modHead h fun r => { r with pendAt := some (s.time.toNat, pos.isSome) }).run u).headState' h = 3 := hu.state
    rw [headTo_run_armed (by rw [hold]; decide) (by decide) (by rw [hold]; decide)]
    have hf : Frame [keyOf .headState h 0] [.heads] u ((Op.put .headState h 0 (u32 hdPending)).apply
        ((modHead h fun r => { r with pendAt := some (s.time.toNat, pos.isSome) }).run u)) :=
      ((modHead_frame h _ u).mono (by simp) fun _ hx => hx).trans (put_frame (.head _) _ _)
    have hhead : ((Op.put .headState h 0 (u32 hdPending)).apply
        ((modHead h fun r => { r with pendAt := some (s.time.toNat, pos.isSome) }).run u)).head h =
        { u.head h with pendAt := some (s.time.toNat, pos.isSome) } := by
      rw [State.head_frame (by simp), modHead_head]
    exact ⟨hu.hears.frame hf (by decide) hcal (by rw [hhead]), by rw [hhead]; exact hu.number, by rw [hhead]; exact hu.next,
      congrArg BitVec.toNat (State.rd_put ..)⟩
  · rw [takeTrigger_run_pending hs.hears pos hs.state]
    exact hs.beside (p := all [takeNumber h pos, dropTrigger h 1, dropPosition h pos])
      ⟨hnum, dropTrigger_inHead hr hJ hh (.tail _ (.head _)) 1, dropPosition_inHead hL hJ h pos, trivial⟩

theorem State.Plays.each_again {h : Fin 4} {s : State} {n next : Nat} (hs : s.Plays h n next 3) (f : Nat → Option Nat) (l : List Nat) :
    ((each l fun k => takeTrigger h (f k)).run s).Plays h n next (if l = [] then 3 else 4) := by
  cases l with
  | nil => exact hs
  | cons k l =>
    rw [if_neg (by simp), each_cons, run_seq]
    exact Prog.each_keeps (P := fun u => u.Plays h n next 4) (fun _ _ _ hu => hu.again (.inr rfl) _) (hs.again (.inl rfl) _)

/-- The lines that an arrival crosses: the first starts and a second is pending, whatever follows. -/
theorem rulingCross_plays {h : Fin 4} {s : State} (hs : s.Hears h) (hst : s.rdN .headState h = 2) (first count : Nat) (hc : 0 < count) :
    ((rulingCross h first count).run s).Plays h (first % 4294967296) (first + count) (if count = 1 then 3 else 4) := by
  have hL : ∀ x ∈ lineParts, x ∈ lineParts := fun _ hx => hx
  obtain ⟨hr, hh, -⟩ := lineParts_mem hL
  obtain ⟨m, hm⟩ : ∃ m, min count 3 = m + 1 := ⟨min count 3 - 1, by omega⟩
  simp only [rulingCross, all_cons, all_nil, run_seq, run_nop, hm, List.range_succ_eq_map, each_cons]
  have hu := modHead_head h (fun r => { r with next := first + count }) s
  have hf := modHead_frame h (fun r => { r with next := first + count }) s
  have hst' : ((modHead h fun r => { r with next := first + count }).run s).rdN .headState h = 2 := hst
  have hs' := hs.frame hf (by decide) List.not_mem_nil (by rw [hu])
  generalize (modHead h fun r => { r with next := first + count }).run s = u at hu hs' hst'
  have h1 := takeTrigger_plays hs' hst' (Nat.mod_lt (first + 0) (show 0 < 4294967296 by decide))
  have h2 := h1.each_again (fun k => some ((first + k) % 4294967296)) (List.map Nat.succ (List.range m))
  rw [hu] at h2
  generalize (each _ _).run _ = v at h2 ⊢
  by_cases h3 : 3 < count
  · rw [if_neg (by simp; omega)] at h2
    rw [decide_eq_true h3, when_true, run_ask, if_neg (by rw [h2.hears.serving]; simp), run_when,
      if_pos (by rw [State.headState', h2.state]; decide), if_neg (by omega)]
    have hJ := lineClosed_sameLine (v.head h)
    exact h2.beside (p := .seq _ _) ⟨setNumber_inHead hJ hh (.head _) _, dropTrigger_inHead hr hJ hh (.tail _ (.head _)) _⟩
  · rw [decide_eq_false h3, when_false, run_nop]
    have hiff : List.map Nat.succ (List.range m) = [] ↔ count = 1 := by simp; omega
    simpa only [hiff, Nat.add_zero] using h2

/-- RULING_POSITION_ARRIVAL past the next compare point, on an armed head. -/
theorem rulingPositionArrival_run {h : Fin 4} {f : Fin 256} {s : State} (hl : s.live = true) (hm : s.fenced islMotion = false)
    (hs : s.Hears h) (hst : s.rdN .headState h = 2) (hsrc : s.rdN .trigSrc h = 2)
    (ha : s.encAxis (s.rdN .rulingAxis h) = true ∨ (s.axis (s.rdN .rulingAxis h)).readmitted = false)
    (hp : (256 * (s.head h).next : Nat) ≤ s.rulingAhead h (s.rulingL h f)) :
    exec (.rulingPositionArrival h f) s = .next ((rulingCross h (s.head h).next
      ((s.rulingAhead h (s.rulingL h f) / 256).toNat - (s.head h).next + 1)).run ((modHead h fun r => { r with lastL := s.rulingL h f }).run s)) := by
  have hax : (!s.encAxis (s.rdN .rulingAxis h) && (s.axis (s.rdN .rulingAxis h)).readmitted) = false := by
    rcases ha with ha | ha <;> simp [ha]
  have harm : s.armedNow h = true := by simp [State.armedNow, State.headState', hst, hdArmed]
  show execRulingPositionArrival h f s = _
  simp only [execRulingPositionArrival, Prog.live, done_eq, run_ask, hl, when_true, hm, Bool.not_false, run_seq, hsrc, hs.scanning, harm, hs.staying,
    decide_true, Bool.and_self, hax, Bool.false_eq_true, if_false, decide_eq_true hp]

/-! ### The end of a line -/

/-- What follows the end of a line outside a calibration run: the pending line, or ARMED. -/
def afterLine (h : Nat) (s : State) : Prog :=
  match (s.head h).pendAt with
  | some (t, pos) => startLine h pos (decide (t + 10 < s.time.toNat))
  | none => headTo h hdArmed

/-- The stages of the end of a line: the record of the head gives the line up, which goes to LINE, and then the head goes on. -/
theorem lineEnd_run {h : Fin 4} {s : State} {c : LineCap} (hr : Running s h) (hs : s.Hears h) (hc : (s.head h).cur = some c)
    (hfull : s.scanFull h = false) : ∃ f b d c',
    exec (.lineEnd h) s = .next ((afterLine h s).run ((enqueueLine h c').run ((when b (shortEvent h d)).run ((drivePhases h).run
      ((modHead h f).run s)))))
    ∧ (∀ r : Head, (f r).cur = none ∧ (f r).skipping = r.skipping) ∧ c'.number = c.number ∧ c'.pix = c.pix := by
  refine ⟨?f, ?b, ?d, ?c', ?run, ?cur, ?num, ?pix⟩
  case run =>
    show execLineEnd h s = _
    simp only [execLineEnd, inIsland, done_eq, run_ask, hr.1, hr.2, Bool.not_false, Bool.and_self, when_true, hc, hs.staying, hs.scanning, hfull,
      State.selfTriggered, Bool.false_eq_true, if_false, Bool.false_and, ne_eq, not_true_eq_false, decide_false, Bool.and_false, all_cons, all_nil,
      run_seq, run_nop]
    rfl
  case cur => exact fun r => ⟨rfl, rfl⟩
  case num => split <;> rfl
  case pix => split <;> rfl

/-- The end of a line leaves LINE the line and the head without one; what follows begins in a state `u` that differs in the reports and the
head's record alone. -/
theorem lineEnd_closes {h : Fin 4} {s : State} {c : LineCap} (hr : Running s h) (hs : s.Hears h) (hc : (s.head h).cur = some c)
    (hfull : s.scanFull h = false) : ∃ u c', exec (.lineEnd h) s = .next ((afterLine h s).run ((enqueueLine h c').run u))
      ∧ Frame [] (.heads :: reporting) s u ∧ (u.head h).cur = none ∧ ((s.head h).skipping = false → (u.head h).skipping = false)
      ∧ c'.number = c.number ∧ c'.pix = c.pix := by
  obtain ⟨f, b, d, c', hrun, hf, hnum, hpix⟩ := lineEnd_run hr hs hc hfull
  have hrep : ∀ x ∈ reporting, x ∈ Part.heads :: reporting := fun _ hx => .tail _ hx
  have hmod : Frame [] (.heads :: reporting) s ((modHead h f).run s) := (modHead_frame h f s).mono (by simp) (by simp)
  have hhead := modHead_head h f s
  refine ⟨_, c', hrun, ?_⟩
  generalize (modHead h f).run s = v at hmod hhead
  have hJ := lineClosed_sameLine (v.head h)
  have hclose : InHead h (v.head h).SameLine [] (.heads :: reporting) (.seq (drivePhases h) (when b (shortEvent h d))) :=
    ⟨drivePhases_inHead hJ (.head _) h, (allUnder_when _ _).mpr fun _ => shortEvent_inHead hrep hJ (.head _) h d⟩
  obtain ⟨hframe, hline⟩ := hclose.sameLine
  obtain ⟨hcur, hskip⟩ := hf (s.head h)
  refine ⟨hmod.trans hframe, ?_, fun g => hline.skipping ?_, hnum, hpix⟩
  · rw [← run_seq, hline.cur, hhead, hcur]
  · rw [hhead, hskip, g]

theorem lineUnit_congr {s t : State} (hl : t.lineUnits = s.lineUnits) (h : Nat) : t.lineUnit h = s.lineUnit h :=
  congrArg (Store.get ({} : LineUnit) · h) hl

/-- LINE in service, which takes the lines of the head, queues one. -/
theorem enqueueLine_queues {h : Nat} {c : LineCap} {s : State} (hf : s.fenced islLine = false) (hk : (s.head h).skipping = false) :
    ∃ c', (((enqueueLine h c).run s).lineUnit h).queue = (s.lineUnit h).queue ++ [.line c'] ∧ c'.number = c.number ∧ c'.pix = c.pix := by
  refine ⟨if (s.lineUnit h).gapNext then { c with flags := withFlag flGap c.flags } else c, ?_, ?_, ?_⟩
  · simp [enqueueLine, hf, hk]
  · split <;> rfl
  · split <;> rfl

theorem lineEnd_arms {h : Fin 4} {s : State} {c : LineCap} (hr : Running s h) (hs : s.Hears h) (hc : (s.head h).cur = some c)
    (hfull : s.scanFull h = false) (hp : (s.head h).pendAt = none) :
    Answers (.lineEnd h) s fun t => t.rd .headState h = 2 ∧ (t.head h).cur = none
      ∧ (s.fenced islLine = false → (s.head h).skipping = false →
        ∃ c', (t.lineUnit h).queue = (s.lineUnit h).queue ++ [.line c'] ∧ c'.number = c.number ∧ c'.pix = c.pix) := by
  obtain ⟨u, c', hrun, hu, hcur, hskip, hnum, hpix⟩ := lineEnd_closes hr hs hc hfull
  refine ⟨_, hrun, ?_⟩
  have hafter : afterLine h s = headTo h hdArmed := by rw [afterLine, hp]
  obtain ⟨-, hh, hl⟩ := lineParts_mem (L := lineParts) fun _ hx => hx
  obtain ⟨-, hline⟩ := (enqueueLine_inHead (W := []) (lineClosed_sameLine (u.head h)) hh hl h c').sameLine
  obtain ⟨hto, hline'⟩ := (headTo_inHead (h := h) (W := [keyOf .headState h 0, epochKey (unitHead h)]) (L := []) (k := h) (.head _)
    (.tail _ (.head _)) hdArmed).sameLine (s := (enqueueLine h c').run u)
  rw [hafter]
  refine ⟨rd_of_rdN (headTo_rd h (by decide) _), by rw [hline'.cur, hline.cur, hcur], fun hf hk => ?_⟩
  obtain ⟨c'', hq, hnum', hpix'⟩ := enqueueLine_queues (c := c') ((hu.fenced (by decide) islLine).trans hf) (hskip hk)
  exact ⟨c'', by rw [lineUnit_congr (hto.2 .lineUnits List.not_mem_nil), hq, lineUnit_congr (hu.2 .lineUnits (by decide))], hnum'.trans hnum,
    hpix'.trans hpix⟩

theorem lineEnd_restarts {h : Fin 4} {s : State} {c : LineCap} (hr : Running s h) (hs : s.Hears h) (hc : (s.head h).cur = some c)
    (hfull : s.scanFull h = false) (hp : (s.head h).pendAt ≠ none) :
    Answers (.lineEnd h) s fun t => t.rd .headState h = 3 ∧ (t.head h).cur.map (·.number) = some (s.rdN .lineNumber h)
      ∧ (t.head h).pendAt = none := by
  obtain ⟨u, c', hrun, hu, -, -, -, -⟩ := lineEnd_closes hr hs hc hfull
  refine ⟨_, hrun, ?_⟩
  obtain ⟨⟨at', pos⟩, hat⟩ := Option.ne_none_iff_exists'.mp hp
  have hafter : afterLine h s = startLine h pos (decide (at' + 10 < s.time.toNat)) := by rw [afterLine, hat]
  obtain ⟨-, hh, hl⟩ := lineParts_mem (L := lineParts) fun _ hx => hx
  have hq := (enqueueLine_inHead (h := h) (W := []) lineClosed_any hh hl h c').frame u
  have hn : ((enqueueLine h c').run u).rdN .lineNumber h = s.rdN .lineNumber h :=
    congrArg BitVec.toNat ((hq.1 _ _ _ List.not_mem_nil).trans (hu.1 _ _ _ List.not_mem_nil))
  obtain ⟨hstate, -, hbegins⟩ := startLine_starts h pos (decide (at' + 10 < s.time.toNat)) ((enqueueLine h c').run u)
  rw [hafter]
  exact ⟨hstate, by rw [hbegins.number, hn], hbegins.pendAt⟩

end Sys2Proof.Machine
end

section
/-! PROOF. O21: triggers, position arrivals and the ends of lines. -/
namespace Sys2Proof.Proofs

open Sys2Proof.Machine

theorem lineTrigger_answers {h : Fin 4} {src : TrigFrom} {s : State}
    (hrun : exec (.lineTrigger h src) s = .next ((takeTrigger h none).run s)) (hs : s.Hears h) :
    (s.rd .headState h = 2 → Answers (.lineTrigger h src) s fun t => t.rd .headState h = 3
      ∧ t.rd .lineNumber h = s.rd .lineNumber h + 1 ∧ (t.head h).cur.map (·.number) = some (s.rdN .lineNumber h))
    ∧ (s.rd .headState h = 3 → Answers (.lineTrigger h src) s fun t => t.rd .headState h = 4
      ∧ (t.head h).pendAt = some (s.time.toNat, false))
    ∧ (s.rd .headState h = 4 → Answers (.lineTrigger h src) s fun t => t.rd .headState h = 4
      ∧ t.rdN .trigDropped h = min (s.rdN .trigDropped h + 1) 4294967295) := by
  refine ⟨fun hst => ⟨_, hrun, ?_⟩, fun hst => ⟨_, hrun, ?_⟩, fun hst => ⟨_, hrun, ?_⟩⟩
  · obtain ⟨hstate, hstep, hbegins⟩ := trigger_starts hs (State.rdN_eq hst)
    exact ⟨hstate, hstep, hbegins.number⟩
  · obtain ⟨hstate, hpend, -⟩ := trigger_pends hs (State.rdN_eq hst)
    exact ⟨hstate, hpend⟩
  · obtain ⟨hstate, hdrop⟩ := trigger_drops hs (State.rdN_eq hst)
    exact ⟨rd_of_rdN hstate, hdrop⟩

theorem rulingPositionArrival_answers {h : Fin 4} {f : Fin 256} {s : State} (hl : s.live = true) (hm : s.fenced islMotion = false)
    (hs : s.Hears h) (hst : s.rd .headState h = 2) (hsrc : s.rdN .trigSrc h = 2)
    (ha : s.encAxis (s.rdN .rulingAxis h) = true ∨ (s.axis (s.rdN .rulingAxis h)).readmitted = false)
    (hp : (256 * (s.head h).next : Nat) ≤ s.rulingAhead h (s.rulingL h f)) :
    Answers (.rulingPositionArrival h f) s fun t => (t.head h).cur.map (·.number) = some ((s.head h).next % 4294967296)
      ∧ (t.head h).next = (s.rulingAhead h (s.rulingL h f) / 256).toNat + 1
      ∧ t.rd .headState h = (if (t.head h).next = (s.head h).next + 1 then 3 else 4) := by
  refine ⟨_, rulingPositionArrival_run hl hm hs (State.rdN_eq hst) hsrc ha hp, ?_⟩
  have hs' := hs.frame (modHead_frame h (fun r => { r with lastL := s.rulingL h f }) s) (by decide) List.not_mem_nil (by rw [modHead_head])
  obtain ⟨-, hnum, hnext, hstate⟩ := rulingCross_plays hs' (State.rdN_eq hst) (s.head h).next
    ((s.rulingAhead h (s.rulingL h f) / 256).toNat - (s.head h).next + 1) (Nat.succ_pos _)
  have hle : (s.head h).next ≤ (s.rulingAhead h (s.rulingL h f) / 256).toNat := by omega
  refine ⟨hnum, hnext.trans (by omega), rd_of_rdN (hstate.trans ?_)⟩
  rw [hnext, apply_ite BitVec.toNat]
  exact if_congr (by omega) rfl rfl

/-- Settles O21: a trigger by the state of its head; an arrival as its triggers one by one; the end of a line as what follows it. -/
theorem linesStartAndEnd : Obligations.LinesStartAndEnd := by
  refine ⟨fun h src s hl hf ht hsrc hleave hk => lineTrigger_answers (lineTrigger_run hl ht hsrc) ⟨hf, hleave, hk⟩,
    fun h f s hl hf hm hsrc hk hleave hst ha hp => rulingPositionArrival_answers hl hm ⟨hf, hleave, hk⟩ hst hsrc ha hp,
    fun h s c hr hc hleave hk hfull => ?_⟩
  have hs : s.Hears h := ⟨hr.2, hleave, hk⟩
  exact ⟨lineEnd_arms hr hs hc hfull, lineEnd_restarts hr hs hc hfull⟩

end Sys2Proof.Proofs
end

section
/-! SUPPORT. The writes of HEAD_EN and HOST_TRIG. -/
namespace Sys2Proof.Machine

-- One proof at a time: a thread for each would need more memory than a check has.
set_option Elab.async false

open Prog

/-! ### HOST_TRIG -/

theorem writeEffect_hostTrig (p : Path) (h : Nat) (w old : U32) (s : State) :
    (writeEffect p { name := .hostTrig, inst := h } w old).run s = (takeTrigger h none).run s := rfl

/-- A write of HOST_TRIG holds no value: it counts for the calibration, and is a trigger without a number. -/
theorem hostTrig_applies (p : Path) (h : Nat) (s : State) : (applyWrite { path := p, ents := [({ name := .hostTrig, inst := h }, 1)] }).run s =
    (takeTrigger h none).run ((invalidateIf (Ent.index { name := .hostTrig, inst := h })).run s) := by
  have htake : (takeValue { path := p } { name := .hostTrig, inst := h } 1).run s =
      (invalidateIf (Ent.index { name := .hostTrig, inst := h })).run s := by
    rw [takeValue, if_neg (by simp), if_pos (by simp [accessOf, Ent.row, rowOf])]
  rw [applyWrite_plain p _ 1 s rfl (by simp), writeEffect_hostTrig, ← htake]
  rfl

theorem invalidateIf_frame (i : Nat) (s : State) : Frame calKeys [.calTime] s ((invalidateIf i).run s) :=
  Prog.run_frame (invalidateIf_within (fun _ hk => hk) (.head _) i) s

theorem calState_ne {h k : Nat} (hk : k ≠ h) : keyOf .calState k 0 ≠ keyOf .calState h 0 := by
  simp only [keyOf, indexOf, subOf, rowOf]
  omega

/-- A calibration that is invalidated is none that runs. -/
theorem invalidateIf_lineKind {h : Nat} (i : Nat) {s : State} (hs : s.lineKind h = 0) : ((invalidateIf i).run s).lineKind h = 0 := by
  refine Prog.run_keeps (P := fun o => o.leavesEntry (keyOf .calState h 0) ∨ o = .put .calState h 0 0) (I := fun u => u.lineKind h = 0) ?_ _ ?_ s hs
  · rintro o u (ho | rfl) hu
    · exact (lineKind_congr (State.rd_leaves ho)).trans hu
    · rw [State.lineKind, State.rdN, State.rd_put]
      rfl
  · simp only [invalidateIf, invalidateCal, all_ask, all_when, all_seq, all_op, all_each]
    refine fun _ _ => ⟨.inl trivial, fun k _ => ?_⟩
    by_cases hk : k = h
    · exact .inr (by rw [hk])
    · exact .inl (calState_ne hk)

theorem calKeys_apart (h : Fin 4) : keyOf .headState h 0 ∉ calKeys ∧ keyOf .lineNumber h 0 ∉ calKeys ∧ keyOf .trigDropped h 0 ∉ calKeys := by
  revert h; decide

/-- An accepted HOST_TRIG is a trigger in a state `u` that differs in the calibration alone. -/
theorem hostTrig_answers {p : Path} {h : Fin 4} {s : State} {P : State → Prop} (ht : Takes s p { name := .hostTrig, inst := h } 1) (hs : s.Hears h)
    (hP : ∀ u : State, u.Hears h → Frame calKeys [.calTime] s u → P ((takeTrigger h none).run u)) :
    Answers (.hostTrig p h) s P := by
  have hinv := invalidateIf_frame (Ent.index { name := .hostTrig, inst := h }) s
  have hkind := invalidateIf_lineKind (Ent.index { name := .hostTrig, inst := h }) hs.scanning
  have happ := hostTrig_applies p h s
  generalize (invalidateIf _).run s = u at hinv hkind happ
  have hhead : u.head h = s.head h := congrArg (Store.get ({} : Head) · h) (hinv.2 .heads (by decide))
  have hu : u.Hears h := ⟨(hinv.fenced (by decide) h).trans hs.serving, by rw [hhead, hs.staying], hkind⟩
  have hfr := hinv.mono (W' := calKeys ++ lineKeys h) (L' := .calTime :: lineParts) (fun _ hk => List.mem_append_left _ hk)
    (by simp)
  have htr := ((takeTrigger_inHead (h := h) (fun _ hx => hx) none).frame u).mono (W' := calKeys ++ lineKeys h) (L' := .calTime :: lineParts)
    (fun _ hk => List.mem_append_right _ hk) fun _ hx => .tail _ hx
  refine writeRow_answers rfl ht (by simp) (by simp) (by rw [happ]; exact hfr.trans htr) (by decide) ?_
  rw [happ]
  exact hP u hu hinv

/-! ### HEAD_EN -/

theorem writeEffect_headEn (p : Path) (h : Nat) (w old : U32) (s : State) :
    (writeEffect p { name := .headEn, inst := h } w old).run s = (if w = 0 then headDisable h else headEnable h).run s := rfl

/-- A write of HEAD_EN takes its value, and then the head is enabled or disabled. -/
theorem headEn_applies (p : Path) (h : Nat) (w : U32) (s : State) : (applyWrite { path := p, ents := [({ name := .headEn, inst := h }, w)] }).run s =
    (if w = 0 then headDisable h else headEnable h).run ((commit { path := p } .headEn h 0 w).run s) := by
  rw [applyWrite_plain p _ w s rfl (by simp), masked_full rfl, writeEffect_headEn]
  rfl

theorem headEn_placed (h : Fin 4) : Ent.Placed { name := .headEn, inst := h } := ⟨nofun, h.isLt, Nat.one_pos⟩

theorem commitKeys_headEn (h : Fin 4) : commitKeys { name := .headEn, inst := h } = epochKey (unitHead h) :: calKeys := by
  revert h; decide

/-- An accepted write of HEAD_EN answers with its value in place, and what the head did from the state `u` after the value was taken. -/
theorem headEn_answers {c : Instr} {p : Path} {h : Fin 4} {w : U32} {s : State} {P : State → Prop}
    (hx : exec c s = .next ((writeRow p { name := .headEn, inst := h } w).run s)) (ht : Takes s p { name := .headEn, inst := h } w)
    (hP : ∀ u : State, Frame ([keyOf .headEn h 0, epochKey (unitHead h)] ++ calKeys) (.calTime :: reporting) s u →
      P ((if w = 0 then headDisable h else headEnable h).run u)) :
    Answers c s fun t => t.rd .headEn h = w ∧ P t := by
  obtain ⟨hv, -, hc⟩ := applyWrite_gives (e := { name := .headEn, inst := h }) (p := p) (w := w) (s := s) (y := 2) (headEn_placed h) rfl
    (by simp) rfl (by simp)
  refine ⟨_, hx, ?_⟩
  rw [writeRow_takes ht (by simp) (by simp) fun k => congrArg (Store.get ({} : CmdPath) · k) hc]
  refine ⟨hv.trans (masked_full rfl w), ?_⟩
  rw [headEn_applies]
  refine hP _ ?_
  exact (put_frame (.head _) _ s).trans ((commit_frame { path := p } .headEn h 0 w s).mono
    (by rw [commitKeys_headEn]; exact fun _ hk => .tail _ hk) fun _ hx => hx)

theorem headEn_apart (h : Fin 4) : keyOf .headState h 0 ∉ [keyOf .headEn h 0, epochKey (unitHead h)] ++ calKeys
    ∧ keyOf .headState h 0 ≠ keyOf .calState h 0 := by
  revert h; decide

/-- Outside SCAN an enabled head is IDLE. -/
theorem headEnable_run_idle {h : Nat} {s : State} (hst : s.rdN .headState h = 0) (hm : ¬ (s.modes.mode = .scan ∧ s.modes.target = none)) :
    (headEnable h).run s = (headTo h hdIdle).run s := by
  have hw : (decide (s.modes.mode = .scan) && s.modes.target.isNone) = false := by simpa [Option.isSome_iff_ne_none] using hm
  simp [headEnable, State.headState', hst, hdOff, hw]

/-- In SCAN an enabled head arms. -/
theorem headEnable_run_scan {h : Nat} {s : State} (hst : s.rdN .headState h = 0) (hm : s.modes.mode = .scan ∧ s.modes.target = none) :
    (headEnable h).run s = (arm h).run ((headTo h hdIdle).run s) := by
  simp [headEnable, State.headState', hst, hdOff, hm.1, hm.2]

/-- What an arming does after the head's change of state leaves the state alone. -/
theorem headState_rdN_arm (h : Fin 4) (s : State) : ((arm h).run s).rdN .headState h = 2 := by
  have hemit (ev : Event) (hc : ev ≠ .calDone) (hs : ev.severity ≠ .halt) (unit isl : Nat) (p1 p2 : U32) :
      (emit ev unit isl p1 p2).All (Op.leavesEntry (keyOf .headState h 0)) :=
    emitBy_all hs (fun _ he hd => absurd (Option.some.inj (he.symm.trans hd)) hc) trivial _ _ _ _ _
  have hone (ev : Event) (hc : ev ≠ .calDone) (hs : ev.severity ≠ .halt) (isl : Nat) (p1 p2 : U32) (b : Bool) :
      (when b (headOnce h ev isl p1 p2)).All (Op.leavesEntry (keyOf .headState h 0)) :=
    (all_when _ _ _).mpr fun _ _ => (all_when _ _ _).mpr fun _ => ⟨fun _ => trivial, hemit ev hc hs _ _ _ _⟩
  have hpace (b : Bool) : (when b (each (List.range 8) fun k => modLstr k fun x => { x with clipped := false })).All
      (Op.leavesEntry (keyOf .headState h 0)) := (all_when _ _ _).mpr fun _ => (all_each _ _ _).mpr fun _ _ _ => trivial
  simp only [arm, run_ask, all_cons, all_nil, run_seq, run_nop, State.rdN]
  rw [Prog.run_rd ((all_when _ _ _).mpr fun _ => hemit .linkReplayOff (by decide) (by decide) _ _ _ _),
    Prog.run_rd (hone .seamMismatch (by decide) (by decide) _ _ _ _), Prog.run_rd (hone .seamMismatch (by decide) (by decide) _ _ _ _),
    Prog.run_rd (hone .regNoSpace (by decide) (by decide) _ _ _ _), Prog.run_rd (hpace _)]
  exact headTo_rd h (by decide) _

/-- The record of a head has no line playing and none pending. -/
def Head.idle (r : Head) : Prop := r.cur = none ∧ r.pendAt = none

theorem lineClosed_idle : LineClosed Head.idle := fun _ _ h g => ⟨h.cur.trans g.1, h.pendAt.trans g.2⟩

/-- A disarmed head is in the state that it was given, with no line. -/
theorem disarm_idle (h : Fin 4) {st : Nat} (hst : st < 4294967296) (s : State) :
    ((disarm h st).run s).rdN .headState h = st ∧ (((disarm h st).run s).head h).idle := by
  obtain ⟨hr, hh, hu⟩ := lineParts_mem (L := lineParts) fun _ hx => hx
  simp only [disarm, all_cons, all_nil, run_seq, run_nop]
  generalize (settleLast h).run s = u
  have hmod : (((modHead h fun r => { r with cur := none, pendAt := none, leaving := false, stale := false }).run u).head h).idle := by
    rw [modHead_head]
    exact ⟨rfl, rfl⟩
  generalize (modHead h _).run u = v at hmod
  have hdrive := (drivePhases_inHead (W := []) lineClosed_idle hh h).run hmod
  have hto := (headTo_inHead (W := lineKeys h) (L := []) (k := h) (by simp [lineKeys]) (by simp [lineKeys]) st).run hdrive.2
  have hpage := (closePage_inHead (W := []) hr hu h).run hto.2
  exact ⟨(congrArg BitVec.toNat (hpage.1.1 _ _ _ List.not_mem_nil)).trans (headTo_rd h hst _), hpage.2⟩

theorem headEn_subset (h : Nat) : ∀ k ∈ [keyOf .headEn h 0, epochKey (unitHead h)] ++ calKeys,
    k ∈ [keyOf .headEn h 0, keyOf .headState h 0, epochKey (unitHead h)] ++ calKeys := by
  intro k hk
  simp only [List.cons_append, List.nil_append, List.mem_cons] at hk ⊢
  exact hk.imp id .inr

theorem calState_mem (h : Fin 4) : keyOf .calState h 0 ∈ calKeys := List.mem_map_of_mem (List.mem_range.mpr h.isLt)

theorem abandonCal_inHead {h k : Nat} {J : Head → Prop} {W : List Nat} (hW : keyOf .calState k 0 ∈ W) (L : List Part) :
    InHead h J W L (abandonCal k) := by
  simp [abandonCal, wr_inHead hW]

theorem headDisable_run {h : Nat} {s : State} (hst : s.rdN .headState h ≠ 0) :
    (headDisable h).run s = (abandonCal h).run ((disarm h hdOff).run ((truncateLine h).run s)) := by
  have hon : s.headState' h ≠ hdOff := hst
  simp only [headDisable, run_ask, hon, ne_eq, not_false_eq_true, decide_true, when_true, all_cons, all_nil, run_seq, run_nop]

theorem headDisable_frame (h : Fin 4) (s : State) : Frame ([keyOf .headEn h 0, keyOf .headState h 0, epochKey (unitHead h)] ++ calKeys)
    (.calTime :: .heads :: .lineUnits :: reporting) s ((headDisable h).run s) := by
  have hr : ∀ x ∈ reporting, x ∈ Part.calTime :: .heads :: .lineUnits :: reporting := fun _ hx => .tail _ (.tail _ (.tail _ hx))
  refine InHead.frame (h := h) ?_ s
  simp only [headDisable, allUnder_ask, allUnder_when, allUnder_all, List.forall_mem_cons]
  exact fun _ _ _ => ⟨truncateLine_inHead (.tail _ (.head _)) (.tail _ (.tail _ (.head _))) h,
    disarm_inHead hr (.tail _ (.head _)) (.tail _ (.tail _ (.head _))) (.tail _ (.head _)) (.tail _ (.tail _ (.head _))) _,
    abandonCal_inHead (List.mem_append_right _ (calState_mem h)) _, nofun⟩

/-- A head that is not OFF is OFF once disabled, and has no line playing or pending. -/
theorem headDisable_off {h : Fin 4} {s : State} (hst : s.rdN .headState h ≠ 0) :
    ((headDisable h).run s).rdN .headState h = 0 ∧ (((headDisable h).run s).head h).idle := by
  obtain ⟨hstate, hidle⟩ := disarm_idle h (st := hdOff) (by decide) ((truncateLine h).run s)
  obtain ⟨hf, hidle'⟩ := (abandonCal_inHead (J := Head.idle) (W := [keyOf .calState h 0]) (.head _) []).run hidle
  have hkey : keyOf .headState h 0 ∉ [keyOf .calState h 0] := fun hm => (headEn_apart h).2 (List.mem_singleton.mp hm)
  rw [headDisable_run hst]
  exact ⟨(congrArg BitVec.toNat (hf.1 _ _ _ hkey)).trans hstate, hidle'⟩

end Sys2Proof.Machine
end

section
/-! PROOF. O20: the writes of HEAD_EN and HOST_TRIG. -/
namespace Sys2Proof.Proofs

open Sys2Proof.Machine

theorem headEnable_answers {p : Path} {h : Fin 4} {s : State} (ht : Takes s p { name := .headEn, inst := h } 1) (hst : s.rdN .headState h = 0) :
    Answers (.headEnable p h) s fun t => t.rd .headEn h = 1
      ∧ t.rd .headState h = (if s.modes.mode = .scan ∧ s.modes.target = none then 2 else 1)
      ∧ (¬ (s.modes.mode = .scan ∧ s.modes.target = none) →
        Frame ([keyOf .headEn h 0, keyOf .headState h 0, epochKey (unitHead h)] ++ calKeys) (.calTime :: reporting) s t) := by
  refine headEn_answers rfl ht fun u hu => ?_
  have hst' : u.rdN .headState h = 0 := (congrArg BitVec.toNat (hu.1 _ _ _ (headEn_apart h).1)).trans hst
  have hmodes : u.modes = s.modes := hu.2 .modes (by decide)
  rw [if_neg (by decide), ← hmodes]
  by_cases hm : u.modes.mode = .scan ∧ u.modes.target = none
  · rw [if_pos hm, headEnable_run_scan hst' hm]
    exact ⟨rd_of_rdN (headState_rdN_arm h _), fun g => absurd hm g⟩
  · rw [if_neg hm, headEnable_run_idle hst' hm]
    have hto : InHead h Head.any ([keyOf .headEn h 0, keyOf .headState h 0, epochKey (unitHead h)] ++ calKeys) (.calTime :: reporting)
        (headTo h hdIdle) := headTo_inHead (by simp) (by simp) _
    refine ⟨rd_of_rdN (headTo_rd h (by decide) u), fun _ => (hu.mono (headEn_subset h) fun _ hx => hx).trans (hto.frame u)⟩

theorem headDisable_answers {p : Path} {h : Fin 4} {s : State} (ht : Takes s p { name := .headEn, inst := h } 0) (hst : s.rdN .headState h ≠ 0) :
    Answers (.headDisable p h) s fun t => t.rd .headEn h = 0 ∧ t.rd .headState h = 0 ∧ (t.head h).cur = none ∧ (t.head h).pendAt = none
      ∧ Frame ([keyOf .headEn h 0, keyOf .headState h 0, epochKey (unitHead h)] ++ calKeys)
        (.calTime :: .heads :: .lineUnits :: reporting) s t := by
  refine headEn_answers rfl ht fun u hu => ?_
  have hst' : u.rdN .headState h ≠ 0 := by rwa [State.rdN, hu.1 _ _ _ (headEn_apart h).1]
  rw [if_pos rfl]
  obtain ⟨hstate, hcur, hpend⟩ := headDisable_off hst'
  exact ⟨rd_of_rdN hstate, hcur, hpend, (hu.mono (headEn_subset h) (by decide)).trans (headDisable_frame h u)⟩

section
variable {p : Path} {h : Fin 4} {s : State} (ht : Takes s p { name := .hostTrig, inst := h } 1) (hs : s.Hears h)
include ht hs

theorem hostTrig_starts (hst : s.rd .headState h = 2) : Answers (.hostTrig p h) s fun t => t.rd .headState h = 3
    ∧ t.rd .lineNumber h = s.rd .lineNumber h + 1 ∧ (t.head h).cur.map (·.number) = some (s.rdN .lineNumber h) :=
  hostTrig_answers ht hs fun u hu hinv => by
    obtain ⟨hstate, hnum, -⟩ := calKeys_apart h
    obtain ⟨h3, hstep, hbegins⟩ := trigger_starts hu (State.rdN_eq ((hinv.1 _ _ _ hstate).trans hst))
    exact ⟨h3, by rw [hstep, hinv.1 _ _ _ hnum], by rw [hbegins.number, State.rdN, hinv.1 _ _ _ hnum]⟩

theorem hostTrig_pends (hst : s.rd .headState h = 3) : Answers (.hostTrig p h) s fun t => t.rd .headState h = 4
    ∧ (t.head h).pendAt = some (s.time.toNat, false) ∧ Frame (keyOf .headState h 0 :: calKeys) [.heads, .calTime] s t :=
  hostTrig_answers ht hs fun u hu hinv => by
    obtain ⟨hstate, -, -⟩ := calKeys_apart h
    obtain ⟨h4, hpend, hframe⟩ := trigger_pends hu (State.rdN_eq ((hinv.1 _ _ _ hstate).trans hst))
    have htime : u.time = s.time := hinv.2 .time (by decide)
    exact ⟨h4, by rw [hpend, htime],
      (hinv.mono (fun _ hk => .tail _ hk) fun _ hx => .tail _ hx).trans (hframe.mono (by simp) (by simp))⟩

theorem hostTrig_drops (hst : s.rd .headState h = 4) : Answers (.hostTrig p h) s fun t => t.rd .headState h = 4
    ∧ t.rdN .trigDropped h = min (s.rdN .trigDropped h + 1) 4294967295 :=
  hostTrig_answers ht hs fun u hu hinv => by
    obtain ⟨hstate, -, hdrop⟩ := calKeys_apart h
    obtain ⟨h4, hcount⟩ := trigger_drops hu (State.rdN_eq ((hinv.1 _ _ _ hstate).trans hst))
    exact ⟨rd_of_rdN h4, hcount.trans (by rw [State.rdN, hinv.1 _ _ _ hdrop])⟩

end

/-- Settles O20: the head acts on the state in which the write has taken its value, which differs in the epoch, the calibration and the reports. -/
theorem headWritesComplete : Obligations.HeadWritesComplete :=
  ⟨fun _ _ _ ht hst => headEnable_answers ht (State.rdN_eq hst), fun _ _ _ ht hst => headDisable_answers ht fun g => hst (rd_of_rdN g),
    fun _ _ _ ht hf hleave hk => ⟨hostTrig_starts ht ⟨hf, hleave, hk⟩, hostTrig_pends ht ⟨hf, hleave, hk⟩, hostTrig_drops ht ⟨hf, hleave, hk⟩⟩⟩

end Sys2Proof.Proofs
end

section
/-! PROOF. O22: the exposure windows and LINE_DUR. -/
namespace Sys2Proof.Machine

-- One proof at a time: a thread for each would need more memory than a check has.
set_option Elab.async false

open Prog

theorem inIsland_run {isl : Nat} {p : Prog} {s : State} (hr : Running s isl) : (inIsland isl p).run s = p.run s := by
  simp [inIsland, hr.1, hr.2]

/-- The phase outputs leave the windows as they are. -/
theorem drivePhases_windows (h : Nat) (s : State) : (((drivePhases h).run s).head h).windows = (s.head h).windows := by
  simp [drivePhases]

theorem exposureWindowOpen_answers {h : Fin 4} {c : Fin 3} {s : State} (hr : Running s h) (hw : (s.head h).windowLine.isSome = true)
    (hl : ((s.head h).latched.getD c (0, 0)).2 ≠ 0) : Answers (.exposureWindowOpen h c) s fun t =>
      (t.head h).windows = (s.head h).windows.set c true ∧ Frame [] [.heads] s t := by
  refine ⟨_, rfl, ?_⟩
  rw [inIsland_run hr]
  simp only [run_ask, hw, hl, ne_eq, not_false_eq_true, decide_true, Bool.and_self, when_true, run_seq (modHead _ _)]
  exact ⟨by rw [drivePhases_windows, modHead_head], (modHead_frame h _ s).trans (drivePhases_frame h _)⟩

theorem modQueued_head (h n : Nat) (f : LineCap → LineCap) (s : State) (k : Nat) : ((modQueued h n f).run s).head k = s.head k := rfl

/-- What is noted of a window once it has closed: in the line that plays, and in the one that waits in LINE. -/
theorem exposureWindowClose_run {h : Fin 4} {c : Fin 3} {s : State} (hr : Running s h) (hw : (s.head h).windows.getD c false = true) :
    ∃ p : Prog, exec (.exposureWindowClose h c) s = .next (p.run ((drivePhases h).run ((modHead h fun r =>
      { r with windows := r.windows.set c false, shut := r.shut.set c true }).run s)))
      ∧ ∀ u : State, ((p.run u).head h).windows = (u.head h).windows ∧ Frame [] [.heads, .lineUnits] u (p.run u) := by
  refine ⟨?p, ?run, ?post⟩
  case run =>
    show execExposureWindowClose h c s = _
    simp only [execExposureWindowClose, done_eq, inIsland_run hr, run_ask, hw, when_true, all_cons, all_nil, run_seq, run_nop]
    rfl
  case post =>
    intro u
    cases (s.head h).windowLine with
    | none => exact ⟨rfl, .refl _ _ u⟩
    | some n =>
      refine ⟨?_, InHead.frame (h := h) (fun _ _ => ⟨modHead_inHead_any (.head _) h _, modQueued_inHead (.tail _ (.head _)) h n _⟩) u⟩
      rw [run_ask, run_seq, modQueued_head, modHead_head]

theorem exposureWindowClose_answers {h : Fin 4} {c : Fin 3} {s : State} (hr : Running s h) (hw : (s.head h).windows.getD c false = true) :
    Answers (.exposureWindowClose h c) s fun t => (t.head h).windows = (s.head h).windows.set c false ∧ Frame [] [.heads, .lineUnits] s t := by
  obtain ⟨p, hrun, hp⟩ := exposureWindowClose_run hr hw
  refine ⟨_, hrun, ?_, ?_⟩
  · rw [(hp _).1, drivePhases_windows, modHead_head]
  · exact (((modHead_frame h _ s).trans (drivePhases_frame h _)).mono (by simp) (by simp)).trans (hp _).2

end Sys2Proof.Machine

namespace Sys2Proof.Proofs

open Sys2Proof.Machine Prog

/-- Settles O22: the phase outputs follow the windows, and what is noted of a closed window is noted in the line. -/
theorem exposureAndDurationComplete : Obligations.ExposureAndDurationComplete := by
  refine fun h s hr => ⟨fun c hw hl => exposureWindowOpen_answers hr hw hl, fun c hw => exposureWindowClose_answers hr hw, _, rfl, ?_⟩
  rw [inIsland_run hr]
  exact ⟨State.rd_put .., put_frame (.head _) _ s⟩

end Sys2Proof.Proofs
end
